-- ==== Sys2Proof/Word.lean ====
section
/-! DEFINITION. The word types of the GT-420: what the manual itself treats as bits. -/

namespace Sys2Proof

/-- One word of the exchange memory (R169, R184). -/
abbrev Word := BitVec 16

/-- One byte on the link port (R172). -/
abbrev Byte := BitVec 8

/-- A journal sequence number, 32-bit and modular (R153). -/
abbrev Seq := BitVec 32

end Sys2Proof
end

