-- ==== Sys2Proof/Syntax.lean ====
section
/-! DEFINITION. The commands of the block: one constructor for each row of spec/opcode_table.json.

A row that is a command of the manual (SET CLOCK, READ RECORD, ...) carries the operand words of its rule, its command
buffer where its rule names one, and its origin port where its rule journals or records one (R179). A row that is an
event carries what tells one such event from another (the lane, the zone, the bit on the data line). -/

namespace Sys2Proof

/-- A lane and its door, 0–3. -/
abbrev Lane := Fin 4
/-- A bell zone, 0–7. -/
abbrev Zone := Fin 8
/-- A command channel, 0–7. -/
abbrev Channel := Fin 8

/-- The two ports (R170). The journal's two consumers bear the same names (R157). -/
inductive Port where
  | bus
  | link
  deriving DecidableEq, Repr

/-- A command buffer as a block names it: its address (word 6) and length (word 7), R179. -/
structure Buffer where
  addr : Word
  len : Word
  deriving DecidableEq, Repr

/-- The two ways a frame ends (R47): the gap counter runs out, or a 37th bit is taken. -/
inductive FrameEnd where
  | gap
  | extraBit (bit : Bool)
  deriving DecidableEq, Repr

/-- The two words of a port's notice summary (R181). -/
inductive SummaryWord where
  | channelWord
  | eventWord
  deriving DecidableEq, Repr

/-- The commands of the block, one constructor per row of the table. -/
inductive Instr where
  -- time base
  | crystalSecond
  | mainsTrip
  | retentionLostLatchSet
  | mainsArrival
  | resetAssert
  | selfTestEnd (passed : Bool)
  | setClock (origin : Port) (day minute second weekday : Word)
  | trimClock (seconds : Word)
  | readClock
  | acknowledgeStart
  -- roster
  | loadRecord (buf : Buffer)
  | readRecord (selector ref0 ref1 ref2 : Word) (buf : Buffer)
  | deleteRecord (selector ref0 ref1 ref2 : Word)
  | scanIndex (site numberHigh numberLow : Word) (buf : Buffer)
  -- lanes
  | writeLane (lane mode sensor release held passback failState alarm : Word)
  | readLane (lane : Word) (buf : Buffer)
  | frameArrival (lane : Lane) (ending : FrameEnd)
  | grantPassageReport (lane : Lane)
  | redLampExpiry (lane : Lane)
  -- doors
  | rotationPulse (lane : Lane)
  | contactOpening (lane : Lane)
  | contactClosing (lane : Lane)
  | releaseExpiry (lane : Lane)
  | heldCountdownExpiry (lane : Lane)
  | releaseDoor (origin : Port) (lane : Word)
  | setDoorMode (lane mode : Word)
  | lockdown (origin : Port)
  | clearLockdown (origin : Port)
  | resetAlarm (origin : Port) (lane : Word)
  | readDoors
  | setReentryWindow (minutes : Word)
  | emergencyAssert
  | emergencyRelease
  | reentryWindowExpiry
  -- pay calculator
  | writeShift (buf : Buffer)
  | readShift (shift : Word) (buf : Buffer)
  | writePayClass (number base overtime holiday night : Word)
  | readPayClass (number : Word)
  | writeHolidays (count : Word) (buf : Buffer)
  | readHolidays (buf : Buffer)
  | closePeriod (origin : Port) (period : Word)
  | readTotals (selector ref0 ref1 ref2 : Word) (buf : Buffer)
  -- attendance list
  | listPresent (filter skip : Word) (buf : Buffer)
  | forceOut (origin : Port) (selector ref0 ref1 ref2 day minute second : Word)
  | forceIn (origin : Port) (selector ref0 ref1 ref2 day minute second : Word)
  | cancel (origin : Port) (selector ref0 ref1 ref2 : Word)
  -- bells
  | writeBellEntry (index flags moment offset dayMask zones pattern : Word)
  | readBellEntry (index : Word)
  | writePattern (number on period strokes gap groups last : Word)
  | readPattern (number : Word)
  | ringZones (origin : Port) (zones pattern : Word)
  | silenceZones (zones : Word)
  | readBells (buf : Buffer)
  | strokeCounterExpiry (zone : Zone)
  -- journal
  | readJournal (consumer mode seqHigh seqLow : Word) (buf : Buffer)
  | releaseJournal (consumer seqHigh seqLow : Word)
  | setConsumer (consumer action threshold : Word)
  | journalStatus (buf : Buffer)
  -- exchange memory, channels and ports
  | requestCellWrite (by_ : Port) (channel : Channel) (value : Word)
  | faultCellWrite (by_ : Port) (channel : Channel) (value : Word)
  | summaryWrite (by_ : Port) (owner : Port) (which : SummaryWord) (value : Word)
  | rearmCellWrite (by_ : Port) (owner : Port) (value : Word)
  | portWordWrite (by_ : Port) (addr : BitVec 13) (value : Word)
  | engineTurn
  | setChannelNotice (channel acknowledge fault : Word)
  | readChannels
  -- link port and reader clock
  | linkPointerSet (content : Byte)
  | linkDataWord (content : Byte)
  | linkReadByte
  | linkTransferEnd
  | readerClockPulse (lane : Lane) (bit : Bool)
  | retentionSupplyLost
  | linkTransferStart (address : BitVec 7) (read : Bool)
  | linkLeadByte (content : Byte)
  | linkDataHighByte (content : Byte)
  deriving DecidableEq, Repr

end Sys2Proof
end

