-- ==== Sys2Proof/Decode.lean ====
section
/-! DEFINITION. Commands as words: the table gives no row any bits, so no word spells a command (log 11). -/

namespace Sys2Proof

/-- The command that a word of the table spells: none, since no row of the table has bits (log 11). -/
def decodeTableWord (_nbits _w : Nat) : Option Instr := none

end Sys2Proof
end

