-- ==== Sys2Proof/Config.lean ====
section
/-! DEFINITION. What the part fixes once for all, and the free values the manual leaves open. -/

namespace Sys2Proof.Config

/-- The words of the journal's ring (R156). -/
def ringWords : Nat := 65536

/-- The limit of the hold duration counter (R13): 65,535 × 65,536 − 1. -/
def holdLimit : Nat := 4294901759

/-- The limit of a TRIM CLOCK and of the slew remainder, in seconds (R9). -/
def slewLimit : Int := 3600

/-- The span cap of one attendance, in minutes (R92, R105). -/
def spanCap : Nat := 960

/-- The first word of page 1 (R169). -/
def firstPageWord : Nat := 0x0100

/-- The words of the exchange memory (R169). -/
def exchangeWords : Nat := 0x2000

/-- "SALTPINE IMJARA GT-420", two characters a word (TABLE 11-2, words 000h–00Ah). -/
def identification : List Word :=
  [0x5341, 0x4C54, 0x5049, 0x4E45, 0x2049, 0x4D4A, 0x4152, 0x4120, 0x4754, 0x2D34, 0x3230]

/-- What a read of pages 1–31 returns while the self-test state is FAILED: "a value that this manual does not fix" (R18).
A FREE VALUE (log 5): it has no body, and each such read applies it to the next count of `State.freeCount`. -/
opaque failedPageRead : Nat → Word

/-- The reader and sensor inputs of a lane (TABLE 11-11). -/
inductive LaneInput where
  | readerClock
  | readerData
  | passagePulse
  | doorContact
  deriving DecidableEq, Repr

/-- Whether a reader or sensor input of a lane rests low. The part takes an open circuit as the line's resting level, and R186 names
that level for the emergency and reset lines alone. A FREE VALUE (log 36): it has no body. -/
opaque restsLow : LaneInput → Fin 4 → Bool

end Sys2Proof.Config
end

