-- ==== Sys2Proof/Machine/State.lean ====
section
/-! DEFINITION. The state of the GT-420 as plain data, its fault and refusal types, and its state after the first cold start. -/

namespace Sys2Proof.Machine

/-! ## Faults and refusals -/

/-- The manual names no event that stops the part, so no meaning faults: the type has no constructor (safe). -/
inductive Fault : Type
  deriving DecidableEq, Repr

/-- Why a command has no meaning in the model. -/
inductive Refusal where
  /-- Raised by an arm of `exec` whose command is not modelled (safe: nothing is claimed of it). No arm raises it. -/
  | notModelled (mnemonic : String)
  deriving DecidableEq, Repr

/-! ## Common names -/

/-- A roster slot, 0–2047 (R22). -/
abbrev Slot := Fin 2048
/-- A shift number, 0–15 (R80). -/
abbrev ShiftNumber := Fin 16
/-- A pay class number, 0–15 (R80). -/
abbrev ClassNumber := Fin 16
/-- A bell schedule entry index, 0–63 (R136). -/
abbrev BellIndex := Fin 64
/-- A bell pattern number, 0–7 (R136). -/
abbrev PatternNumber := Fin 8

/-- A time: day number, minute of day, second (TABLE 1-1). -/
structure Time where
  day : Nat
  minute : Nat
  second : Nat
  deriving DecidableEq, Repr

/-- A badge key: site and badge number (section 2.2). -/
structure Key where
  site : BitVec 6
  number : BitVec 18
  deriving DecidableEq, Repr

/-- A badge key with its issue level, as a frame delivers them (R48). -/
structure Badge where
  key : Key
  issue : BitVec 4
  deriving DecidableEq, Repr

/-- A set of ports (R184). -/
structure PortSet where
  bus : Bool
  link : Bool
  deriving DecidableEq, Repr

/-! ## Time base (chapter 1) -/

/-- The power state (section 1.5): "With neither mains nor battery, the part holds nothing" is `noSupply`. -/
inductive PowerState where
  | mainsRun
  | batteryHold
  | noSupply
  deriving DecidableEq, Repr

/-- The kind of a start (R14, R15). -/
inductive StartKind where
  | cold
  | warm
  | reset
  deriving DecidableEq, Repr

/-- The stage a start in progress has reached (TABLE 1-5, stages 1 to 5). -/
inductive StartStage where
  | decision
  | retained
  | startEntry
  | lapses
  | selfTest
  deriving DecidableEq, Repr

/-- A start in progress (R16). -/
structure StartProgress where
  kind : StartKind
  stage : StartStage
  deriving DecidableEq, Repr

/-- The self-test state (R18). -/
inductive SelfTest where
  | notTested
  | testing
  | passed
  | failed
  deriving DecidableEq, Repr

/-- How long the minute in progress runs (R5). `longRepeated`: its second 59 runs for the second time. -/
inductive MinuteLength where
  | ordinary
  | short
  | long
  | longRepeated
  deriving DecidableEq, Repr

/-- The time base (chapter 1). -/
@[ext] structure TimeBase where
  power : PowerState
  start : Option StartProgress
  selfTest : SelfTest
  clock : Time
  minuteLength : MinuteLength
  epochWeekday : Nat
  clockUnset : Bool
  dayLimit : Bool
  slew : Int
  holdDuration : Nat
  coldStart : Bool
  retentionWasLost : Bool
  retentionLatch : Bool
  retentionMark : Bool
  deriving DecidableEq, Repr

/-- Input levels that outlast the event that brought them: the emergency line and the door contacts, which a start samples
(R134), and the two address pins of the link port, which stage 1 samples (R172). -/
@[ext] structure Pins where
  emergencyLine : Bool
  contactOpen : Vector Bool 4
  linkAddressPins : BitVec 2
  deriving DecidableEq, Repr

/-! ## Roster (chapter 2) -/

/-- Presence (R28). -/
inductive Presence where
  | out
  | inside
  deriving DecidableEq, Repr

/-- One totals set (TABLE 2-2). -/
structure Totals where
  period : Nat
  regular : Nat
  overtime : Nat
  night : Nat
  holiday : Nat
  pay : Nat
  saturated : Bool
  closed : Nat
  exceptions : Nat
  deriving DecidableEq, Repr

/-- The last passage of a record (R31). -/
structure LastPassage where
  lane : Lane
  time : Time
  deriving DecidableEq, Repr

/-- One roster record (TABLE 2-1). -/
@[ext] structure Record where
  key : Key
  issue : BitVec 4
  employee : BitVec 32
  shift : Option ShiftNumber
  payClass : ClassNumber
  permissions : BitVec 4
  suspended : Bool
  exempt : Bool
  presence : Presence
  pendingLane : Option Lane
  muster : Bool
  lastPassage : Option LastPassage
  current : Totals
  previous : Totals
  deriving DecidableEq, Repr

/-- One badge index entry (R23). -/
structure IndexEntry where
  key : Key
  slot : Slot
  deriving DecidableEq, Repr

/-- The roster store: the occupied slots in ascending slot order, the badge index, the site census and the count of
occupied slots (R22–R25). -/
@[ext] structure Roster where
  records : List (Slot × Record)
  index : List IndexEntry
  census : Vector Nat 64
  occupied : Nat
  deriving DecidableEq, Repr

/-! ## Lanes (chapter 3) -/

inductive LaneMode where
  | disabled
  | entry
  | exit
  | toggle
  deriving DecidableEq, Repr

inductive Sensor where
  | none
  | rotation
  | contact
  deriving DecidableEq, Repr

inductive PassbackPolicy where
  | hard
  | soft
  | off
  deriving DecidableEq, Repr

inductive FailState where
  | failFree
  | failLocked
  deriving DecidableEq, Repr

/-- The configuration of a lane (TABLE 3-1). -/
structure LaneConfig where
  mode : LaneMode
  sensor : Sensor
  releaseTime : Nat
  heldLimit : Nat
  passback : PassbackPolicy
  failState : FailState
  alarmZones : BitVec 8
  alarmPattern : PatternNumber
  deriving DecidableEq, Repr

/-- The kinds of a granted punch (TABLE 4-5). -/
inductive PunchKind where
  | inPunch
  | inUnscheduled
  | outPunch
  | outUnscheduled
  | reEntry
  | exitAgain
  | untimedGrant
  deriving DecidableEq, Repr

/-- The direction of a granted punch (TABLE 4-5). -/
inductive Direction where
  | inward
  | outward
  | none
  deriving DecidableEq, Repr

/-- An instance of a shift: the shift and its instance day (R70). -/
structure ShiftDay where
  shift : ShiftNumber
  day : Nat
  deriving DecidableEq, Repr

/-- A pending passage (R50). `reportDue` is the model's own: the report that R120 lets follow a grant at a PASSING door has
not come yet (log 8). -/
structure PendingPassage where
  slot : Slot
  badge : Badge
  kind : PunchKind
  softPassback : Bool
  direction : Direction
  shiftDay : Option ShiftDay
  readTime : Time
  reportDue : Bool
  deriving DecidableEq, Repr

/-- A valid frame with its read time and untimed mark (R51); a waiting read is one. -/
structure BadgeRead where
  badge : Badge
  readTime : Time
  untimed : Bool
  deriving DecidableEq, Repr

/-- One lane: configuration, bit assembly, red lamp countdown and context (R43–R53). -/
@[ext] structure LaneState where
  config : LaneConfig
  bits : List Bool
  gap : Nat
  red : Nat
  pending : Option PendingPassage
  waiting : Option BadgeRead
  deriving DecidableEq, Repr

/-! ## Door controller (chapter 7) -/

/-- The door states (TABLE 7-1). -/
inductive DoorStatus where
  | locked
  | released
  | passing
  | free
  | lockdown
  deriving DecidableEq, Repr

inductive DoorMode where
  | normal
  | free
  deriving DecidableEq, Repr

/-- What the door controller holds for one lane (R118). -/
@[ext] structure Door where
  status : DoorStatus
  mode : DoorMode
  freed : Bool
  forced : Bool
  held : Bool
  release : Nat
  heldCount : Nat
  heldBell : Bool
  contactOpen : Bool
  deriving DecidableEq, Repr

/-- The door controller (R118): four doors and the three items that concern the whole gate. -/
@[ext] structure Gate where
  doors : Vector Door 4
  lockdown : Bool
  emergency : Bool
  windowLength : Nat
  windowCountdown : Nat
  deriving DecidableEq, Repr

/-! ## Pay calculator (chapter 5) -/

/-- One shift definition (TABLE 5-2). -/
structure ShiftDef where
  enabled : Bool
  start : Nat
  length : Nat
  earlyWindow : Nat
  graceIn : Nat
  graceOut : Nat
  unit : Nat
  meal : Nat
  mealThreshold : Nat
  overtimeThreshold : Nat
  nightStart : Nat
  nightEnd : Nat
  dayMask : BitVec 7
  autoCloseDelay : Nat
  deriving DecidableEq, Repr

/-- One pay class (R84). -/
structure PayClass where
  base : Nat
  overtime : Nat
  holiday : Nat
  night : Nat
  deriving DecidableEq, Repr

/-- The pay calculator's four items (R80). -/
@[ext] structure PayTables where
  shifts : Vector ShiftDef 16
  classes : Vector PayClass 16
  holidays : List Nat
  period : Nat
  deriving DecidableEq, Repr

/-! ## Attendance list (chapter 6) -/

/-- The fields present in a SCHEDULED entry only (TABLE 6-1): the shift, the instance day d, S and E. -/
structure Schedule where
  shift : ShiftNumber
  day : Nat
  startMinute : Nat
  endMinute : Nat
  deriving DecidableEq, Repr

/-- One attendance entry (TABLE 6-1). Its kind is SCHEDULED exactly when `schedule` is present. -/
structure Attendance where
  slot : Slot
  schedule : Option Schedule
  tIn : Time
  deadline : Option Nat
  deriving DecidableEq, Repr

/-! ## Bell controller (chapter 8) -/

inductive BellTrigger where
  | clock
  | shiftStart
  | shiftEnd
  deriving DecidableEq, Repr

inductive HolidayRule where
  | skip
  | ring
  deriving DecidableEq, Repr

/-- One bell schedule entry (TABLE 8-2). -/
structure BellEntry where
  enabled : Bool
  trigger : BellTrigger
  minute : Nat
  shift : ShiftNumber
  offset : Int
  dayMask : BitVec 7
  holidayRule : HolidayRule
  zones : BitVec 8
  pattern : PatternNumber
  deriving DecidableEq, Repr

/-- One pattern (TABLE 8-3). -/
structure Pattern where
  on : Nat
  period : Nat
  strokes : Nat
  gap : Nat
  groups : Nat
  priority : Nat
  deriving DecidableEq, Repr

/-- The source of a zone's request (TABLE 8-4). -/
inductive ZoneSource where
  | schedule (entry : BellIndex)
  | forced (lane : Lane)
  | held (lane : Lane)
  | manual (port : Port)
  | evacuation
  deriving DecidableEq, Repr

inductive CadencePhase where
  | stroke
  | gap
  deriving DecidableEq, Repr

/-- A PLAYING zone player (R144): the pattern's number and copy, the request's source, the phase and the three counters.
Its priority is that of the copy. -/
structure Playing where
  pattern : PatternNumber
  copy : Pattern
  source : ZoneSource
  phase : CadencePhase
  counter : Nat
  strokesLeft : Nat
  groupsLeft : Nat
  deriving DecidableEq, Repr

/-- The bell controller (TABLE 8-1). A zone player is IDLE when absent. -/
@[ext] structure Bells where
  schedule : Vector BellEntry 64
  patterns : Vector Pattern 8
  emergencyMask : BitVec 8
  locked : BitVec 8
  zones : Vector (Option Playing) 8
  deriving DecidableEq, Repr

/-! ## Punch journal (chapter 9) -/

/-- The entry kinds (TABLE 9-1, TABLE 11-8). -/
inductive EntryKind where
  | inPunch
  | inUnscheduled
  | outPunch
  | outUnscheduled
  | reEntry
  | exitAgain
  | muster
  | untimedGrant
  | lapsed
  | denied
  | badRead
  | autoClose
  | correction
  | doorForced
  | doorHeld
  | doorManual
  | alarmReset
  | lockdownOn
  | lockdownOff
  | emergencyOn
  | emergencyOff
  | clockSet
  | coldStart
  | warmStart
  | resetStart
  | periodClose
  | gap
  deriving DecidableEq, Repr

/-- The refusal reasons of a DENIED entry (TABLE 11-9). -/
inductive DenyReason where
  | site
  | unknown
  | issue
  | suspended
  | lane
  | lockdown
  | pending
  | passback
  | overrun
  deriving DecidableEq, Repr

/-- The flag set of an entry (R154). -/
structure EntryFlags where
  softPassback : Bool := false
  missedOut : Bool := false
  capped : Bool := false
  holiday : Bool := false
  emergency : Bool := false
  power : Bool := false
  reset : Bool := false
  originBus : Bool := false
  originLink : Bool := false
  deriving DecidableEq, Repr

/-- The figures of a closing (R89): `shiftDay` is absent for an unscheduled closing. -/
structure Figures where
  shiftDay : Option ShiftDay
  ein : Int
  eout : Int
  regular : Nat
  overtime : Nat
  night : Nat
  holidayMinutes : Nat
  pay : Nat
  period : Nat
  missedOut : Bool
  capped : Bool
  holiday : Bool
  deriving DecidableEq, Repr

/-- What an entry holds beyond the short part of R154: the long parts of R155, and the figures that stand in the key words
of PERIOD-CLOSE and GAP. -/
inductive EntryExtra where
  | none
  | closing (figures : Figures)
  | clockSet (oldTime : Time) (oldWeekday : Nat) (newTime : Time) (newWeekday : Nat)
  | hold (duration : Nat)
  | periods (old new : Nat)
  | gapCount (count : Nat)
  deriving DecidableEq, Repr

/-- An entry as the appending rule supplies it (R154), without its sequence number. -/
structure EntryBody where
  kind : EntryKind
  lane : Option Lane
  time : Time
  slot : Option Slot
  badge : Option Badge
  flags : EntryFlags
  kindWord : Nat
  extra : EntryExtra
  deriving DecidableEq, Repr

/-- A stored entry (R153). -/
structure Entry where
  seq : Seq
  body : EntryBody
  deriving DecidableEq, Repr

/-- One consumer (R157). -/
structure Consumer where
  enabled : Bool
  cursor : Seq
  threshold : Nat
  highMark : Bool
  deriving DecidableEq, Repr

/-- The journal (R156, R157): the retained entries oldest first, W, F, whether the newest entry is an open GAP, and the two
consumers. -/
@[ext] structure Journal where
  entries : List Entry
  writePoint : Seq
  freePoint : Seq
  openGap : Bool
  bus : Consumer
  link : Consumer
  deriving DecidableEq, Repr

/-! ## Exchange memory, channels and ports (chapter 10) -/

/-- Pages 1–31: (address, word) pairs, addresses strictly rising, no word 0; an unlisted word reads 0 (R18). -/
abbrev Memory := List (Nat × Word)

inductive ChannelFault where
  | none
  | badPointer
  | chainLimit
  deriving DecidableEq, Repr

/-- An entry of a channel's pending queue (TABLE 10-2). -/
structure Request where
  address : Word
  origin : Port
  deriving DecidableEq, Repr

/-- A chain in progress (TABLE 10-2). -/
structure Chain where
  next : Word
  origin : Port
  count : Nat
  deriving DecidableEq, Repr

/-- One command channel (TABLE 10-2). -/
@[ext] structure ChannelState where
  request : Word
  pointer : Word
  fault : ChannelFault
  queue : List Request
  chain : Option Chain
  ackPorts : PortSet
  faultPorts : PortSet
  deriving DecidableEq, Repr

/-- One port's notice summary and attention line (R181, R182). `pulses` is the model's own count of the line's pulses. -/
@[ext] structure PortState where
  channelSummary : Word
  eventSummary : Word
  armed : Bool
  pulses : Nat
  deriving DecidableEq, Repr

/-- The three requesters of the arbiter (R170). -/
inductive Requester where
  | bus
  | link
  | engine
  deriving DecidableEq, Repr

/-- The control page's own storage, the channels and the arbiter. The other control page words are read from the blocks
that own them (R169). -/
@[ext] structure Control where
  clockMirror : Time
  presentMirror : Nat
  channels : Vector ChannelState 8
  lastServed : Channel
  arbiter : Requester
  bus : PortState
  link : PortState
  deriving DecidableEq, Repr

/-- Where a link port transfer stands (R172, R174). -/
inductive LinkPhase where
  | idle
  /-- the next written byte is a lead byte -/
  | lead
  /-- the content byte of a POINTER lead with this high part is expected -/
  | pointer (high : BitVec 5) (more : Bool)
  /-- content bytes of a DATA lead are expected -/
  | data (more : Bool)
  /-- content bytes that are acknowledged and ignored -/
  | ignore
  /-- a read transfer; `first` while its first byte has not been sent -/
  | reading (first : Bool)
  deriving DecidableEq, Repr

/-- The link port (R172–R174). `keptLow` present means that the position within the word is its low byte. `ack` is the
model's own record of the acknowledge given last. -/
@[ext] structure LinkState where
  address : BitVec 7
  pointer : BitVec 13
  holding : Byte
  phase : LinkPhase
  heldHigh : Option Byte
  keptLow : Option Byte
  ack : Bool
  deriving DecidableEq, Repr

/-- The response codes (TABLE 10-3). -/
inductive Response where
  | done
  | badCommand
  | badOperand
  | notFound
  | tableFull
  | busyRecord
  | recordPresent
  | laneBusy
  | lockdown
  | clockUnset
  | emergencyActive
  | range
  | bufferShort
  | badBuffer
  deriving DecidableEq, Repr

/-- What a command hands back to the engine (R178): its response code, the result words by their place in the block (words
8–15), the buffer length word where its rule names it, and the words of its output buffer. -/
structure Reply where
  code : Response
  results : List (Nat × Word)
  used : Option Word
  out : List Word
  deriving DecidableEq, Repr

/-! ## The state -/

/-- Everything the manual gives the machine, and the queue of waiting commands. -/
@[ext]
structure State where
  time : TimeBase
  pins : Pins
  roster : Roster
  lanes : Vector LaneState 4
  gate : Gate
  pay : PayTables
  attendance : List Attendance
  bells : Bells
  journal : Journal
  memory : Memory
  control : Control
  link : LinkState
  /-- the model's own: how many free values have been taken (log 5) -/
  freeCount : Nat
  /-- the model's own: what the last command run from its own row handed back (log 4) -/
  reply : Option Reply
  /-- the waiting commands, first in, first out -/
  pending : List Instr
  deriving DecidableEq, Repr

/-! ## Reset values -/

/-- Day 0, 00:00:00 (R16 stage 2). -/
def Time.zero : Time := ⟨0, 0, 0⟩

/-- TABLE 3-1, cold-start values. -/
def LaneConfig.cold : LaneConfig :=
  { mode := .disabled, sensor := .none, releaseTime := 50, heldLimit := 30, passback := .hard, failState := .failLocked,
    alarmZones := 0, alarmPattern := 0 }

/-- A lane with an empty assembly, an empty context and dark lamps (TABLE 3-3). -/
def LaneState.empty (config : LaneConfig) : LaneState :=
  { config, bits := [], gap := 0, red := 0, pending := none, waiting := none }

/-- A door as a cold start leaves it with its contact closed (TABLE 7-4). -/
def Door.cold : Door :=
  { status := .locked, mode := .normal, freed := false, forced := false, held := false, release := 0, heldCount := 0,
    heldBell := false, contactOpen := false }

/-- TABLE 5-1, a shift. -/
def ShiftDef.cold : ShiftDef :=
  { enabled := false, start := 0, length := 480, earlyWindow := 0, graceIn := 0, graceOut := 0, unit := 1, meal := 0,
    mealThreshold := 0, overtimeThreshold := 480, nightStart := 0, nightEnd := 0, dayMask := 0, autoCloseDelay := 0 }

/-- TABLE 5-1, a pay class. -/
def PayClass.cold : PayClass := { base := 0, overtime := 8, holiday := 8, night := 0 }

/-- TABLE 5-1. -/
def PayTables.cold : PayTables :=
  { shifts := Vector.replicate 16 ShiftDef.cold, classes := Vector.replicate 16 PayClass.cold, holidays := [], period := 0 }

/-- TABLE 8-1: a disabled entry with all fields 0. -/
def BellEntry.cold : BellEntry :=
  { enabled := false, trigger := .clock, minute := 0, shift := 0, offset := 0, dayMask := 0, holidayRule := .skip,
    zones := 0, pattern := 0 }

/-- TABLE 8-3, patterns 0–6 (silent). -/
def Pattern.silentCold : Pattern := { on := 1, period := 0, strokes := 1, gap := 0, groups := 1, priority := 0 }

/-- TABLE 8-3, pattern 7 (the evacuation pattern). -/
def Pattern.evacuationCold : Pattern := { on := 50, period := 100, strokes := 1, gap := 0, groups := 0, priority := 4 }

/-- TABLE 8-1. -/
def Bells.cold : Bells :=
  { schedule := Vector.replicate 64 BellEntry.cold
    patterns := (Vector.replicate 8 Pattern.silentCold).set 7 Pattern.evacuationCold
    emergencyMask := 0xFF, locked := 0, zones := Vector.replicate 8 none }

/-- R40. -/
def Roster.empty : Roster := { records := [], index := [], census := Vector.replicate 64 0, occupied := 0 }

/-- R168: a consumer at stage 2 of a cold start. -/
def Consumer.cold : Consumer := { enabled := true, cursor := 0, threshold := 0, highMark := false }

/-- R168: the journal emptied at stage 2 of a cold start. -/
def Journal.empty : Journal :=
  { entries := [], writePoint := 0, freePoint := 0, openGap := false, bus := Consumer.cold, link := Consumer.cold }

/-- TABLE 10-4, one channel. -/
def ChannelState.atStart : ChannelState :=
  { request := 0, pointer := 0, fault := .none, queue := [], chain := none, ackPorts := ⟨false, false⟩,
    faultPorts := ⟨true, true⟩ }

/-- The COLD-START entry (R17): sequence number 0, day 0, 00:00:00, lane NONE, slot NONE, no key, no flags. -/
def Entry.coldStart : Entry :=
  { seq := 0
    body := { kind := .coldStart, lane := none, time := Time.zero, slot := none, badge := none, flags := {}, kindWord := 0,
              extra := .none } }

/-- A port after the start notices of a cold start (R21): POWER-RESTORED and CLOCK-UNSET raised, one pulse, disarmed. -/
def PortState.afterColdStart : PortState :=
  { channelSummary := 0, eventSummary := 0x0018, armed := false, pulses := 1 }

/-- The machine right after reset: the end (stage 6) of the first cold start of a fresh part, self-test PASSED, the
emergency line released and every door contact closed (logs 1 and 2). -/
def State.reset : State :=
  { time :=
      { power := .mainsRun, start := none, selfTest := .passed, clock := Time.zero, minuteLength := .ordinary,
        epochWeekday := 0, clockUnset := true, dayLimit := false, slew := 0, holdDuration := 0, coldStart := true,
        retentionWasLost := false, retentionLatch := false, retentionMark := true }
    pins := { emergencyLine := false, contactOpen := Vector.replicate 4 false, linkAddressPins := 0 }
    roster := Roster.empty
    lanes := Vector.replicate 4 (LaneState.empty LaneConfig.cold)
    gate := { doors := Vector.replicate 4 Door.cold, lockdown := false, emergency := false, windowLength := 15,
              windowCountdown := 0 }
    pay := PayTables.cold
    attendance := []
    bells := Bells.cold
    journal := { Journal.empty with entries := [Entry.coldStart], writePoint := 1 }
    memory := []
    control :=
      { clockMirror := Time.zero, presentMirror := 0, channels := Vector.replicate 8 ChannelState.atStart, lastServed := 7,
        arbiter := .engine, bus := PortState.afterColdStart, link := PortState.afterColdStart }
    link := { address := 0x5C, pointer := 0, holding := 0, phase := .idle, heldHigh := none, keptLow := none, ack := false }
    freeCount := 0
    reply := none
    pending := [] }

end Sys2Proof.Machine
end

