-- ==== Sys2Proof/Machine/Ops.lean ====
section
/-! DEFINITION. The named operations over State that every block shares: the updates of its fields, lanes, doors, zones,
channels and records, the exchange memory's words, the notices with the attention lines (R181, R182) and the arbiter (R170). -/

namespace Sys2Proof.Machine

/-! ## Vectors of like things -/

/-- The thing numbered i. -/
def vget {α : Type} {n : Nat} (v : Vector α n) (i : Fin n) : α := v[i.val]'i.isLt

/-- The vector with the thing numbered i replaced. -/
def vset {α : Type} {n : Nat} (v : Vector α n) (i : Fin n) (a : α) : Vector α n := v.set i.val a i.isLt

/-- Every thing replaced by f of its number and itself. -/
def vmap {α β : Type} {n : Nat} (f : Fin n → α → β) (v : Vector α n) : Vector β n :=
  Vector.mk ((List.finRange n).map (fun i => f i (vget v i))).toArray (by simp)

/-- The lanes in their order 0 to 3 (R128, R130). -/
def allLanes : List Lane := List.finRange 4
/-- The zones in their order 0 to 7 (R147, R149). -/
def allZones : List Zone := List.finRange 8
/-- The channels in their order 0 to 7. -/
def allChannels : List Channel := List.finRange 8

/-! ## Updates of one field of the state -/

def State.setTime (s : State) (v : TimeBase) : State := { s with time := v }
def State.setPins (s : State) (v : Pins) : State := { s with pins := v }
def State.setRoster (s : State) (v : Roster) : State := { s with roster := v }
def State.setLanes (s : State) (v : Vector LaneState 4) : State := { s with lanes := v }
def State.setGate (s : State) (v : Gate) : State := { s with gate := v }
def State.setPay (s : State) (v : PayTables) : State := { s with pay := v }
def State.setAttendance (s : State) (v : List Attendance) : State := { s with attendance := v }
def State.setBells (s : State) (v : Bells) : State := { s with bells := v }
def State.setJournal (s : State) (v : Journal) : State := { s with journal := v }
def State.setMemory (s : State) (v : Memory) : State := { s with memory := v }
def State.setControl (s : State) (v : Control) : State := { s with control := v }
def State.setLink (s : State) (v : LinkState) : State := { s with link := v }
def State.setFreeCount (s : State) (v : Nat) : State := { s with freeCount := v }
def State.setReply (s : State) (v : Option Reply) : State := { s with reply := v }
def State.setPending (s : State) (v : List Instr) : State := { s with pending := v }

/-! ## Lanes and doors -/

/-- The lane numbered l. -/
def State.lane (s : State) (l : Lane) : LaneState := vget s.lanes l

/-- The state with lane l replaced. -/
def State.setLane (s : State) (l : Lane) (v : LaneState) : State := s.setLanes (vset s.lanes l v)

/-- The door of lane l. -/
def State.door (s : State) (l : Lane) : Door := vget s.gate.doors l

/-- The state with the door of lane l replaced. -/
def State.setDoor (s : State) (l : Lane) (v : Door) : State := s.setGate { s.gate with doors := vset s.gate.doors l v }

/-! ## Power and start -/

/-- MAINS-RUN with no start in progress: the condition under which second and minute events are issued (R2, R3), lanes take
bits (R46), and sensors and the emergency line are taken (R119, section 7.6). -/
def running (s : State) : Bool := decide (s.time.power = .mainsRun) && decide (s.time.start = none)

/-- The command channels are open (R18): a started part whose self-test state is PASSED. -/
def engineOpen (s : State) : Bool := running s && decide (s.time.selfTest = .passed)

/-- The absolute minute of a time (section 4.2). -/
def Time.absolute (t : Time) : Nat := t.day * 1440 + t.minute

/-- The weekday of day number d (R1). -/
def weekday (s : State) (d : Nat) : Nat := (d + s.time.epochWeekday) % 7

/-- The door output of lane l is on exactly in RELEASED or FREE (R118); without mains it is off (R12). -/
def doorOutput (s : State) (l : Lane) : Bool :=
  decide (s.time.power = .mainsRun) &&
    (decide ((s.door l).status = .released) || decide ((s.door l).status = .free))

/-- The green lamp of lane l is lit while the lane holds a pending passage (R53). -/
def greenLamp (s : State) (l : Lane) : Bool := (s.lane l).pending.isSome

/-- The red lamp of lane l is lit while its countdown is above 0 (R53). -/
def redLamp (s : State) (l : Lane) : Bool := decide (0 < (s.lane l).red)

/-- The colours of the ready lamp (R18). -/
inductive ReadyLamp where
  | off
  | green
  | red
  deriving DecidableEq, Repr

/-- The ready lamp (R18): off in NOT-TESTED, TESTING and without mains, green in PASSED, red in FAILED. -/
def readyLamp (s : State) : ReadyLamp :=
  match s.time.power, s.time.selfTest with
  | .mainsRun, .passed => .green
  | .mainsRun, .failed => .red
  | _, _ => .off

/-! ## Words of pages 1–31 -/

/-- The canonical form of the exchange memory: addresses strictly rising within pages 1–31, no word 0. -/
abbrev Memory.wf (m : Memory) : Prop :=
  m.Pairwise (fun a b => a.1 < b.1) ∧
    ∀ c ∈ m, c.2 ≠ 0 ∧ Config.firstPageWord ≤ c.1 ∧ c.1 < Config.exchangeWords

/-- The word at address a; an unlisted word reads 0. -/
def memRead : Memory → Nat → Word
  | [], _ => 0
  | (b, v) :: rest, a => if a = b then v else memRead rest a

/-- The list with the word at address a set to v, in canonical form: setting 0 removes the pair. -/
def memInsert : Memory → Nat → Word → Memory
  | [], a, v => if v = 0 then [] else [(a, v)]
  | (b, w) :: rest, a, v =>
    if a < b then (if v = 0 then (b, w) :: rest else (a, v) :: (b, w) :: rest)
    else if a = b then (if v = 0 then rest else (a, v) :: rest)
    else (b, w) :: memInsert rest a v

/-- A write of word v at address a of pages 1–31; an address outside them is no plain storage and is left alone (R169). -/
def memWrite (m : Memory) (a : Nat) (v : Word) : Memory :=
  if Config.firstPageWord ≤ a ∧ a < Config.exchangeWords then memInsert m a v else m

/-- Words written at a list of addresses, in order. -/
def memWriteAll (m : Memory) (writes : List (Nat × Word)) : Memory :=
  writes.foldl (fun acc w => memWrite acc w.1 w.2) m

/-! ## Notices and attention lines -/

/-- The causes of the event summary, by their bit (TABLE 11-2). -/
inductive Cause where
  | journalHigh
  | doorAlarm
  | emergency
  | powerRestored
  | clockUnset
  | channelFault
  deriving DecidableEq, Repr

def Cause.bit : Cause → Nat
  | .journalHigh => 0
  | .doorAlarm => 1
  | .emergency => 2
  | .powerRestored => 3
  | .clockUnset => 4
  | .channelFault => 5

/-- The word with bit n set. -/
def setBit (w : Word) (n : Nat) : Word := w ||| (1#16 <<< n)

/-- A bit of the summary has become set (R182): an armed port gives one pulse and is disarmed. -/
def PortState.attend (p : PortState) : PortState :=
  if p.armed then { p with armed := false, pulses := p.pulses + 1 } else p

/-- Sets a bit of a summary word (R181): a bit already set stays set and nothing else happens. -/
def PortState.note (p : PortState) (which : SummaryWord) (bit : Nat) : PortState :=
  match which with
  | .channelWord =>
    if p.channelSummary.getLsbD bit then p
    else { p with channelSummary := setBit p.channelSummary bit }.attend
  | .eventWord =>
    if p.eventSummary.getLsbD bit then p
    else { p with eventSummary := setBit p.eventSummary bit }.attend

/-- The summary of a port holds a bit. -/
def PortState.pendingNotice (p : PortState) : Bool :=
  decide (p.channelSummary ≠ 0) || decide (p.eventSummary ≠ 0)

/-- The port p's summary and attention line. -/
def State.portState (s : State) : Port → PortState
  | .bus => s.control.bus
  | .link => s.control.link

/-- The state with port p's summary and attention line replaced. -/
def State.setPortState (s : State) (p : Port) (v : PortState) : State :=
  match p with
  | .bus => s.setControl { s.control with bus := v }
  | .link => s.setControl { s.control with link := v }

/-- Sets a bit of port p's summary, with its attention pulse (R181, R182). -/
def notice (p : Port) (which : SummaryWord) (bit : Nat) (s : State) : State :=
  s.setPortState p ((s.portState p).note which bit)

/-- Raises a cause in the event word of port p. -/
def raiseCause (p : Port) (c : Cause) (s : State) : State := notice p .eventWord c.bit s

/-- Raises a cause in the event words of both ports. -/
def raiseBoth (c : Cause) (s : State) : State := raiseCause .link c (raiseCause .bus c s)

/-- Whether a port set names port p (R184). -/
def PortSet.names (ps : PortSet) : Port → Bool
  | .bus => ps.bus
  | .link => ps.link

/-- Sets a bit of the summary of each port of a set. -/
def noticeSet (ps : PortSet) (which : SummaryWord) (bit : Nat) (s : State) : State :=
  let s1 := if ps.names .bus then notice .bus which bit s else s
  if ps.names .link then notice .link which bit s1 else s1

/-! ## The arbiter -/

/-- The requester after r in the fixed cycle bus port, link port, command engine (R170). -/
def Requester.after : Requester → Requester
  | .bus => .link
  | .link => .engine
  | .engine => .bus

/-- Whom the arbiter grants (R170): the first that asks, from the one after the requester granted last. -/
def arbiterGrant (last : Requester) (asks : Requester → Bool) : Option Requester :=
  [last.after, last.after.after, last].find? asks

/-- An access granted to a requester that asks alone: the arbiter remembers whom it granted last (R170). -/
def access (r : Requester) (s : State) : State :=
  match arbiterGrant s.control.arbiter (fun x => decide (x = r)) with
  | some granted => s.setControl { s.control with arbiter := granted }
  | none => s

/-- The requester a port is. -/
def Port.requester : Port → Requester
  | .bus => .bus
  | .link => .link

/-! ## Channels -/

def State.channel (s : State) (c : Channel) : ChannelState := vget s.control.channels c

def State.setChannel (s : State) (c : Channel) (v : ChannelState) : State :=
  s.setControl { s.control with channels := vset s.control.channels c v }

/-! ## Roster records -/

/-- The record in a slot, none when the slot is free. -/
def recordAt : List (Slot × Record) → Slot → Option Record
  | [], _ => none
  | (b, r) :: rest, a => if a = b then some r else recordAt rest a

/-- The record of slot a. -/
def State.record (s : State) (a : Slot) : Option Record := recordAt s.roster.records a

/-- The state with f applied to the record of slot a; a free slot is left free. -/
def State.modifyRecord (s : State) (a : Slot) (f : Record → Record) : State :=
  s.setRoster { s.roster with records := s.roster.records.map (fun p => if p.1 = a then (p.1, f p.2) else p) }

/-- The state with f applied to every record. -/
def State.modifyAllRecords (s : State) (f : Record → Record) : State :=
  s.setRoster { s.roster with records := s.roster.records.map (fun p => (p.1, f p.2)) }

/-! ## The attendance list's storage -/

/-- Replaces the attendance list and rewrites the present count mirror in the same step (R106). -/
def putAttendance (l : List Attendance) (s : State) : State :=
  let s1 := s.setAttendance l
  s1.setControl { s1.control with presentMirror := l.length }

end Sys2Proof.Machine
end

