-- ==== Sys2Proof/Machine/Operands.lean ====
section
/-! DEFINITION. Every operand form of the commands: words and two-word figures, the named values of TABLE 11-1, keys and
references, buffers (R179) and the replies that commands hand back. -/

namespace Sys2Proof.Machine

/-! ## Words (R184) -/

/-- A number as one word. -/
def word (n : Nat) : Word := BitVec.ofNat 16 n

/-- A signed figure as one word, two's complement. -/
def signedWord (i : Int) : Word := BitVec.ofInt 16 i

/-- A two-word figure: its high half first. -/
def twoWords (n : Nat) : List Word := [word (n / 65536), word n]

/-- A flag as a number. -/
def bit (b : Bool) : Nat := if b then 1 else 0

/-- A flag as one word. -/
def flagWord (b : Bool) : Word := word (bit b)

/-- The number a two-word figure holds. -/
def ofTwoWords (high low : Word) : Nat := high.toNat * 65536 + low.toNat

/-- A time as three words. -/
def timeWords (t : Time) : List Word := [word t.day, word t.minute, word t.second]

/-- A key as three words: site, badge number high part, badge number low part. -/
def keyWords (k : Key) : List Word :=
  [word k.site.toNat, word (k.number.toNat / 65536), word k.number.toNat]

/-- The key that three operand words name. -/
def keyOfWords (site high low : Word) : Key :=
  { site := BitVec.ofNat 6 site.toNat, number := BitVec.ofNat 18 (ofTwoWords high low) }

/-- A port set as a word: bit 0 BUS, bit 1 LINK. -/
def PortSet.toNat (p : PortSet) : Nat := bit p.bus + 2 * bit p.link

/-- The port set that bits 0 and 1 of a word name. -/
def portSetOfWord (w : Word) : PortSet := ⟨w.getLsbD 0, w.getLsbD 1⟩

/-- The sequence number that two words hold. -/
def seqOfWords (high low : Word) : Seq := BitVec.ofNat 32 (ofTwoWords high low)

/-- A sequence number as two words. -/
def seqWords (q : Seq) : List Word := twoWords q.toNat

/-! ## Named values (TABLE 11-1) -/

def laneModeCode : LaneMode → Nat
  | .disabled => 0
  | .entry => 1
  | .exit => 2
  | .toggle => 3

def laneModeOf : Nat → LaneMode
  | 0 => .disabled
  | 1 => .entry
  | 2 => .exit
  | _ => .toggle

def sensorCode : Sensor → Nat
  | .none => 0
  | .rotation => 1
  | .contact => 2

def sensorOf : Nat → Sensor
  | 0 => .none
  | 1 => .rotation
  | _ => .contact

def passbackCode : PassbackPolicy → Nat
  | .hard => 0
  | .soft => 1
  | .off => 2

def passbackOf : Nat → PassbackPolicy
  | 0 => .hard
  | 1 => .soft
  | _ => .off

def failStateCode : FailState → Nat
  | .failFree => 0
  | .failLocked => 1

def failStateOf : Nat → FailState
  | 0 => .failFree
  | _ => .failLocked

def doorStatusCode : DoorStatus → Nat
  | .locked => 0
  | .released => 1
  | .passing => 2
  | .free => 3
  | .lockdown => 4

/-- The attendance kind: SCHEDULED 0, UNSCHEDULED 1. -/
def attendanceKindCode (scheduled : Bool) : Nat := if scheduled then 0 else 1

def directionCode : Direction → Nat
  | .inward => 0
  | .outward => 1
  | .none => 2

def triggerCode : BellTrigger → Nat
  | .clock => 0
  | .shiftStart => 1
  | .shiftEnd => 2

def triggerOf : Nat → BellTrigger
  | 0 => .clock
  | 1 => .shiftStart
  | _ => .shiftEnd

def holidayRuleCode : HolidayRule → Nat
  | .skip => 0
  | .ring => 1

def selfTestCode : SelfTest → Nat
  | .notTested => 0
  | .testing => 1
  | .passed => 2
  | .failed => 3

def channelFaultCode : ChannelFault → Nat
  | .none => 0
  | .badPointer => 1
  | .chainLimit => 2

/-- TABLE 11-3. -/
def responseCode : Response → Nat
  | .done => 0x0000
  | .badCommand => 0x0001
  | .badOperand => 0x0002
  | .notFound => 0x0003
  | .tableFull => 0x0004
  | .busyRecord => 0x0005
  | .recordPresent => 0x0006
  | .laneBusy => 0x0007
  | .lockdown => 0x0008
  | .clockUnset => 0x0009
  | .emergencyActive => 0x000A
  | .range => 0x000B
  | .bufferShort => 0x000C
  | .badBuffer => 0x000D

/-- TABLE 11-8. -/
def entryKindCode : EntryKind → Nat
  | .inPunch => 0
  | .inUnscheduled => 1
  | .outPunch => 2
  | .outUnscheduled => 3
  | .reEntry => 4
  | .exitAgain => 5
  | .muster => 6
  | .untimedGrant => 7
  | .lapsed => 8
  | .denied => 9
  | .badRead => 10
  | .autoClose => 11
  | .correction => 12
  | .doorForced => 13
  | .doorHeld => 14
  | .doorManual => 15
  | .alarmReset => 16
  | .lockdownOn => 17
  | .lockdownOff => 18
  | .emergencyOn => 19
  | .emergencyOff => 20
  | .clockSet => 21
  | .coldStart => 22
  | .warmStart => 23
  | .resetStart => 24
  | .periodClose => 25
  | .gap => 26

/-- The journal kind of a punch kind. -/
def punchEntryKind : PunchKind → EntryKind
  | .inPunch => .inPunch
  | .inUnscheduled => .inUnscheduled
  | .outPunch => .outPunch
  | .outUnscheduled => .outUnscheduled
  | .reEntry => .reEntry
  | .exitAgain => .exitAgain
  | .untimedGrant => .untimedGrant

/-- The punch kind's code of TABLE 11-8. -/
def punchKindCode (k : PunchKind) : Nat := entryKindCode (punchEntryKind k)

/-- The kind word of a LAPSED entry of kind UNKNOWN (TABLE 11-9). -/
def unknownKindCode : Nat := 0x3F

/-- TABLE 11-9, DENIED. -/
def denyReasonCode : DenyReason → Nat
  | .site => 1
  | .unknown => 2
  | .issue => 3
  | .suspended => 4
  | .lane => 5
  | .lockdown => 6
  | .pending => 7
  | .passback => 8
  | .overrun => 9

/-! ## Operand checks -/

/-- The index of the first operand out of range, from one mark an operand, in word order. Where a command's rule states no order the
index of the first in word order is the model's (log 35, DESIGN CHOICE). -/
def firstBad (marks : List Bool) : Option Nat := marks.findIdx? id

/-- An operand word as a number below n; every caller has refused the values it does not cover. -/
def finOf (n : Nat) [NeZero n] (w : Word) : Fin n := Fin.ofNat n w.toNat

/-! ## References to records (R35) -/

/-- What a selector and a reference name. -/
inductive RecordRef where
  | key (k : Key)
  | slot (a : Slot)
  deriving DecidableEq, Repr

/-- Reads a selector and a reference (R35, R112): the reference, or the index of the word out of range, `base` being the
index of the selector. Where site and number high part are both out of range R35 gives no order: the site's index is reported (log 35,
DESIGN CHOICE). -/
def parseRef (base : Nat) (selector ref0 ref1 ref2 : Word) : Except Nat RecordRef :=
  if selector = 0 then
    if 63 < ref0.toNat then .error (base + 1)
    else if 3 < ref1.toNat then .error (base + 2)
    else .ok (.key (keyOfWords ref0 ref1 ref2))
  else if selector = 1 then
    if 2047 < ref0.toNat then .error (base + 1) else .ok (.slot (finOf 2048 ref0))
  else .error base

/-! ## Buffers (R179) -/

/-- The buffer starts in pages 1–31. -/
def bufferStarts (b : Buffer) : Bool :=
  decide (Config.firstPageWord ≤ b.addr.toNat) && decide (b.addr.toNat < Config.exchangeWords)

/-- The room of a buffer: its length, clamped to 256 words. -/
def bufferRoom (b : Buffer) : Nat := min b.len.toNat 256

/-- The address of word i of a buffer: past the last word of its start page it goes on at the first word of that page. -/
def bufferAddr (b : Buffer) (i : Nat) : Nat := b.addr.toNat / 256 * 256 + (b.addr.toNat + i) % 256

/-- Word i of a buffer. -/
def bufferWord (m : Memory) (b : Buffer) (i : Nat) : Word := memRead m (bufferAddr b i)

/-- The first n words of a buffer. -/
def bufferWords (m : Memory) (b : Buffer) (n : Nat) : List Word := (List.range n).map (bufferWord m b)

/-- Checks a buffer that must start in pages 1–31 and hold n words: the refusal, if any. BAD-BUFFER comes before BUFFER-SHORT, as R33
and R82 number them; where a rule does not number them the order is log 38 (DESIGN CHOICE). -/
def checkBuffer (b : Buffer) (n : Nat) : Option Response :=
  if !bufferStarts b then some .badBuffer
  else if bufferRoom b < n then some .bufferShort
  else none

/-- The words of an output written to a buffer, in buffer order (R178 step 3). -/
def writeBuffer (m : Memory) (b : Buffer) (out : List Word) : Memory :=
  memWriteAll m ((out.zipIdx).map (fun p => (bufferAddr b p.2, p.1)))

/-! ## Replies -/

/-- Result words from word 8 on. -/
def fromWord8 (ws : List Word) : List (Nat × Word) := (ws.zipIdx 8).map (fun p => (p.2, p.1))

/-- DONE with results from word 8 on. -/
def Reply.done (ws : List Word) : Reply := { code := .done, results := fromWord8 ws, used := none, out := [] }

/-- DONE with an output buffer: its words, results from word 8 on, and the words used in word 7. -/
def Reply.doneOut (out ws : List Word) : Reply :=
  { code := .done, results := fromWord8 ws, used := some (word out.length), out }

/-- A refusal without results. -/
def Reply.refuse (code : Response) : Reply := { code, results := [], used := none, out := [] }

/-- BAD-OPERAND with the index of the offending word in word 8. -/
def Reply.badOperand (index : Nat) : Reply :=
  { code := .badOperand, results := [(8, word index)], used := none, out := [] }

/-- A refusal that returns a figure in word 9. -/
def Reply.refuseWord9 (code : Response) (w : Word) : Reply := { code, results := [(9, w)], used := none, out := [] }

/-- The flag ORIGIN-BUS or ORIGIN-LINK of the port whose request started the block or its chain (R179). -/
def originFlags (origin : Port) : EntryFlags :=
  match origin with
  | .bus => { originBus := true }
  | .link => { originLink := true }

/-! ## Running a command from its own row -/

/-- A command carried out from its own row (log 4): the part taken whole at the owning block, while the channels are open,
its output words written to its buffer and what it hands back kept in `reply`. Where no command is carried out, nothing. -/
def runDirect (buf : Option Buffer) (cmd : State → State × Reply) (s : State) : State :=
  if engineOpen s then
    let done := cmd s
    let s1 := match buf with
      | some b => done.1.setMemory (writeBuffer done.1.memory b done.2.out)
      | none => done.1
    s1.setReply (some done.2)
  else s

end Sys2Proof.Machine
end

