-- ==== Sys2Proof/Machine/Flags.lean ====
section
/-! DEFINITION. Every packed word of flags that the part shows: the status flags word, the command status words and the
packed words of TABLE 11-5. -/

namespace Sys2Proof.Machine

/-- The status flags word 011h (TABLE 11-2). -/
def statusFlagsWord (s : State) : Word :=
  word (bit s.time.coldStart + 2 * bit s.time.clockUnset + 4 * bit s.time.dayLimit + 8 * bit s.gate.emergency
    + 16 * bit s.gate.lockdown + 32 * bit s.time.retentionWasLost)

/-- READ CLOCK's status word (TABLE 11-5). -/
def clockStatusWord (s : State) : Word := word (bit s.time.clockUnset + 2 * bit s.time.dayLimit)

/-- ACKNOWLEDGE START's result word (TABLE 11-5). -/
def startFlagsWord (s : State) : Word := word (bit s.time.coldStart + 2 * bit s.time.retentionWasLost)

/-- RESET ALARM's result word (TABLE 11-5). -/
def latchesWord (d : Door) : Word := word (bit d.forced + 2 * bit d.held)

/-- READ DOORS word 8 (TABLE 11-5). -/
def gateWord (s : State) : Word :=
  word (bit s.gate.lockdown + 2 * bit s.gate.emergency + 4 * bit (decide (0 < s.gate.windowCountdown)))

/-- READ DOORS words 11–14 (TABLE 11-5). -/
def doorWord (d : Door) : Word :=
  word (doorStatusCode d.status + 8 * bit (decide (d.mode = .free)) + 16 * bit d.freed + 32 * bit d.forced
    + 64 * bit d.held + 128 * bit d.contactOpen)

/-- The packed configuration word, WRITE LANE word 15 (TABLE 11-5). -/
def alarmWord (c : LaneConfig) : Word := word (c.alarmZones.toNat + 256 * c.alarmPattern.val)

/-- The flags word of a record image (TABLE 11-6, word 10). -/
def recordFlagsWord (r : Record) : Word :=
  word (bit r.suspended + 2 * bit r.exempt + 4 * bit (decide (r.presence = .inside)) + 8 * bit r.muster)

/-- Word 4 of a LIST PRESENT entry (TABLE 11-5). -/
def presentFlagsWord (a : Attendance) (muster : Bool) : Word :=
  word (attendanceKindCode a.schedule.isSome + 2 * bit muster + 4 * bit a.deadline.isNone)

/-- Bell entry word 9 (TABLE 11-5). -/
def bellFlagsWord (e : BellEntry) : Word :=
  word (bit e.enabled + 2 * triggerCode e.trigger + 8 * holidayRuleCode e.holidayRule)

/-- READ CHANNELS, the word of one channel (TABLE 11-5). -/
def channelWord (c : ChannelState) : Word :=
  word (c.queue.length + 8 * bit c.chain.isSome + 16 * c.ackPorts.toNat + 64 * c.faultPorts.toNat)

/-- JOURNAL STATUS word 12 (TABLE 11-5). -/
def journalFlagsWord (j : Journal) : Word :=
  word (bit j.bus.enabled + 2 * bit j.bus.highMark + 4 * bit j.link.enabled + 8 * bit j.link.highMark
    + 16 * bit j.openGap)

/-- The flags of a journal entry in bit order (R185, word 4 bits 0–8). -/
def entryFlagsNat (f : EntryFlags) : Nat :=
  bit f.softPassback + 2 * bit f.missedOut + 4 * bit f.capped + 8 * bit f.holiday + 16 * bit f.emergency
    + 32 * bit f.power + 64 * bit f.reset + 128 * bit f.originBus + 256 * bit f.originLink

/-- The lane image's word 12 (section 11.3). -/
def laneContextWord (l : LaneState) : Word :=
  word (bit l.pending.isSome + 2 * bit l.pending.isSome + 4 * bit l.waiting.isSome)

/-- The kind word of a lane image's pending passage (section 11.3): the flag word carried by the passage. -/
def passageKindWord (p : PendingPassage) : Word :=
  word (punchKindCode p.kind + 32 * directionCode p.direction + 128 * bit p.softPassback + 256 * bit p.shiftDay.isSome)

end Sys2Proof.Machine
end

