-- ==== Sys2Proof/Machine/Journal.lean ====
section
/-! DEFINITION. The punch journal (chapter 9): its ring as retained entries, appending and overflow, consumers and their
thresholds, the layout of entries (R185), and the journal commands. -/

namespace Sys2Proof.Machine

/-! ## Entries and their extent -/

/-- The length of an entry in words (R154): 16 for a long entry, 8 for a short one. -/
def EntryBody.length (b : EntryBody) : Nat :=
  match b.extra with
  | .closing _ => 16
  | .clockSet .. => 16
  | .hold _ => 16
  | _ => 8

def Entry.length (e : Entry) : Nat := e.body.length

/-- How many sequence numbers an entry covers (R153): its count for a GAP entry, one for any other. -/
def Entry.covers (e : Entry) : Nat :=
  match e.body.extra with
  | .gapCount n => n
  | _ => 1

/-- The number after the last one an entry covers. -/
def Entry.next (e : Entry) : Seq := e.seq + BitVec.ofNat 32 e.covers

/-- How far back from the write point w the number q lies; of two numbers at or behind it, the one further back is the
earlier (R156). -/
def back (w q : Seq) : Nat := (w - q).toNat

/-- q is beyond the write point w (R156). -/
def beyond (w q : Seq) : Bool := decide (1 ≤ (q - w).toNat) && decide ((q - w).toNat ≤ 2147483647)

/-- The numbers of an entry all lie before the number q. -/
def Entry.allBefore (w q : Seq) (e : Entry) : Bool := decide (back w q < back w (e.next - 1))

/-- The words of a list of entries. -/
def wordsOf (es : List Entry) : Nat := (es.map Entry.length).sum

/-- The occupied words (R156). -/
def Journal.occupied (j : Journal) : Nat := wordsOf j.entries

/-- The free words (R156). -/
def Journal.free (j : Journal) : Nat := Config.ringWords - j.occupied

/-- The entries from the one covering q through the newest. -/
def Journal.from (j : Journal) (q : Seq) : List Entry := j.entries.dropWhile (Entry.allBefore j.writePoint q)

/-- The unread words of a consumer (R157). After a drop into an open GAP that ended at the cursor they are the 8 words of the GAP
(log 31, DEDUCED). -/
def Journal.unread (j : Journal) (c : Consumer) : Nat :=
  if c.enabled then wordsOf (j.from c.cursor) else 0

def Journal.consumer (j : Journal) : Port → Consumer
  | .bus => j.bus
  | .link => j.link

def Journal.setConsumer (j : Journal) (p : Port) (c : Consumer) : Journal :=
  match p with
  | .bus => { j with bus := c }
  | .link => { j with link := c }

/-! ## The free point -/

/-- The earlier of the enabled consumers' cursors, W when no consumer is enabled (R157). -/
def Journal.earliest (j : Journal) : Seq :=
  match j.bus.enabled, j.link.enabled with
  | true, true => if back j.writePoint j.link.cursor ≤ back j.writePoint j.bus.cursor then j.bus.cursor else j.link.cursor
  | true, false => j.bus.cursor
  | false, true => j.link.cursor
  | false, false => j.writePoint

/-- Finds the free point again and frees the entries before it (R157). A freed GAP is no longer the newest entry (R159). -/
def Journal.refree (j : Journal) : Journal :=
  let kept := j.from j.earliest
  { j with
    entries := kept
    freePoint := match kept with
      | [] => j.writePoint
      | e :: _ => e.seq
    openGap := j.openGap && !kept.isEmpty }

/-- The cursor of a disabled consumer follows W (R157). -/
def Consumer.follow (w : Seq) (c : Consumer) : Consumer := if c.enabled then c else { c with cursor := w }

/-- After a number was issued: disabled cursors follow W and the free point is found again. -/
def Journal.settle (j : Journal) : Journal :=
  Journal.refree { j with bus := j.bus.follow j.writePoint, link := j.link.follow j.writePoint }

/-! ## Appending -/

/-- Stores an entry at the write point (R158). -/
def Journal.store (j : Journal) (body : EntryBody) (isGap : Bool) : Journal :=
  Journal.settle
    { j with
      entries := j.entries ++ [{ seq := j.writePoint, body }]
      writePoint := j.writePoint + 1
      openGap := isGap }

/-- The GAP entry of a first drop (R159): the clock at the drop, count 1, no flags. -/
def gapBody (clock : Time) : EntryBody :=
  { kind := .gap, lane := none, time := clock, slot := none, badge := none, flags := {}, kindWord := 0,
    extra := .gapCount 1 }

/-- The entry with its GAP count raised by 1. -/
def Entry.raiseCount (e : Entry) : Entry :=
  match e.body.extra with
  | .gapCount n => { e with body := { e.body with extra := .gapCount (n + 1) } }
  | _ => e

/-- The list with the count of its newest entry raised by 1. -/
def raiseNewest : List Entry → List Entry
  | [] => []
  | [e] => [e.raiseCount]
  | e :: rest => e :: raiseNewest rest

/-- The drop of an entry (R159): into the open GAP, or into a new GAP stored in the reserve; uncounted where it would take
the span W − F past 2,147,483,647. -/
def Journal.drop (j : Journal) (clock : Time) : Journal :=
  if 2147483647 < back j.writePoint j.freePoint + 1 then j
  else if j.openGap then
    Journal.settle { j with entries := raiseNewest j.entries, writePoint := j.writePoint + 1 }
  else j.store (gapBody clock) true

/-- Whether an entry of length n is stored (R158): at least n + 8 words are free. -/
def Journal.hasRoom (j : Journal) (n : Nat) : Bool := decide (n + 8 ≤ j.free)

/-- The journal after an append (R158, R159). -/
def Journal.append (j : Journal) (clock : Time) (body : EntryBody) : Journal :=
  if j.hasRoom body.length then j.store body false else j.drop clock

/-- Whether an append stores an entry, the entry itself or a GAP for its first drop; thresholds are examined at each stored
entry, and a drop into an open GAP is none (R161). -/
def Journal.stores (j : Journal) (body : EntryBody) : Bool :=
  j.hasRoom body.length ||
    (!j.openGap && !decide (2147483647 < back j.writePoint j.freePoint + 1))

/-! ## Thresholds -/

/-- A consumer's unread words reach its threshold while its mark is clear (R161). -/
def Journal.reaches (j : Journal) (p : Port) : Bool :=
  let c := j.consumer p
  decide (0 < c.threshold) && decide (c.threshold ≤ j.unread c) && !c.highMark

/-- Examines one consumer's threshold (R161): sets the high mark and raises JOURNAL-HIGH on its port. -/
def examineHigh (p : Port) (s : State) : State :=
  if s.journal.reaches p then
    raiseCause p .journalHigh (s.setJournal (s.journal.setConsumer p { s.journal.consumer p with highMark := true }))
  else s

/-- Examines both thresholds. -/
def examineBoth (s : State) : State := examineHigh .link (examineHigh .bus s)

/-- Clears a consumer's high mark when its unread words are below its threshold or the threshold is off (R160, R161). -/
def Journal.lowerMark (j : Journal) (p : Port) : Journal :=
  let c := j.consumer p
  if c.threshold = 0 ∨ j.unread c < c.threshold then j.setConsumer p { c with highMark := false } else j

/-- Appends an entry (R158, R159) and examines the thresholds at a stored entry; during stages 1 to 5 of a start no
JOURNAL-HIGH is raised (R161). -/
def appendEntry (body : EntryBody) (s : State) : State :=
  let s1 := s.setJournal (s.journal.append s.time.clock body)
  if s.journal.stores body && running s then examineBoth s1 else s1

/-- An entry with lane NONE, slot NONE, no key, no flags and nothing more. -/
def plainBody (kind : EntryKind) (time : Time) : EntryBody :=
  { kind, lane := none, time, slot := none, badge := none, flags := {}, kindWord := 0, extra := .none }

/-! ## Layout of entries (R185) -/

/-- The instance-day step (R185): how many days ein lies after the instance day. -/
def Figures.step (f : Figures) : Nat :=
  match f.shiftDay with
  | some sd => (f.ein / 1440 - sd.day).toNat
  | none => 0

def EntryExtra.step : EntryExtra → Nat
  | .closing f => f.step
  | _ => 0

/-- The short part, words 0–7. The bits of an absent field hold 0. -/
def Entry.shortWords (e : Entry) : List Word :=
  let b := e.body
  let badge := b.badge
  let number := match badge with
    | some bg => bg.key.number.toNat
    | none => 0
  let issue := match badge with
    | some bg => bg.issue.toNat
    | none => 0
  let site := match badge with
    | some bg => bg.key.site.toNat
    | none => 0
  let slot := match b.slot with
    | some a => a.val
    | none => 0
  let lane := match b.lane with
    | some l => l.val
    | none => 0
  let long := if b.length = 16 then 1 else 0
  seqWords e.seq ++
    [word (entryKindCode b.kind + 32 * b.time.minute),
     word b.time.day,
     word (entryFlagsNat b.flags + 512 * b.time.second + 32768 * b.extra.step),
     word (slot + 2048 * issue + 32768 * long)] ++
    match b.extra with
    | .periods old new => [word old, word new]
    | .gapCount n => twoWords n
    | _ => [word number, word (number / 65536 + 4 * site + 256 * b.kindWord + 16384 * lane)]

/-- The long part of a closing (R185): one 128-bit figure, word 8 most significant. -/
def Figures.longFigure (f : Figures) : BitVec 128 :=
  match f.shiftDay with
  | none => 0#112 ++ BitVec.ofNat 16 f.period
  | some sd =>
    BitVec.ofInt 28 f.ein ++ BitVec.ofInt 28 f.eout ++ BitVec.ofNat 4 sd.shift.val ++ BitVec.ofNat 10 f.regular ++
      BitVec.ofNat 10 f.overtime ++ BitVec.ofNat 10 f.night ++ BitVec.ofNat 22 f.pay ++ BitVec.ofNat 16 f.period

/-- The eight words of a 128-bit figure, most significant first. -/
def wordsOf128 (v : BitVec 128) : List Word :=
  [7, 6, 5, 4, 3, 2, 1, 0].map (fun i => (v >>> (16 * i)).setWidth 16)

/-- The long part, words 8–15, of a long entry. -/
def EntryExtra.longWords : EntryExtra → List Word
  | .closing f => wordsOf128 f.longFigure
  | .clockSet ot ow nt nw => timeWords ot ++ [word ow] ++ timeWords nt ++ [word nw]
  | .hold n => twoWords n ++ [0, 0, 0, 0, 0, 0]
  | _ => []

/-- The 8 or 16 words of an entry. -/
def Entry.words (e : Entry) : List Word := e.shortWords ++ e.body.extra.longWords

/-! ## Journal commands -/

/-- The consumer that a word of value 0 or 1 names. -/
def portOf (w : Word) : Port := if w = 0 then .bus else .link

/-- How many of the entries fit whole, in order, in a room of n words (R163). -/
def takeFitting : List Entry → Nat → List Entry
  | [], _ => []
  | e :: rest, room => if e.length ≤ room then e :: takeFitting rest (room - e.length) else []

/-- The number after the last entry copied, the start when none was (R163). -/
def following (start : Seq) (copied : List Entry) : Seq :=
  match copied.getLast? with
  | some e => e.next
  | none => start

/-- READ JOURNAL (R162, R163). The consumer and the start mode are examined before the three numbered checks of R162, which do not
place them (log 38, DESIGN CHOICE). -/
def cmdReadJournal (consumer mode seqHigh seqLow : Word) (buf : Buffer) (s : State) : State × Reply :=
  match firstBad [decide (1 < consumer.toNat), decide (1 < mode.toNat)] with
  | some i => (s, .badOperand i)
  | none =>
    let j := s.journal
    let start := if mode = 0 then (j.consumer (portOf consumer)).cursor else seqOfWords seqHigh seqLow
    if !bufferStarts buf then (s, .refuse .badBuffer)
    else if back j.writePoint j.freePoint < back j.writePoint start then (s, .refuse .range)
    else
      let avail := j.from start
      if (match avail with | [] => false | e :: _ => decide (bufferRoom buf < e.length)) then (s, .refuse .bufferShort)
      else
        let copied := takeFitting avail (bufferRoom buf)
        (s, .doneOut (copied.flatMap Entry.words)
          (word copied.length :: seqWords (following start copied) ++ seqWords j.writePoint))

/-- Where a release to q leaves a cursor (R164): inside the numbers of a GAP, after its first, it goes to the GAP's end. -/
def releaseTarget (j : Journal) (q : Seq) : Seq :=
  match j.from q with
  | e :: _ =>
    match e.body.extra with
    | .gapCount _ => if q = e.seq then q else e.next
    | _ => q
  | [] => q

/-- RELEASE JOURNAL (R164). The consumer is examined before the sequence number: R164 gives no order (log 38, DESIGN CHOICE). -/
def cmdReleaseJournal (consumer seqHigh seqLow : Word) (s : State) : State × Reply :=
  match firstBad [decide (1 < consumer.toNat)] with
  | some i => (s, .badOperand i)
  | none =>
    let j := s.journal
    let q := seqOfWords seqHigh seqLow
    let p := portOf consumer
    let c := j.consumer p
    if beyond j.writePoint q then (s, .refuse .range)
    else
      let j1 :=
        if back j.writePoint q < back j.writePoint c.cursor then
          ((j.setConsumer p { c with cursor := releaseTarget j q }).refree).lowerMark p
        else j
      (s.setJournal j1, .done (seqWords (j1.consumer p).cursor ++ twoWords (j1.unread (j1.consumer p))))

/-- What SET CONSUMER makes of the journal before the high mark is brought up to date (R160). -/
def Journal.configure (j : Journal) (p : Port) (enable : Bool) (threshold : Nat) : Journal :=
  let c := { j.consumer p with threshold }
  if enable then
    if c.enabled then j.setConsumer p c
    else (j.setConsumer p { c with enabled := true, cursor := j.freePoint }).refree
  else if c.enabled then (j.setConsumer p { c with enabled := false, cursor := j.writePoint }).refree
  else j.setConsumer p c

/-- SET CONSUMER (R160, R161): the threshold of the consumer named is examined (log 32, DEDUCED). -/
def cmdSetConsumer (consumer action threshold : Word) (s : State) : State × Reply :=
  match firstBad [decide (1 < consumer.toNat), decide (1 < action.toNat)] with
  | some i => (s, .badOperand i)
  | none =>
    let p := portOf consumer
    let was := (s.journal.consumer p).enabled
    let j1 := (s.journal.configure p (decide (action = 1)) threshold.toNat).lowerMark p
    let s1 := examineHigh p (s.setJournal j1)
    (s1, .done (flagWord was :: seqWords (j1.consumer p).cursor))

/-- The count of the open GAP, 0 when none is open (R166). -/
def Journal.openCount (j : Journal) : Nat :=
  if j.openGap then
    match j.entries.getLast? with
    | some e => e.covers
    | none => 0
  else 0

/-- The sixteen words of JOURNAL STATUS (R166). -/
def journalStatusWords (j : Journal) : List Word :=
  seqWords j.writePoint ++ seqWords j.freePoint ++ seqWords j.bus.cursor ++ seqWords j.link.cursor ++
    twoWords j.occupied ++ [word j.bus.threshold, word j.link.threshold, journalFlagsWord j] ++
    twoWords j.openCount ++ [0]

/-- JOURNAL STATUS (R166). -/
def cmdJournalStatus (buf : Buffer) (s : State) : State × Reply :=
  match checkBuffer buf 16 with
  | some r => (s, .refuse r)
  | none => (s, .doneOut (journalStatusWords s.journal) [])

/-! ## Meanings of the journal rows -/

def execReadJournal (consumer mode seqHigh seqLow : Word) (buf : Buffer) (s : State) :
    Host.Outcome State Fault Refusal :=
  .next (runDirect (some buf) (cmdReadJournal consumer mode seqHigh seqLow buf) s)

def execReleaseJournal (consumer seqHigh seqLow : Word) (s : State) : Host.Outcome State Fault Refusal :=
  .next (runDirect none (cmdReleaseJournal consumer seqHigh seqLow) s)

def execSetConsumer (consumer action threshold : Word) (s : State) : Host.Outcome State Fault Refusal :=
  .next (runDirect none (cmdSetConsumer consumer action threshold) s)

def execJournalStatus (buf : Buffer) (s : State) : Host.Outcome State Fault Refusal :=
  .next (runDirect (some buf) (cmdJournalStatus buf) s)

end Sys2Proof.Machine
end

