-- ==== Sys2Proof/Machine/PayRules.lean ====
section
/-! DEFINITION. The arithmetic of the pay calculator (chapter 5): the closing (R90–R97), the totals (R98, R99) and the lazy
rollover (R101). -/

namespace Sys2Proof.Machine

/-! ## Effective times (R90, R91) -/

/-- The effective in (R90); t and S in absolute minutes. -/
def effectiveIn (sh : ShiftDef) (start t : Int) : Int :=
  if t ≤ start + sh.graceIn then start
  else start + (t - start + sh.unit - 1) / (sh.unit : Int) * sh.unit

/-- The effective out of a closing with an out time (R91). -/
def effectiveOut (sh : ShiftDef) (start finish t : Int) : Int :=
  if finish - sh.graceOut ≤ t ∧ t ≤ finish + sh.graceOut then finish
  else if t < finish - sh.graceOut then start + (t - start) / (sh.unit : Int) * sh.unit
  else finish + (t - finish) / (sh.unit : Int) * sh.unit

/-! ## Span, meal, overtime (R92, R93) -/

/-- The span (R92): 0 when eout ≤ ein, capped at 960. -/
def spanOf (ein eout : Int) : Nat := min (eout - ein).toNat Config.spanCap

/-- The paid minutes (R93). -/
def paidOf (sh : ShiftDef) (span : Nat) : Nat :=
  if 0 < sh.meal ∧ sh.mealThreshold ≤ span then span - sh.meal else span

/-! ## Night minutes (R94) -/

/-- The length of the intersection of [a, b) and [c, d). -/
def overlap (a b c d : Int) : Nat := (min b d - max a c).toNat

/-- The night window of day k. -/
def nightWindow (sh : ShiftDef) (k : Int) : Int × Int :=
  if sh.nightStart < sh.nightEnd then (k * 1440 + sh.nightStart, k * 1440 + sh.nightEnd)
  else (k * 1440 + sh.nightStart, (k + 1) * 1440 + sh.nightEnd)

/-- The sum of the overlaps for n days from day k on. -/
def nightSum (sh : ShiftDef) (a b : Int) (k : Int) : Nat → Nat
  | 0 => 0
  | n + 1 => overlap a b (nightWindow sh k).1 (nightWindow sh k).2 + nightSum sh a b (k + 1) n

/-- The night minutes of the interval [ein, ein + span), at most paid (R94): days day(ein) − 1 through day(ein + span). -/
def nightOf (sh : ShiftDef) (ein : Int) (span paid : Nat) : Nat :=
  if sh.nightStart = sh.nightEnd then 0
  else
    let first := ein / 1440 - 1
    let last := (ein + span) / 1440
    min (nightSum sh ein (ein + span) first (last - first + 1).toNat) paid

/-! ## Pay (R95, R96) -/

/-- The pay in cents (R96): ⌊(N + 240) / 480⌋. -/
def payOf (c : PayClass) (h regular overtime night : Nat) : Nat :=
  (h * regular * c.base + c.overtime * overtime * c.base + 8 * night * c.night + 240) / 480

/-- The closing of a scheduled attendance (R90–R96): with an out time, or at the scheduled end when there is none. -/
def scheduledFigures (sh : ShiftDef) (c : PayClass) (holidays : List Nat) (period : Nat) (sc : Schedule) (tIn : Nat)
    (tOut : Option Nat) : Figures :=
  let ein := effectiveIn sh sc.startMinute tIn
  let eout := match tOut with
    | some t => effectiveOut sh sc.startMinute sc.endMinute t
    | none => sc.endMinute
  let span := spanOf ein eout
  let paid := paidOf sh span
  let regular := min paid sh.overtimeThreshold
  let overtime := paid - regular
  let night := nightOf sh ein span paid
  let holiday := holidays.contains sc.day
  let h := if holiday then c.holiday else 8
  { shiftDay := some ⟨sc.shift, sc.day⟩, ein, eout, regular, overtime, night,
    holidayMinutes := if holiday then regular else 0
    pay := payOf c h regular overtime night
    period, missedOut := tOut.isNone, capped := decide ((Config.spanCap : Int) < eout - ein), holiday }

/-- The closing of an unscheduled attendance (R97). -/
def unscheduledFigures (period : Nat) : Figures :=
  { shiftDay := none, ein := 0, eout := 0, regular := 0, overtime := 0, night := 0, holidayMinutes := 0, pay := 0, period,
    missedOut := false, capped := false, holiday := false }

/-- The figures of a closing (R89): read from the tables as they stand. -/
def closingFigures (pt : PayTables) (payClass : ClassNumber) (a : Attendance) (tOut : Option Nat) : Figures :=
  match a.schedule with
  | some sc =>
    scheduledFigures (vget pt.shifts sc.shift) (vget pt.classes payClass) pt.holidays pt.period sc a.tIn.absolute tOut
  | none => unscheduledFigures pt.period

/-- The flags of a closing in its entry's flag set (R155). -/
def Figures.flags (f : Figures) : EntryFlags :=
  { missedOut := f.missedOut, capped := f.capped, holiday := f.holiday }

/-! ## Totals (R98, R99, R101) -/

/-- A totals set with every figure zero and the saturated flag clear (R32). -/
def Totals.zero (period : Nat) : Totals :=
  { period, regular := 0, overtime := 0, night := 0, holiday := 0, pay := 0, saturated := false, closed := 0,
    exceptions := 0 }

/-- The limit of a minute bucket or count (R98). -/
def countLimit : Nat := 65535
/-- The limit of the pay accumulator (R98). -/
def payLimit : Nat := 4294967295

/-- The figures of a closing added to a totals set, each field held at its limit (R98). -/
def Totals.addClosing (t : Totals) (f : Figures) : Totals :=
  let extra := bit f.missedOut + bit f.capped
  { period := t.period
    regular := min (t.regular + f.regular) countLimit
    overtime := min (t.overtime + f.overtime) countLimit
    night := min (t.night + f.night) countLimit
    holiday := min (t.holiday + f.holidayMinutes) countLimit
    pay := min (t.pay + f.pay) payLimit
    saturated :=
      t.saturated || decide (countLimit < t.regular + f.regular) || decide (countLimit < t.overtime + f.overtime) ||
        decide (countLimit < t.night + f.night) || decide (countLimit < t.holiday + f.holidayMinutes) ||
        decide (payLimit < t.pay + f.pay) || decide (countLimit < t.closed + 1) ||
        decide (countLimit < t.exceptions + extra)
    closed := min (t.closed + 1) countLimit
    exceptions := min (t.exceptions + extra) countLimit }

/-- One exception added to a totals set (R99). -/
def Totals.addException (t : Totals) : Totals :=
  { t with
    exceptions := min (t.exceptions + 1) countLimit
    saturated := t.saturated || decide (countLimit < t.exceptions + 1) }

/-- The period before p, modulo 65,536. -/
def periodBefore (p : Nat) : Nat := (p + 65535) % 65536

/-- Lazy rollover of a record's totals to period p (R101). -/
def Record.rollover (p : Nat) (r : Record) : Record :=
  if r.current.period = p then r
  else if r.current.period = periodBefore p then { r with previous := r.current, current := Totals.zero p }
  else { r with previous := Totals.zero (periodBefore p), current := Totals.zero p }

/-- A record's rollover and then one exception (R99). -/
def Record.countException (p : Nat) (r : Record) : Record :=
  let r1 := r.rollover p
  { r1 with current := r1.current.addException }

/-- Hands the pay calculator one exception for the record of a slot (R99). -/
def addException (a : Slot) (s : State) : State := s.modifyRecord a (Record.countException s.pay.period)

/-- Lazy rollover of the record of a slot (R101). -/
def rolloverSlot (a : Slot) (s : State) : State := s.modifyRecord a (Record.rollover s.pay.period)

/-- The ten words of a totals set (TABLE 11-7). -/
def totalsWords (t : Totals) : List Word :=
  [word t.period, word t.regular, word t.overtime, word t.night, word t.holiday] ++ twoWords t.pay ++
    [flagWord t.saturated, word t.closed, word t.exceptions]

end Sys2Proof.Machine
end

