-- ==== Sys2Proof/Machine/Roster.lean ====
section
/-! DEFINITION. The roster store (chapter 2): lookup, creation, update, deletion, scan, and the four roster commands. -/

namespace Sys2Proof.Machine

/-! ## Keys and lookup -/

/-- The place of a key in key order (R23): site first, then badge number. -/
def Key.rank (k : Key) : Nat := k.site.toNat * 262144 + k.number.toNat

/-- The outcomes of a lookup (R24). -/
inductive Lookup where
  | found (slot : Slot)
  | numberAbsent
  | siteAbsent
  deriving DecidableEq, Repr

/-- The number of a site in the census. -/
def siteNumber (k : Key) : Fin 64 := k.site.toFin

/-- The lookup of a key (R24): the census tells an absent site from an absent number (R25). -/
def lookup (r : Roster) (k : Key) : Lookup :=
  match r.index.find? (fun e => decide (e.key = k)) with
  | some e => .found e.slot
  | none => if vget r.census (siteNumber k) = 0 then .siteAbsent else .numberAbsent

/-- The slot a reference names, when it names a record: a key whose lookup is FOUND, or an occupied slot (R35). -/
def findRef (r : Roster) : RecordRef → Option Slot
  | .key k =>
    match lookup r k with
    | .found a => some a
    | _ => none
  | .slot a => if (recordAt r.records a).isSome then some a else none

/-! ## Creation and deletion -/

/-- The lowest number from n on that no record of the ascending list holds. -/
def lowestFreeFrom : List (Slot × Record) → Nat → Nat
  | [], n => n
  | (b, _) :: rest, n => if b.val = n then lowestFreeFrom rest (n + 1) else n

/-- The lowest-numbered free slot (R26), none when all 2,048 are occupied. -/
def lowestFree (r : Roster) : Option Slot :=
  let n := lowestFreeFrom r.records 0
  if h : n < 2048 then some ⟨n, h⟩ else none

/-- A record inserted in ascending slot order. -/
def insertRecord (a : Slot) (rec : Record) : List (Slot × Record) → List (Slot × Record)
  | [] => [(a, rec)]
  | (b, r) :: rest => if a < b then (a, rec) :: (b, r) :: rest else (b, r) :: insertRecord a rec rest

/-- An index entry inserted in key order (R23). -/
def insertIndex (e : IndexEntry) : List IndexEntry → List IndexEntry
  | [] => [e]
  | x :: rest => if e.key.rank < x.key.rank then e :: x :: rest else x :: insertIndex e rest

/-- The roster with a record created in a free slot (R34): index, census and count follow. -/
def createRecord (r : Roster) (a : Slot) (rec : Record) : Roster :=
  { records := insertRecord a rec r.records
    index := insertIndex ⟨rec.key, a⟩ r.index
    census := vset r.census (siteNumber rec.key) (vget r.census (siteNumber rec.key) + 1)
    occupied := r.occupied + 1 }

/-- The roster with the record of a slot removed (R37). -/
def removeRecord (r : Roster) (a : Slot) (rec : Record) : Roster :=
  { records := r.records.filter (fun p => decide (p.1 ≠ a))
    index := r.index.filter (fun e => decide (e.slot ≠ a))
    census := vset r.census (siteNumber rec.key) (vget r.census (siteNumber rec.key) - 1)
    occupied := r.occupied - 1 }

/-! ## The load image (R33) -/

/-- The ten words of a load image. -/
structure LoadImage where
  site : Word
  numberHigh : Word
  numberLow : Word
  issue : Word
  employeeHigh : Word
  employeeLow : Word
  shift : Word
  payClass : Word
  permissions : Word
  flags : Word
  deriving DecidableEq, Repr

/-- Reads a load image from a command buffer. -/
def readLoadImage (m : Memory) (b : Buffer) : LoadImage :=
  { site := bufferWord m b 0, numberHigh := bufferWord m b 1, numberLow := bufferWord m b 2, issue := bufferWord m b 3,
    employeeHigh := bufferWord m b 4, employeeLow := bufferWord m b 5, shift := bufferWord m b 6,
    payClass := bufferWord m b 7, permissions := bufferWord m b 8, flags := bufferWord m b 9 }

/-- The first image word out of range (R33 check 3). -/
def LoadImage.bad (i : LoadImage) : Option Nat :=
  firstBad
    [decide (63 < i.site.toNat), decide (3 < i.numberHigh.toNat), false, decide (15 < i.issue.toNat), false, false,
     decide (15 < i.shift.toNat) && decide (i.shift ≠ 0xFFFF), decide (15 < i.payClass.toNat),
     decide (15 < i.permissions.toNat), decide (3 < i.flags.toNat)]

def LoadImage.key (i : LoadImage) : Key := keyOfWords i.site i.numberHigh i.numberLow

/-- A shift operand: NONE is FFFFh (R184). -/
def shiftOfWord (w : Word) : Option ShiftNumber := if w = 0xFFFF then none else some (finOf 16 w)

/-- The configuration fields of an image written into a record (R34, update). -/
def LoadImage.configure (i : LoadImage) (r : Record) : Record :=
  { r with
    issue := BitVec.ofNat 4 i.issue.toNat
    employee := i.employeeHigh ++ i.employeeLow
    shift := shiftOfWord i.shift
    payClass := finOf 16 i.payClass
    permissions := BitVec.ofNat 4 i.permissions.toNat
    suspended := i.flags.getLsbD 0
    exempt := i.flags.getLsbD 1 }

/-- A new record's working fields (R34, R32): OUT, NONE, muster clear, no last passage, totals stamped. -/
def Record.fresh (k : Key) (period : Nat) : Record :=
  { key := k, issue := 0, employee := 0, shift := none, payClass := 0, permissions := 0, suspended := false, exempt := false,
    presence := .out, pendingLane := none, muster := false, lastPassage := none, current := Totals.zero period,
    previous := Totals.zero (periodBefore period) }

/-- LOAD RECORD (R33, R34). -/
def cmdLoadRecord (buf : Buffer) (s : State) : State × Reply :=
  match checkBuffer buf 10 with
  | some r => (s, .refuse r)
  | none =>
    let image := readLoadImage s.memory buf
    match image.bad with
    | some i => (s, .badOperand i)
    | none =>
      match lookup s.roster image.key with
      | .found a =>
        if ((s.record a).bind Record.pendingLane).isSome then (s, .refuse .busyRecord)
        else
          let s1 := s.modifyRecord a image.configure
          (s1, { Reply.done [word a.val, 1, word s1.roster.occupied] with used := some 10 })
      | _ =>
        match lowestFree s.roster with
        | none => (s, .refuse .tableFull)
        | some a =>
          let rec_ := image.configure (Record.fresh image.key s.pay.period)
          let s1 := s.setRoster (createRecord s.roster a rec_)
          (s1, { Reply.done [word a.val, 0, word s1.roster.occupied] with used := some 10 })

/-! ## Reading, deleting, scanning -/

/-- A field that may be NONE, as a word (R184). -/
def optionWord {n : Nat} : Option (Fin n) → Word
  | some i => word i.val
  | none => 0xFFFF

/-- The record image (TABLE 11-6). -/
def recordImage (a : Slot) (r : Record) : List Word :=
  [word a.val] ++ keyWords r.key ++ [word r.issue.toNat] ++ twoWords r.employee.toNat ++
    [optionWord r.shift, word r.payClass.val, word r.permissions.toNat, recordFlagsWord r, optionWord r.pendingLane] ++
    (match r.lastPassage with
      | some p => word p.lane.val :: timeWords p.time
      | none => [0xFFFF, 0, 0, 0]) ++
    totalsWords r.current ++ totalsWords r.previous

/-- READ RECORD (R35, R36). -/
def cmdReadRecord (selector ref0 ref1 ref2 : Word) (buf : Buffer) (s : State) : State × Reply :=
  match parseRef 0 selector ref0 ref1 ref2 with
  | .error i => (s, .badOperand i)
  | .ok ref =>
    match checkBuffer buf 36 with
    | some r => (s, .refuse r)
    | none =>
      match findRef s.roster ref with
      | none => (s, .refuse .notFound)
      | some a =>
        let s1 := rolloverSlot a s
        match s1.record a with
        | none => (s1, .refuse .notFound)
        | some r => (s1, .doneOut (recordImage a r) [word a.val])

/-- DELETE RECORD (R37). -/
def cmdDeleteRecord (selector ref0 ref1 ref2 : Word) (s : State) : State × Reply :=
  match parseRef 0 selector ref0 ref1 ref2 with
  | .error i => (s, .badOperand i)
  | .ok ref =>
    match findRef s.roster ref with
    | none => (s, .refuse .notFound)
    | some a =>
      match s.record a with
      | none => (s, .refuse .notFound)
      | some r =>
        if r.pendingLane.isSome then (s, .refuse .busyRecord)
        else if r.presence = .inside then (s, .refuse .recordPresent)
        else
          let s1 := s.setRoster (removeRecord s.roster a r)
          (s1, .done [word a.val, word s1.roster.occupied])

/-- The four words of an index entry (R38, TABLE 2-4): site, number high, number low, slot. R29 says that SCAN INDEX shows the pending
lane, for which R38 gives the entry no place; the model follows R38 and shows none (log 37, DESIGN CHOICE). -/
def indexWords (e : IndexEntry) : List Word := keyWords e.key ++ [word e.slot.val]

/-- SCAN INDEX (R38). Its entries show no pending lane (log 37, DESIGN CHOICE). Its operands are examined before its buffer: R38 gives
no order (log 29, DESIGN CHOICE). -/
def cmdScanIndex (site numberHigh numberLow : Word) (buf : Buffer) (s : State) : State × Reply :=
  match firstBad [decide (63 < site.toNat), decide (3 < numberHigh.toNat)] with
  | some i => (s, .badOperand i)
  | none =>
    match checkBuffer buf 4 with
    | some r => (s, .refuse r)
    | none =>
      let start := keyOfWords site numberHigh numberLow
      let found := s.roster.index.dropWhile (fun e => decide (e.key.rank < start.rank))
      let copied := found.take (bufferRoom buf / 4)
      let rest := found.drop (bufferRoom buf / 4)
      let next := match rest with
        | e :: _ => 1 :: keyWords e.key
        | [] => [0, 0, 0, 0]
      (s, { Reply.done (word copied.length :: next) with out := copied.flatMap indexWords })

/-! ## Meanings of the roster rows -/

def execLoadRecord (buf : Buffer) (s : State) : Host.Outcome State Fault Refusal :=
  .next (runDirect none (cmdLoadRecord buf) s)

def execReadRecord (selector ref0 ref1 ref2 : Word) (buf : Buffer) (s : State) : Host.Outcome State Fault Refusal :=
  .next (runDirect (some buf) (cmdReadRecord selector ref0 ref1 ref2 buf) s)

def execDeleteRecord (selector ref0 ref1 ref2 : Word) (s : State) : Host.Outcome State Fault Refusal :=
  .next (runDirect none (cmdDeleteRecord selector ref0 ref1 ref2) s)

def execScanIndex (site numberHigh numberLow : Word) (buf : Buffer) (s : State) : Host.Outcome State Fault Refusal :=
  .next (runDirect (some buf) (cmdScanIndex site numberHigh numberLow buf) s)

end Sys2Proof.Machine
end

