-- ==== Sys2Proof/Machine/Attendance.lean ====
section
/-! DEFINITION. The attendance list (chapter 6): order, opening and closing, the auto-close sweep, LIST PRESENT and the three
corrections; and the choice of a shift's instance (R70), which FORCE IN shares with the classifier. -/

namespace Sys2Proof.Machine

/-! ## Order of the list (R106) -/

/-- Whether a new entry stands before x: its deadline is lower, or it has one and x has none. -/
def Attendance.before (e x : Attendance) : Bool :=
  match e.deadline, x.deadline with
  | some a, some b => decide (a < b)
  | some _, none => true
  | none, _ => false

/-- Inserts an entry after every entry whose deadline is lower than or equal to its own (R106). -/
def insertAttendance (e : Attendance) : List Attendance → List Attendance
  | [] => [e]
  | x :: rest => if e.before x then e :: x :: rest else x :: insertAttendance e rest

/-- Removes the entry of a slot. -/
def removeAttendance (a : Slot) (l : List Attendance) : List Attendance := l.filter (fun e => decide (e.slot ≠ a))

/-- The entry of a slot. -/
def attendanceOf (a : Slot) (l : List Attendance) : Option Attendance := l.find? (fun e => decide (e.slot = a))

/-! ## The instance of a shift (R70) -/

/-- A candidate instance day d qualifies for absolute minute t: the shift is enabled, its day mask includes the weekday of d,
and t lies in [S − early window, S + length). -/
def dayQualifies (s : State) (sh : ShiftDef) (t d : Nat) : Bool :=
  sh.enabled && sh.dayMask.getLsbD (weekday s d) &&
    decide (d * 1440 + sh.start ≤ t + sh.earlyWindow) && decide (t < d * 1440 + sh.start + sh.length)

/-- The instance an in-punch of a time belongs to, if any (R70): day D, or day D − 1 when D is not 0; the later is taken. -/
def chooseInstance (s : State) (shift : Option ShiftNumber) (time : Time) : Option ShiftDay :=
  match shift with
  | none => none
  | some k =>
    let sh := vget s.pay.shifts k
    if dayQualifies s sh time.absolute time.day then some ⟨k, time.day⟩
    else if 0 < time.day ∧ dayQualifies s sh time.absolute (time.day - 1) then some ⟨k, time.day - 1⟩
    else none

/-! ## Opening and closing -/

/-- The entry an attendance opens with (R74, R104, R105). -/
def newAttendance (pt : PayTables) (a : Slot) (shiftDay : Option ShiftDay) (tIn : Time) : Attendance :=
  match shiftDay with
  | some sd =>
    let sh := vget pt.shifts sd.shift
    let startMinute := sd.day * 1440 + sh.start
    let endMinute := startMinute + sh.length
    { slot := a, schedule := some ⟨sd.shift, sd.day, startMinute, endMinute⟩, tIn
      deadline := if sh.autoCloseDelay = 0 then none else some (endMinute + sh.autoCloseDelay) }
  | none => { slot := a, schedule := none, tIn, deadline := some (tIn.absolute + Config.spanCap) }

/-- The record becomes IN (R28). -/
def Record.enter (r : Record) : Record := { r with presence := .inside }

/-- The record becomes OUT and its muster flag is cleared (R28, R30). -/
def Record.leave (r : Record) : Record := { r with presence := .out, muster := false }

/-- Opens an attendance: the entry is inserted and the record becomes IN, in one step (R28, R106). -/
def openAttendance (a : Slot) (shiftDay : Option ShiftDay) (tIn : Time) (s : State) : State :=
  (putAttendance (insertAttendance (newAttendance s.pay a shiftDay tIn) s.attendance) s).modifyRecord a Record.enter

/-- Removes the attendance of a slot: the record becomes OUT, in one step (R28, R106). -/
def endAttendance (a : Slot) (s : State) : State :=
  (putAttendance (removeAttendance a s.attendance) s).modifyRecord a Record.leave

/-- The record with a closing added after its rollover (R89, R98). -/
def Record.addClosing (p : Nat) (f : Figures) (r : Record) : Record :=
  let r1 := r.rollover p
  { r1 with current := r1.current.addClosing f }

/-- The figures of closing an entry of a record's slot, from the tables as they stand (R89). -/
def figuresOf (e : Attendance) (tOut : Option Nat) (s : State) : Figures :=
  match s.record e.slot with
  | some r => closingFigures s.pay r.payClass e tOut
  | none => unscheduledFigures s.pay.period

/-- Closes an entry (R89): rollover, figures into the current totals, entry removed, record OUT. -/
def closeEntry (e : Attendance) (tOut : Option Nat) (s : State) : State :=
  endAttendance e.slot (s.modifyRecord e.slot (Record.addClosing s.pay.period (figuresOf e tOut s)))

/-- The key with the record's issue level of a slot, for an entry that names the record. -/
def badgeOf (s : State) (a : Slot) : Option Badge := (s.record a).map (fun r => ⟨r.key, r.issue⟩)

/-! ## The auto-close sweep (R107–R109) -/

/-- The long AUTO-CLOSE entry (R108 step 3). -/
def autoCloseBody (e : Attendance) (s : State) (f : Figures) : EntryBody :=
  { plainBody .autoClose s.time.clock with
    slot := some e.slot, badge := badgeOf s e.slot, flags := f.flags
    kindWord := 4 * attendanceKindCode e.schedule.isSome, extra := .closing f }

/-- One examined entry: passed over where its record is pending (R109), else closed at the scheduled end (R108). -/
def sweepEntry (e : Attendance) (s : State) : State :=
  if ((s.record e.slot).bind Record.pendingLane).isSome then s
  else appendEntry (autoCloseBody e s (figuresOf e none s)) (closeEntry e none s)

/-- The entry's deadline is a number at or below minute t. -/
def Attendance.due (t : Nat) (e : Attendance) : Bool :=
  match e.deadline with
  | some d => decide (d ≤ t)
  | none => false

/-- The sweep of a minute event at absolute minute t (R107): the due entries from the front, in list order. -/
def sweep (t : Nat) (s : State) : State := (s.attendance.takeWhile (Attendance.due t)).foldl (fun acc e => sweepEntry e acc) s

/-! ## LIST PRESENT (R111) -/

/-- The muster flag of the record of a slot. -/
def musterOf (s : State) (a : Slot) : Bool :=
  match s.record a with
  | some r => r.muster
  | none => false

/-- The ten words of a listed entry (R111). -/
def presentWords (s : State) (e : Attendance) : List Word :=
  [word e.slot.val] ++
    (match s.record e.slot with
      | some r => keyWords r.key
      | none => [0, 0, 0]) ++
    [presentFlagsWord e (musterOf s e.slot)] ++ timeWords e.tIn ++
    (match e.deadline with
      | some d => twoWords d
      | none => [0, 0])

/-- LIST PRESENT (R111). -/
def cmdListPresent (filter skip : Word) (buf : Buffer) (s : State) : State × Reply :=
  match firstBad [decide (1 < filter.toNat), decide (2047 < skip.toNat)] with
  | some i => (s, .badOperand i)
  | none =>
    match checkBuffer buf 10 with
    | some r => (s, .refuse r)
    | none =>
      let matching := s.attendance.filter (fun e => decide (filter = 0) || !musterOf s e.slot)
      let copied := (matching.drop skip.toNat).take (bufferRoom buf / 10)
      (s, .doneOut (copied.flatMap (presentWords s)) [word matching.length, word copied.length])

/-! ## Corrections (R112–R115) -/

/-- The operations of CORRECT PRESENCE (R112). -/
inductive Correction where
  | forceOut
  | forceIn
  | cancel
  deriving DecidableEq, Repr

def correctionCode : Correction → Nat
  | .forceOut => 0
  | .forceIn => 1
  | .cancel => 2

/-- The CORRECTION entry's body (R112, R113–R115). -/
def correctionBody (op : Correction) (origin : Port) (a : Slot) (badge : Option Badge) (time : Time) (scheduled : Bool)
    (extra : EntryExtra) (flags : EntryFlags) : EntryBody :=
  { plainBody .correction time with
    slot := some a, badge
    flags := { flags with originBus := decide (origin = .bus), originLink := decide (origin = .link) }
    kindWord := correctionCode op + 4 * attendanceKindCode scheduled, extra }

/-- FORCE OUT on the entry found (R113). -/
def forceOutEntry (origin : Port) (e : Attendance) (time : Time) (s : State) : State × Reply :=
  let f := figuresOf e (some time.absolute) s
  let s1 := closeEntry e (some time.absolute) s
  let s2 := appendEntry
    (correctionBody .forceOut origin e.slot (badgeOf s e.slot) time e.schedule.isSome (.closing f) f.flags) s1
  (s2, .done ([word e.slot.val, word (attendanceKindCode e.schedule.isSome)] ++ twoWords f.pay ++
    [word s2.attendance.length]))

/-- FORCE IN on the record found OUT (R114). -/
def forceInRecord (origin : Port) (a : Slot) (r : Record) (time : Time) (s : State) : State × Reply :=
  let sd := chooseInstance s r.shift time
  let s1 := openAttendance a sd time s
  let s2 := if sd.isSome then s1 else addException a s1
  let s3 := appendEntry (correctionBody .forceIn origin a (badgeOf s a) time sd.isSome .none {}) s2
  let dayWord := match sd with
    | some x => word x.day
    | none => 0
  let shiftWord := match sd with
    | some x => word x.shift.val
    | none => 0
  (s3, .done [word a.val, word (attendanceKindCode sd.isSome), dayWord, shiftWord, word s3.attendance.length])

/-- CANCEL on the entry found (R115). -/
def cancelEntry (origin : Port) (e : Attendance) (s : State) : State × Reply :=
  let s1 := endAttendance e.slot s
  let s2 := appendEntry
    (correctionBody .cancel origin e.slot (badgeOf s e.slot) s.time.clock e.schedule.isSome .none {}) s1
  (s2, .done [word e.slot.val, word (attendanceKindCode e.schedule.isSome), 0, 0, word s2.attendance.length])

/-- The time operands out of range (R112 check 2), by their index; every day number is in range. -/
def badTime (minute second : Word) : Option Nat :=
  firstBad [false, false, false, false, false, false, decide (1439 < minute.toNat), decide (59 < second.toNat)]

/-- Checks 4 and 5 of R112: the record must be found and not pending. -/
def correctable (ref : RecordRef) (s : State) : Except Reply (Slot × Record) :=
  match findRef s.roster ref with
  | none => .error (.refuseWord9 .notFound 0)
  | some a =>
    match s.record a with
    | none => .error (.refuseWord9 .notFound 0)
    | some r => if r.pendingLane.isSome then .error (.refuse .busyRecord) else .ok (a, r)

/-- The record's attendance entry where the record is IN (R112 check 6). -/
def inEntry (a : Slot) (r : Record) (s : State) : Option Attendance :=
  if r.presence = .inside then attendanceOf a s.attendance else none

/-- CORRECT PRESENCE, FORCE OUT (R112, R113). -/
def cmdForceOut (origin : Port) (selector ref0 ref1 ref2 day minute second : Word) (s : State) : State × Reply :=
  match parseRef 1 selector ref0 ref1 ref2 with
  | .error i => (s, .badOperand i)
  | .ok ref =>
    match badTime minute second with
    | some i => (s, .badOperand i)
    | none =>
      if s.time.clockUnset then (s, .refuse .clockUnset)
      else
        match correctable ref s with
        | .error r => (s, r)
        | .ok (a, r) =>
          match inEntry a r s with
          | none => (s, .refuseWord9 .notFound 1)
          | some e => forceOutEntry origin e ⟨day.toNat, minute.toNat, second.toNat⟩ s

/-- CORRECT PRESENCE, FORCE IN (R112, R114). -/
def cmdForceIn (origin : Port) (selector ref0 ref1 ref2 day minute second : Word) (s : State) : State × Reply :=
  match parseRef 1 selector ref0 ref1 ref2 with
  | .error i => (s, .badOperand i)
  | .ok ref =>
    match badTime minute second with
    | some i => (s, .badOperand i)
    | none =>
      if s.time.clockUnset then (s, .refuse .clockUnset)
      else
        match correctable ref s with
        | .error r => (s, r)
        | .ok (a, r) =>
          if r.presence = .inside then (s, .refuse .recordPresent)
          else forceInRecord origin a r ⟨day.toNat, minute.toNat, second.toNat⟩ s

/-- CORRECT PRESENCE, CANCEL (R112, R115). -/
def cmdCancel (origin : Port) (selector ref0 ref1 ref2 : Word) (s : State) : State × Reply :=
  match parseRef 1 selector ref0 ref1 ref2 with
  | .error i => (s, .badOperand i)
  | .ok ref =>
    match correctable ref s with
    | .error r => (s, r)
    | .ok (a, r) =>
      match inEntry a r s with
      | none => (s, .refuseWord9 .notFound 1)
      | some e => cancelEntry origin e s

/-! ## Meanings of the attendance rows -/

def execListPresent (filter skip : Word) (buf : Buffer) (s : State) : Host.Outcome State Fault Refusal :=
  .next (runDirect (some buf) (cmdListPresent filter skip buf) s)

def execForceOut (origin : Port) (selector ref0 ref1 ref2 day minute second : Word) (s : State) :
    Host.Outcome State Fault Refusal :=
  .next (runDirect none (cmdForceOut origin selector ref0 ref1 ref2 day minute second) s)

def execForceIn (origin : Port) (selector ref0 ref1 ref2 day minute second : Word) (s : State) :
    Host.Outcome State Fault Refusal :=
  .next (runDirect none (cmdForceIn origin selector ref0 ref1 ref2 day minute second) s)

def execCancel (origin : Port) (selector ref0 ref1 ref2 : Word) (s : State) : Host.Outcome State Fault Refusal :=
  .next (runDirect none (cmdCancel origin selector ref0 ref1 ref2) s)

end Sys2Proof.Machine
end

