-- ==== Sys2Proof/Machine/Bells.lean ====
section
/-! DEFINITION. The bell controller (chapter 8): the schedule and its evaluation, cadence, requests at the zone players, the
evacuation, and the bell commands. -/

namespace Sys2Proof.Machine

/-! ## Patterns and cadence -/

/-- A silent pattern (R142). -/
def Pattern.silent (p : Pattern) : Bool := decide (p.period = 0)

/-- A player starting a pattern with a copy of it (R142, R144). -/
def startPlaying (n : PatternNumber) (p : Pattern) (source : ZoneSource) : Playing :=
  { pattern := n, copy := p, source, phase := .stroke, counter := p.period, strokesLeft := p.strokes,
    groupsLeft := p.groups }

/-- The output of a player (R144): on in STROKE while the counter is above period − min(on, period). -/
def Playing.output (p : Playing) : Bool :=
  decide (p.phase = .stroke) && decide (p.copy.period - min p.copy.on p.copy.period < p.counter)

/-- The output of a zone (R136): off without mains and through every start. -/
def zoneOutput (s : State) (z : Zone) : Bool :=
  running s &&
    match vget s.bells.zones z with
    | some p => p.output
    | none => false

/-- A new stroke. -/
def Playing.newStroke (p : Playing) (strokesLeft groupsLeft : Nat) : Playing :=
  { p with phase := .stroke, counter := p.copy.period, strokesLeft, groupsLeft }

/-- The groups left after the end of a group that was not the last: continuous stays 0 (R144). -/
def Playing.groupsAfter (p : Playing) : Nat := if p.copy.groups = 0 then p.groupsLeft else p.groupsLeft - 1

/-- The tick that brings a stroke or gap counter to 0 (R144): what the player does next, none for IDLE. -/
def Playing.expire (p : Playing) : Option Playing :=
  match p.phase with
  | .gap => some (p.newStroke p.strokesLeft p.groupsLeft)
  | .stroke =>
    if 1 < p.strokesLeft then some (p.newStroke (p.strokesLeft - 1) p.groupsLeft)
    else if p.copy.groups = 0 ∨ 1 < p.groupsLeft then
      if 0 < p.copy.gap then
        some { p with phase := .gap, counter := p.copy.gap, strokesLeft := p.copy.strokes, groupsLeft := p.groupsAfter }
      else some (p.newStroke p.copy.strokes p.groupsAfter)
    else none

/-- One tick of a player (R144). -/
def Playing.tick (p : Playing) : Option Playing :=
  if p.counter ≤ 1 then p.expire else some { p with counter := p.counter - 1 }

/-! ## Requests (R142, R145) -/

/-- Whether a zone takes a request of pattern n (R142, R145): the pattern is not silent, a locked zone takes pattern 7 only,
and what plays has no higher priority. -/
def Bells.takes (b : Bells) (z : Zone) (n : PatternNumber) : Bool :=
  !(vget b.patterns n).silent && (decide (n = 7) || !b.locked.getLsbD z.val) &&
    match vget b.zones z with
    | none => true
    | some q => decide (q.copy.priority ≤ (vget b.patterns n).priority)

/-- Presents a request of pattern n at zone z. -/
def Bells.request (b : Bells) (z : Zone) (n : PatternNumber) (source : ZoneSource) : Bells :=
  if b.takes z n then { b with zones := vset b.zones z (some (startPlaying n (vget b.patterns n) source)) } else b

/-- The zones of a mask, in turn 0 to 7. -/
def zonesOf (mask : BitVec 8) : List Zone := allZones.filter (fun z => mask.getLsbD z.val)

/-- Presents a request of pattern n at each zone of a mask, in turn. -/
def Bells.requestAll (b : Bells) (mask : BitVec 8) (n : PatternNumber) (source : ZoneSource) : Bells :=
  (zonesOf mask).foldl (fun acc z => acc.request z n source) b

/-- The zone set with the zones of a list. -/
def zoneSet (zs : List Zone) : Nat := (zs.map (fun z => 2 ^ z.val)).sum

/-- Every zone player for which `stop` holds goes to IDLE. -/
def Bells.silenceWhere (b : Bells) (stop : Zone → Playing → Bool) : Bells :=
  { b with
    zones := vmap
      (fun z p => match p with
        | some q => if stop z q then none else some q
        | none => none) b.zones }

/-- Presents a lane's alarm request on its alarm zones (R146). -/
def alarmRequest (c : LaneConfig) (source : ZoneSource) (s : State) : State :=
  s.setBells (s.bells.requestAll c.alarmZones c.alarmPattern source)

/-- Ends the held alarm of a lane (R146): every zone playing with source HELD of that lane goes to IDLE. -/
def endHeldAlarm (l : Lane) (s : State) : State :=
  s.setBells (s.bells.silenceWhere (fun _ q => decide (q.source = .held l)))

/-- The bell controller is told that an emergency has begun, or that it continues (R149). -/
def beginEvacuation (s : State) : State :=
  let b := { s.bells with locked := s.bells.emergencyMask }
  s.setBells (b.requestAll b.locked 7 .evacuation)

/-- The bell controller is told that the emergency has ended (R149). -/
def endEvacuation (s : State) : State :=
  let b := s.bells.silenceWhere (fun z q => s.bells.locked.getLsbD z.val && decide (q.pattern = 7))
  s.setBells { b with locked := 0 }

/-! ## The schedule (R139–R141) -/

/-- The holiday test of an entry on day d: rule RING, or d is not in the holiday list. -/
def holidayAllows (s : State) (e : BellEntry) (d : Nat) : Bool :=
  decide (e.holidayRule = .ring) || !s.pay.holidays.contains d

/-- The instance days a SHIFT entry examines at day D (R140): D − 1 unless D is 0, D, and D + 1 unless D is 65,535. -/
def bellDays (day : Nat) : List Nat :=
  (if day = 0 then [] else [day - 1]) ++ [day] ++ (if day = 65535 then [] else [day + 1])

/-- A SHIFT entry fires at absolute minute t for instance day d (R140). -/
def shiftFires (s : State) (e : BellEntry) (t d : Nat) : Bool :=
  let sh := vget s.pay.shifts e.shift
  let moment : Int := d * 1440 + sh.start + e.offset + (if e.trigger = .shiftEnd then (sh.length : Int) else 0)
  sh.enabled && sh.dayMask.getLsbD (weekday s d) && holidayAllows s e d && decide (moment = (t : Int))

/-- A schedule entry fires at a minute event of absolute minute t (R139, R140). -/
def fires (s : State) (t : Nat) (e : BellEntry) : Bool :=
  let day := t / 1440
  e.enabled &&
    match e.trigger with
    | .clock => decide (e.minute = t - day * 1440) && e.dayMask.getLsbD (weekday s day) && holidayAllows s e day
    | _ => (bellDays day).any (shiftFires s e t)

/-- The entries that fire at minute t, by index. -/
def firing (s : State) (t : Nat) : List BellIndex :=
  (List.finRange 64).filter (fun i => fires s t (vget s.bells.schedule i))

/-- The priority of the pattern an entry requests. -/
def Bells.entryPriority (b : Bells) (i : BellIndex) : Nat := (vget b.patterns (vget b.schedule i).pattern).priority

/-- A candidate at a zone (R141): the entry's mask includes the zone and its pattern is not silent. -/
def Bells.candidate (b : Bells) (z : Zone) (i : BellIndex) : Bool :=
  (vget b.schedule i).zones.getLsbD z.val && !(vget b.patterns (vget b.schedule i).pattern).silent

/-- The better of the choice so far and a later entry (R141): the higher priority, on a tie the lower index. -/
def Bells.better (b : Bells) (best : Option BellIndex) (i : BellIndex) : Option BellIndex :=
  match best with
  | none => some i
  | some j => if b.entryPriority j < b.entryPriority i then some i else some j

/-- The entry chosen at a zone among those that fire (R141). -/
def Bells.choose (b : Bells) (fired : List BellIndex) (z : Zone) : Option BellIndex :=
  (fired.filter (b.candidate z)).foldl b.better none

/-- The evaluation of a minute event (R141): for each zone the chosen entry's request. -/
def evaluateSchedule (t : Nat) (s : State) : State :=
  let fired := firing s t
  s.setBells (allZones.foldl
    (fun acc z => match s.bells.choose fired z with
      | some i => acc.request z (vget s.bells.schedule i).pattern (.schedule i)
      | none => acc) s.bells)

/-! ## Bell commands -/

/-- The range checks of WRITE BELL ENTRY, in word order (R138). -/
def badBellEntry (index flags moment offset dayMask zones pattern : Word) : Option Nat :=
  let isClock := decide ((flags.toNat / 2) % 4 = 0)
  firstBad
    [decide (63 < index.toNat), decide ((flags.toNat / 2) % 4 = 3),
     if isClock then decide (1439 < moment.toNat) else decide (15 < moment.toNat),
     !isClock && (decide (offset.toInt < -120) || decide (120 < offset.toInt)),
     isClock && decide (127 < dayMask.toNat), decide (255 < zones.toNat), decide (6 < pattern.toNat)]

/-- The entry that WRITE BELL ENTRY's words hold (R137, R138). -/
def bellEntryOf (flags moment offset dayMask zones pattern : Word) : BellEntry :=
  let isClock := decide ((flags.toNat / 2) % 4 = 0)
  { enabled := flags.getLsbD 0
    trigger := triggerOf ((flags.toNat / 2) % 4)
    minute := if isClock then moment.toNat else 0
    shift := if isClock then 0 else finOf 16 moment
    offset := if isClock then 0 else offset.toInt
    dayMask := if isClock then BitVec.ofNat 7 dayMask.toNat else 0
    holidayRule := if flags.getLsbD 3 then .ring else .skip
    zones := BitVec.ofNat 8 zones.toNat
    pattern := finOf 8 pattern }

/-- WRITE BELL ENTRY (R138). -/
def cmdWriteBellEntry (index flags moment offset dayMask zones pattern : Word) (s : State) : State × Reply :=
  match badBellEntry index flags moment offset dayMask zones pattern with
  | some i => (s, .badOperand i)
  | none =>
    let e := bellEntryOf flags moment offset dayMask zones pattern
    (s.setBells { s.bells with schedule := vset s.bells.schedule (finOf 64 index) e }, .done [index])

/-- The words 8–14 of READ BELL ENTRY (R138). -/
def bellEntryWords (index : Word) (e : BellEntry) : List Word :=
  [index, bellFlagsWord e, if e.trigger = .clock then word e.minute else word e.shift.val, signedWord e.offset,
   word e.dayMask.toNat, word e.zones.toNat, word e.pattern.val]

/-- READ BELL ENTRY (R138). -/
def cmdReadBellEntry (index : Word) (s : State) : State × Reply :=
  match firstBad [decide (63 < index.toNat)] with
  | some i => (s, .badOperand i)
  | none => (s, .done (bellEntryWords index (vget s.bells.schedule (finOf 64 index))))

/-- The range checks of WRITE PATTERN, in word order (R143). For pattern 7 any of the bits 8–15 of the last word counts as a zone above
7: whether R184 has them refused or unread is left open (log 39, DESIGN CHOICE). -/
def badPattern (number on period strokes gap groups last : Word) : Option Nat :=
  firstBad
    [decide (7 < number.toNat), decide (on = 0) || decide (255 < on.toNat),
     decide (255 < period.toNat) || (decide (number = 7) && decide (period = 0)),
     decide (strokes = 0) || decide (15 < strokes.toNat), decide (255 < gap.toNat), decide (255 < groups.toNat),
     if number = 7 then decide (255 < last.toNat) else decide (3 < last.toNat)]

/-- WRITE PATTERN (R143). -/
def cmdWritePattern (number on period strokes gap groups last : Word) (s : State) : State × Reply :=
  match badPattern number on period strokes gap groups last with
  | some i => (s, .badOperand i)
  | none =>
    let p : Pattern :=
      { on := on.toNat, period := period.toNat, strokes := strokes.toNat, gap := gap.toNat, groups := groups.toNat,
        priority := if number = 7 then 4 else last.toNat }
    (s.setBells
      { s.bells with
        patterns := vset s.bells.patterns (finOf 8 number) p
        emergencyMask := if number = 7 then BitVec.ofNat 8 last.toNat else s.bells.emergencyMask },
      .done [number])

/-- The words 8–14 of READ PATTERN (R143, TABLE 11-5). -/
def patternWords (number : Word) (p : Pattern) (mask : BitVec 8) : List Word :=
  [number, word p.on, word p.period, word p.strokes, word p.gap, word p.groups,
   if number = 7 then word (mask.toNat + 256 * p.priority) else word p.priority]

/-- READ PATTERN (R143). -/
def cmdReadPattern (number : Word) (s : State) : State × Reply :=
  match firstBad [decide (7 < number.toNat)] with
  | some i => (s, .badOperand i)
  | none => (s, .done (patternWords number (vget s.bells.patterns (finOf 8 number)) s.bells.emergencyMask))

/-- RING ZONES (R147): the zones that took the request, and those that discarded it. -/
def cmdRingZones (origin : Port) (zones pattern : Word) (s : State) : State × Reply :=
  match firstBad [decide (255 < zones.toNat), decide (6 < pattern.toNat)] with
  | some i => (s, .badOperand i)
  | none =>
    let n : PatternNumber := finOf 8 pattern
    let named := zonesOf (BitVec.ofNat 8 zones.toNat)
    let took := named.filter (fun z => s.bells.takes z n)
    let discarded := named.filter (fun z => !s.bells.takes z n)
    (s.setBells (s.bells.requestAll (BitVec.ofNat 8 zones.toNat) n (.manual origin)),
      .done [word (zoneSet took), word (zoneSet discarded)])

/-- The zones of a mask that are PLAYING, as SILENCE ZONES returns them (R148; that no zone outside the mask is among them is log 40,
DESIGN CHOICE). -/
def Bells.playingOf (b : Bells) (mask : BitVec 8) : List Zone :=
  (zonesOf mask).filter (fun z => (vget b.zones z).isSome)

/-- SILENCE ZONES (R148). A mask that names a zone above 7 and, in an emergency, a locked zone answers BAD-OPERAND, not
EMERGENCY-ACTIVE: R148 gives no order (log 38, DESIGN CHOICE). The result names the zones of the mask that were PLAYING: R148 does not
say whether PLAYING zones outside the mask are in it (log 40, DESIGN CHOICE). -/
def cmdSilenceZones (zones : Word) (s : State) : State × Reply :=
  match firstBad [decide (255 < zones.toNat)] with
  | some i => (s, .badOperand i)
  | none =>
    let mask := BitVec.ofNat 8 zones.toNat
    if s.gate.emergency && decide (mask &&& s.bells.locked ≠ 0) then (s, .refuse .emergencyActive)
    else
      (s.setBells (s.bells.silenceWhere (fun z _ => mask.getLsbD z.val)), .done [word (zoneSet (s.bells.playingOf mask))])

/-- A zone's source as READ BELLS shows it (TABLE 11-5, zone word 1). -/
def sourceWord : ZoneSource → Word
  | .schedule e => word (0 + 256 * e.val)
  | .forced l => word (1 + 256 * l.val)
  | .held l => word (2 + 256 * l.val)
  | .manual .bus => word 3
  | .manual .link => word (3 + 256)
  | .evacuation => word 4

/-- The three words of a zone (R150, TABLE 11-5). The fields of an IDLE zone read 0 (log 30, DESIGN CHOICE). -/
def zoneWords (s : State) (z : Zone) : List Word :=
  let locked := bit (s.bells.locked.getLsbD z.val)
  match vget s.bells.zones z with
  | none => [word (128 * locked), 0, 0]
  | some p =>
    [word (1 + 2 * p.pattern.val + 16 * p.copy.priority + 128 * locked + 256 * bit p.output), sourceWord p.source,
     if p.copy.groups = 0 then 0 else word p.groupsLeft]

/-- READ BELLS (R150). -/
def cmdReadBells (buf : Buffer) (s : State) : State × Reply :=
  match checkBuffer buf 24 with
  | some r => (s, .refuse r)
  | none =>
    (s, .doneOut (allZones.flatMap (zoneWords s)) [word s.bells.locked.toNat, word s.bells.emergencyMask.toNat])

/-- A zone player's stroke or gap counter reaches 0 (R144); an IDLE zone has none. -/
def zoneExpiry (z : Zone) (s : State) : State :=
  if running s then s.setBells { s.bells with zones := vset s.bells.zones z ((vget s.bells.zones z).bind Playing.expire) }
  else s

/-! ## Meanings of the bell rows -/

def execWriteBellEntry (index flags moment offset dayMask zones pattern : Word) (s : State) :
    Host.Outcome State Fault Refusal :=
  .next (runDirect none (cmdWriteBellEntry index flags moment offset dayMask zones pattern) s)

def execReadBellEntry (index : Word) (s : State) : Host.Outcome State Fault Refusal :=
  .next (runDirect none (cmdReadBellEntry index) s)

def execWritePattern (number on period strokes gap groups last : Word) (s : State) : Host.Outcome State Fault Refusal :=
  .next (runDirect none (cmdWritePattern number on period strokes gap groups last) s)

def execReadPattern (number : Word) (s : State) : Host.Outcome State Fault Refusal :=
  .next (runDirect none (cmdReadPattern number) s)

def execRingZones (origin : Port) (zones pattern : Word) (s : State) : Host.Outcome State Fault Refusal :=
  .next (runDirect none (cmdRingZones origin zones pattern) s)

def execSilenceZones (zones : Word) (s : State) : Host.Outcome State Fault Refusal :=
  .next (runDirect none (cmdSilenceZones zones) s)

def execReadBells (buf : Buffer) (s : State) : Host.Outcome State Fault Refusal :=
  .next (runDirect (some buf) (cmdReadBells buf) s)

def execStrokeCounterExpiry (zone : Zone) (s : State) : Host.Outcome State Fault Refusal := .next (zoneExpiry zone s)

end Sys2Proof.Machine
end

