-- ==== Sys2Proof/Machine/Clock.lean ====
section
/-! DEFINITION. The time base's clock (chapter 1): the crystal second with slew and day limit (R1, R5, R6), the second and minute
events (R2, R3), the hold duration (R13) and the four clock commands (R8–R10, R20). -/

namespace Sys2Proof.Machine

/-! ## The advance of the clock -/

/-- The day after day d: held at 65,535 (R6). -/
def nextDay (d : Nat) : Nat := if d < 65535 then d + 1 else 65535

/-- The minute after the clock's, second 0 (R1, R6). -/
def Time.nextMinute (t : Time) : Time :=
  if t.minute < 1439 then { day := t.day, minute := t.minute + 1, second := 0 }
  else { day := nextDay t.day, minute := 0, second := 0 }

/-- The length of a minute that begins with slew remainder r (R5). -/
def lengthFor (r : Int) : MinuteLength := if 0 < r then .short else if r < 0 then .long else .ordinary

/-- The remainder after a minute has begun with remainder r: 1 nearer to 0 (R5). -/
def workSlew (r : Int) : Int := if 0 < r then r - 1 else if r < 0 then r + 1 else 0

/-- A minute begins by counting (R1, R5, R6). -/
def TimeBase.beginMinute (t : TimeBase) : TimeBase :=
  { t with
    clock := t.clock.nextMinute
    dayLimit := t.dayLimit || (decide (1439 ≤ t.clock.minute) && decide (65535 ≤ t.clock.day))
    minuteLength := lengthFor t.slew
    slew := workSlew t.slew }

/-- The clock one second on within its minute. -/
def TimeBase.nextSecond (t : TimeBase) : TimeBase := { t with clock := { t.clock with second := t.clock.second + 1 } }

/-- One crystal second, and whether a minute began with it (R1, R5). -/
def TimeBase.advance (t : TimeBase) : TimeBase × Bool :=
  match t.minuteLength with
  | .ordinary => if t.clock.second < 59 then (t.nextSecond, false) else (t.beginMinute, true)
  | .short => if t.clock.second < 58 then (t.nextSecond, false) else (t.beginMinute, true)
  | .long =>
    if t.clock.second < 59 then (t.nextSecond, false) else ({ t with minuteLength := .longRepeated }, false)
  | .longRepeated => (t.beginMinute, true)

/-! ## Second and minute events -/

/-- The clock mirror rewritten from the clock (R11). -/
def writeMirror (s : State) : State := s.setControl { s.control with clockMirror := s.time.clock }

/-- The second event lowers a non-zero window countdown (R2, R132). -/
def lowerWindow (s : State) : State := s.setGate { s.gate with windowCountdown := s.gate.windowCountdown - 1 }

/-- A minute event at the clock's absolute minute (R3): nothing while the clock is unset (R7), else the sweep, then the bells
(log 12 fixes their order). -/
def minuteEvent (s : State) : State :=
  if s.time.clockUnset then s
  else
    let t := s.time.clock.absolute
    evaluateSchedule t (sweep t s)

/-- The second event, with the minute event where a minute began (R2, R3). -/
def secondEvent (began : Bool) (s : State) : State :=
  let s1 := lowerWindow (writeMirror s)
  if began then minuteEvent s1 else s1

/-- The hold duration counter one crystal second on (R13). -/
def TimeBase.countHold (t : TimeBase) : TimeBase := { t with holdDuration := min (t.holdDuration + 1) Config.holdLimit }

/-- A crystal second (R1, R2, R3, R13). Without any supply there is none. -/
def crystalSecond (s : State) : State :=
  let next := s.time.advance
  match s.time.power with
  | .noSupply => s
  | .batteryHold => s.setTime next.1.countHold
  | .mainsRun =>
    let s1 := s.setTime next.1
    if running s then secondEvent next.2 s1 else s1

/-! ## Clock commands -/

/-- The time base as SET CLOCK writes it (R8). The divider's restart is below a second and is not modelled (log 9). -/
def TimeBase.set (t : TimeBase) (time : Time) (epochWeekday : Nat) : TimeBase :=
  { t with
    clock := time, epochWeekday, clockUnset := false, dayLimit := false, slew := 0, minuteLength := .ordinary }

/-- The CLOCK-SET entry (R8). -/
def clockSetBody (origin : Port) (old : TimeBase) (time : Time) (epochWeekday : Nat) : EntryBody :=
  { plainBody .clockSet time with
    flags := originFlags origin, extra := .clockSet old.clock old.epochWeekday time epochWeekday }

/-- SET CLOCK (R8). -/
def cmdSetClock (origin : Port) (day minute second weekday : Word) (s : State) : State × Reply :=
  match firstBad [false, decide (1439 < minute.toNat), decide (59 < second.toNat), decide (6 < weekday.toNat)] with
  | some i => (s, .badOperand i)
  | none =>
    let time : Time := ⟨day.toNat, minute.toNat, second.toNat⟩
    let s1 := s.setTime (s.time.set time weekday.toNat)
    let s2 := appendEntry (clockSetBody origin s.time time weekday.toNat) s1
    (minuteEvent (writeMirror s2), .done [])

/-- A count of seconds held to −3,600 … +3,600 (R9). -/
def clampSlew (i : Int) : Int := max (-Config.slewLimit) (min Config.slewLimit i)

/-- TRIM CLOCK (R9). -/
def cmdTrimClock (seconds : Word) (s : State) : State × Reply :=
  if s.time.clockUnset then (s, .refuse .clockUnset)
  else
    let new := clampSlew (s.time.slew + clampSlew seconds.toInt)
    (s.setTime { s.time with slew := new }, .done [signedWord (new - s.time.slew), signedWord new])

/-- READ CLOCK (R10). -/
def cmdReadClock (s : State) : State × Reply :=
  (s, .done (timeWords s.time.clock ++
    [word s.time.epochWeekday, word (weekday s s.time.clock.day), clockStatusWord s, signedWord s.time.slew]))

/-- ACKNOWLEDGE START (R20). -/
def cmdAcknowledgeStart (s : State) : State × Reply :=
  (s.setTime { s.time with coldStart := false, retentionWasLost := false }, .done [startFlagsWord s])

/-! ## Meanings of the clock rows -/

def execCrystalSecond (s : State) : Host.Outcome State Fault Refusal := .next (crystalSecond s)

def execSetClock (origin : Port) (day minute second weekday : Word) (s : State) : Host.Outcome State Fault Refusal :=
  .next (runDirect none (cmdSetClock origin day minute second weekday) s)

def execTrimClock (seconds : Word) (s : State) : Host.Outcome State Fault Refusal :=
  .next (runDirect none (cmdTrimClock seconds) s)

def execReadClock (s : State) : Host.Outcome State Fault Refusal := .next (runDirect none cmdReadClock s)

def execAcknowledgeStart (s : State) : Host.Outcome State Fault Refusal := .next (runDirect none cmdAcknowledgeStart s)

end Sys2Proof.Machine
end

