-- ==== Sys2Proof/Machine/Doors.lean ====
section
/-! DEFINITION. The doors by themselves (chapter 7): how a door changes state, takes a grant, and raises and ends its alarms. What
a passage or an expiry means to a lane's punch stands in Machine/Lanes.lean, the door events and commands in Machine/Gate.lean. -/

namespace Sys2Proof.Machine

/-- The ticks a release countdown is loaded with: release time × 10 (R120). -/
def releaseTicks (c : LaneConfig) : Nat := c.releaseTime * 10

/-- The ticks a held countdown is loaded with: held limit × 100 (R120). -/
def heldTicks (c : LaneConfig) : Nat := c.heldLimit * 100

/-! ## Changes of door state (TABLE 7-1) -/

/-- To LOCKED, FREE or LOCKDOWN: no countdown runs. -/
def Door.rest (d : Door) (status : DoorStatus) : Door := { d with status, release := 0, heldCount := 0 }

/-- To RELEASED with a full release countdown. -/
def Door.toReleased (d : Door) (c : LaneConfig) : Door := { d with status := .released, release := releaseTicks c, heldCount := 0 }

/-- To PASSING with a full held countdown and the held-bell mark clear (R121, R124). -/
def Door.toPassing (d : Door) (c : LaneConfig) : Door :=
  { d with status := .passing, release := 0, heldCount := heldTicks c, heldBell := false }

/-- To LOCKED, or to PASSING where a CONTACT lane's contact state is open (R124). -/
def Door.toLocked (d : Door) (c : LaneConfig) : Door :=
  if c.sensor = .contact ∧ d.contactOpen = true then d.toPassing c else d.rest .locked

/-- A grant or a manual release at a door (R120, R126). -/
def Door.takeGrant (d : Door) (c : LaneConfig) : Door :=
  match d.status with
  | .locked => d.toReleased c
  | .released => { d with release := releaseTicks c }
  | .passing => { d with heldCount := heldTicks c }
  | .free => d
  | .lockdown => d

/-- A grant reaches the door of lane l (R120). -/
def doorGrant (l : Lane) (s : State) : State := s.setDoor l ((s.door l).takeGrant (s.lane l).config)

/-- Ends the held alarm of lane l where its held-bell mark is set, and clears the mark (R122). -/
def stopHeldBell (l : Lane) (s : State) : State :=
  if (s.door l).heldBell then
    let s1 := endHeldAlarm l s
    s1.setDoor l { s1.door l with heldBell := false }
  else s

/-- A door change that stops the countdowns and ends a held alarm (R127, R128, R130). -/
def restDoor (l : Lane) (status : DoorStatus) (s : State) : State :=
  let s1 := stopHeldBell l s
  s1.setDoor l ((s1.door l).rest status)

/-- A door is to go to LOCKED (R124). -/
def lockDoor (l : Lane) (s : State) : State := s.setDoor l ((s.door l).toLocked (s.lane l).config)

/-! ## Alarms (R122, R123) -/

/-- A short entry of a door event: lane, clock time, slot NONE (R122, R123). -/
def doorBody (kind : EntryKind) (l : Lane) (s : State) : EntryBody := { plainBody kind s.time.clock with lane := some l }

/-- A forced passage (R123). -/
def forcedPassage (l : Lane) (s : State) : State :=
  if (s.door l).forced then appendEntry (doorBody .doorForced l s) s
  else
    let s1 := s.setDoor l { s.door l with forced := true }
    let s2 := appendEntry (doorBody .doorForced l s) s1
    raiseBoth .doorAlarm (alarmRequest (s2.lane l).config (.forced l) s2)

/-- The held countdown of a PASSING door reaches 0 (R122). -/
def heldAlarm (l : Lane) (s : State) : State :=
  let s0 := s.setDoor l { s.door l with heldCount := 0 }
  if (s.door l).held then appendEntry (doorBody .doorHeld l s) s0
  else
    let rings := decide ((s.lane l).config.alarmZones ≠ 0)
    let s1 := s0.setDoor l { s0.door l with held := true, heldBell := rings || (s0.door l).heldBell }
    let s2 := appendEntry (doorBody .doorHeld l s) s1
    raiseBoth .doorAlarm (alarmRequest (s2.lane l).config (.held l) s2)

end Sys2Proof.Machine
end

