-- ==== Sys2Proof/Machine/Lanes.lean ====
section
/-! DEFINITION. The reader lanes (chapter 3) and the punch classifier (chapter 4): frames, classification, pending passages and
how they end, and the two lane commands. -/

namespace Sys2Proof.Machine

/-! ## The classifier's outcome (R73) -/

/-- What a grant hands to the lane (TABLE 4-5). -/
structure Grant where
  slot : Slot
  kind : PunchKind
  softPassback : Bool
  direction : Direction
  shiftDay : Option ShiftDay
  deriving DecidableEq, Repr

/-- The three outcomes of a classification (R52). -/
inductive Decision where
  | refuse (slot : Option Slot) (reason : DenyReason)
  | muster (slot : Slot)
  | grant (g : Grant)
  deriving DecidableEq, Repr

/-- The re-entry window is running (R132). -/
def windowRunning (s : State) : Bool := decide (0 < s.gate.windowCountdown)

/-- A passback case (R68): an in-punch on a record IN, or an out-punch on a record OUT. -/
def passbackDecision (s : State) (c : LaneConfig) (a : Slot) (r : Record) (inward : Bool) : Decision :=
  let grantOf := fun (soft : Bool) => Decision.grant
    { slot := a, kind := if inward then .reEntry else .exitAgain, softPassback := soft
      direction := if inward then .inward else .outward, shiftDay := none }
  if inward && windowRunning s then grantOf false
  else if r.exempt || decide (c.passback = .off) then grantOf false
  else if c.passback = .soft then grantOf true
  else .refuse (some a) .passback

/-- Check 12 (R70): an in-punch that is no passback case. -/
def inPunchDecision (s : State) (a : Slot) (r : Record) (time : Time) : Decision :=
  match chooseInstance s r.shift time with
  | some sd => .grant { slot := a, kind := .inPunch, softPassback := false, direction := .inward, shiftDay := some sd }
  | none => .grant { slot := a, kind := .inUnscheduled, softPassback := false, direction := .inward, shiftDay := none }

/-- Check 13 (R72): an out-punch that is no passback case; the kind is that of the record's attendance. -/
def outPunchDecision (s : State) (a : Slot) : Decision :=
  let scheduled := match attendanceOf a s.attendance with
    | some e => e.schedule.isSome
    | none => false
  .grant { slot := a, kind := if scheduled then .outPunch else .outUnscheduled, softPassback := false,
           direction := .outward, shiftDay := none }

/-- Check 10 (R67): the direction is inward. A TOGGLE lane goes by the record's presence; a DISABLED lane is not reached. -/
def inwardAt (c : LaneConfig) (r : Record) : Bool :=
  match c.mode with
  | .entry => true
  | .exit => false
  | _ => decide (r.presence = .out)

/-- Checks 9 to 13 (R66–R72). -/
def timedDecision (s : State) (c : LaneConfig) (a : Slot) (r : Record) (read : BadgeRead) : Decision :=
  if read.untimed then
    .grant { slot := a, kind := .untimedGrant, softPassback := false, direction := .none, shiftDay := none }
  else
    let inward := inwardAt c r
    if inward = decide (r.presence = .inside) then passbackDecision s c a r inward
    else if inward then inPunchDecision s a r read.readTime
    else outPunchDecision s a

/-- Checks 3 to 8 on the record found, then the rest (R62–R65). -/
def recordDecision (s : State) (l : Lane) (a : Slot) (r : Record) (read : BadgeRead) : Decision :=
  if read.badge.issue ≠ r.issue then .refuse (some a) .issue
  else if r.suspended then .refuse (some a) .suspended
  else if !r.permissions.getLsbD l.val then .refuse (some a) .lane
  else if s.gate.emergency then .muster a
  else if s.gate.lockdown then .refuse (some a) .lockdown
  else if r.pendingLane.isSome then .refuse (some a) .pending
  else timedDecision s (s.lane l).config a r read

/-- The classification of a frame (R60): checks 1 and 2 by one lookup (R61), then the record's checks. -/
def classify (s : State) (l : Lane) (read : BadgeRead) : Decision :=
  match lookup s.roster read.badge.key with
  | .siteAbsent => .refuse none .site
  | .numberAbsent => .refuse none .unknown
  | .found a =>
    match s.record a with
    | none => .refuse none .unknown
    | some r => recordDecision s l a r read

/-! ## Refusals and musters -/

/-- Loads the red lamp countdown of lane l (R53). -/
def loadRed (l : Lane) (s : State) : State :=
  s.setLane l { s.lane l with red := releaseTicks (s.lane l).config }

/-- A DENIED entry (R73, R51). -/
def deniedBody (l : Lane) (read : BadgeRead) (slot : Option Slot) (reason : DenyReason) : EntryBody :=
  { plainBody .denied read.readTime with
    lane := some l, slot, badge := some read.badge, kindWord := denyReasonCode reason }

/-- A refusal of a frame at lane l (R52, R73). -/
def refuseFrame (l : Lane) (read : BadgeRead) (slot : Option Slot) (reason : DenyReason) (s : State) : State :=
  loadRed l (appendEntry (deniedBody l read slot reason) s)

/-- A MUSTER entry (R63). -/
def musterBody (l : Lane) (read : BadgeRead) (a : Slot) : EntryBody :=
  { plainBody .muster read.readTime with lane := some l, slot := some a, badge := some read.badge }

/-- A muster (R63): the flag is set and the entry appended. -/
def takeMuster (l : Lane) (read : BadgeRead) (a : Slot) (s : State) : State :=
  appendEntry (musterBody l read a) (s.modifyRecord a (fun r => { r with muster := true }))

/-! ## How a pending passage ends (section 3.4) -/

/-- The pending lane of a record cleared (R29). -/
def Record.clearPending (r : Record) : Record := { r with pendingLane := none }

/-- The pending lane of a record set (R29). -/
def Record.setPending (l : Lane) (r : Record) : Record := { r with pendingLane := some l }

/-- The last passage of a record set (R31). -/
def Record.setLastPassage (l : Lane) (t : Time) (r : Record) : Record := { r with lastPassage := some ⟨l, t⟩ }

/-- The record's pending lane and the lane's pending passage are emptied together (R29, R54, R55). -/
def clearPassage (l : Lane) (a : Slot) (s : State) : State :=
  let s1 := s.modifyRecord a Record.clearPending
  s1.setLane l { s1.lane l with pending := none }

/-- The effect of a punch resolved by passage on presence, attendance and totals (R74–R76). -/
def applyPunch (p : PendingPassage) (s : State) : State :=
  match p.kind with
  | .inPunch => openAttendance p.slot p.shiftDay p.readTime s
  | .inUnscheduled => addException p.slot (openAttendance p.slot none p.readTime s)
  | .outPunch =>
    match attendanceOf p.slot s.attendance with
    | some e => closeEntry e (some p.readTime.absolute) s
    | none => s
  | .outUnscheduled =>
    match attendanceOf p.slot s.attendance with
    | some e => closeEntry e (some p.readTime.absolute) s
    | none => s
  | .reEntry => if p.softPassback then addException p.slot s else s
  | .exitAgain => if p.softPassback then addException p.slot s else s
  | .untimedGrant => s

/-- The closing's figures that an OUT punch journals (R75); the other kinds' entries are short. -/
def punchFigures (p : PendingPassage) (s : State) : Option Figures :=
  match p.kind with
  | .outPunch => (attendanceOf p.slot s.attendance).map (fun e => figuresOf e (some p.readTime.absolute) s)
  | _ => none

/-- The entry of a punch resolved by passage (R54). -/
def punchBody (l : Lane) (p : PendingPassage) (figures : Option Figures) : EntryBody :=
  { plainBody (punchEntryKind p.kind) p.readTime with
    lane := some l, slot := some p.slot, badge := some p.badge
    flags := match figures with
      | some f => { f.flags with softPassback := p.softPassback }
      | none => { softPassback := p.softPassback }
    extra := match figures with
      | some f => .closing f
      | none => .none }

/-- The resolution by passage of a pending passage p at lane l (R54, R74–R76). -/
def resolvePassage (l : Lane) (p : PendingPassage) (s : State) : State :=
  let s1 := (applyPunch p s).modifyRecord p.slot (Record.setLastPassage l p.readTime)
  clearPassage l p.slot (appendEntry (punchBody l p (punchFigures p s)) s1)

/-- A LAPSED entry of a lane (R55, R77). -/
def lapsedBody (l : Lane) (p : PendingPassage) (emergency : Bool) : EntryBody :=
  { plainBody .lapsed p.readTime with
    lane := some l, slot := some p.slot, badge := some p.badge
    flags := { softPassback := p.softPassback, emergency }
    kindWord := punchKindCode p.kind }

/-- The lapse of a pending passage p at lane l (R55), with the EMERGENCY flag where the line asserted (R56). -/
def lapsePassage (l : Lane) (p : PendingPassage) (emergency : Bool) (s : State) : State :=
  clearPassage l p.slot (appendEntry (lapsedBody l p emergency) s)

/-! ## Grants -/

/-- The pending passage that a grant makes (R52). Its report is due where the door is PASSING (R120). -/
def passageOf (g : Grant) (read : BadgeRead) (reportDue : Bool) : PendingPassage :=
  { slot := g.slot, badge := read.badge, kind := g.kind, softPassback := g.softPassback, direction := g.direction,
    shiftDay := g.shiftDay, readTime := read.readTime, reportDue }

/-- The lane counts passage as present at the grant (R52): sensor NONE, or the door FREE. -/
def countedAtGrant (s : State) (l : Lane) : Bool :=
  decide ((s.lane l).config.sensor = .none) || decide ((s.door l).status = .free)

/-- A grant at lane l (R52): the pending passage is made, the record's pending lane set and the door takes the grant; where
passage is counted as present, the passage is resolved with it. -/
def takeGrant (l : Lane) (g : Grant) (read : BadgeRead) (s : State) : State :=
  let p := passageOf g read (decide ((s.door l).status = .passing))
  let s1 := (s.setLane l { s.lane l with pending := some p }).modifyRecord g.slot (Record.setPending l)
  let s2 := doorGrant l s1
  if countedAtGrant s l then resolvePassage l p s2 else s2

/-- A frame is classified and the lane takes the outcome at once (R52). -/
def classifyFrame (l : Lane) (read : BadgeRead) (s : State) : State :=
  match classify s l read with
  | .refuse slot reason => refuseFrame l read slot reason s
  | .muster a => takeMuster l read a s
  | .grant g => takeGrant l g read s

/-- After a pending passage ended, the waiting read leaves its slot and is classified (R57), by the checks in their order in lockdown too
(log 34, DEDUCED). -/
def classifyWaiting (l : Lane) (s : State) : State :=
  match (s.lane l).waiting with
  | some read => classifyFrame l read (s.setLane l { s.lane l with waiting := none })
  | none => s

/-- The door controller reports a passage to the lane (R54, R57). -/
def reportPassage (l : Lane) (s : State) : State :=
  match (s.lane l).pending with
  | some p => classifyWaiting l (resolvePassage l p s)
  | none => s

/-- The lane's punch lapses, by expiry or by lockdown (R55, R57). -/
def reportLapse (l : Lane) (s : State) : State :=
  match (s.lane l).pending with
  | some p => classifyWaiting l (lapsePassage l p false s)
  | none => s

/-- The emergency line asserts at a lane (R56): its passage lapses and its waiting read is dropped. -/
def emergencyLapse (l : Lane) (s : State) : State :=
  let s1 := match (s.lane l).pending with
    | some p => lapsePassage l p true s
    | none => s
  s1.setLane l { s1.lane l with waiting := none }

/-! ## Frames (R46–R51) -/

/-- The number a run of bits holds, most significant first (R48). -/
def bitsToNat (bits : List Bool) : Nat := bits.foldl (fun n b => 2 * n + bit b) 0

/-- Nibble i of the data bits, bits 5–32 of the frame (R48). -/
def dataNibble (bits : List Bool) (i : Nat) : Nat := bitsToNat ((bits.drop (4 + 4 * i)).take 4)

/-- The exclusive-or of the seven data nibbles (R48). -/
def checkNibble (bits : List Bool) : Nat := (List.range 7).foldl (fun x i => x ^^^ dataNibble bits i) 0

/-- A frame that has ended is valid (R48): 36 bits, the mark 0110, the check nibble. -/
def frameValid (bits : List Bool) : Bool :=
  decide (bits.length = 36) && decide (bits.take 4 = [false, true, true, false]) &&
    decide (bitsToNat (bits.drop 32) = checkNibble bits)

/-- The key and issue level of a frame (R48). -/
def frameBadge (bits : List Bool) : Badge :=
  { key := { site := BitVec.ofNat 6 (bitsToNat ((bits.drop 4).take 6)),
             number := BitVec.ofNat 18 (bitsToNat ((bits.drop 10).take 18)) }
    issue := BitVec.ofNat 4 (bitsToNat ((bits.drop 28).take 4)) }

/-- A BAD-READ entry (R49). -/
def badReadBody (l : Lane) (length : Nat) (s : State) : EntryBody :=
  { plainBody .badRead s.time.clock with lane := some l, kindWord := length }

/-- A valid frame at its arrival (TABLE 3-2). -/
def arriveValid (l : Lane) (read : BadgeRead) (s : State) : State :=
  match (s.lane l).pending with
  | none => classifyFrame l read s
  | some p =>
    if read.badge = p.badge then s
    else
      match (s.lane l).waiting with
      | none => s.setLane l { s.lane l with waiting := some read }
      | some w => if read.badge = w.badge then s else refuseFrame l read none .overrun s

/-- A frame ends at lane l (R47): the assembly is emptied, the frame is checked and goes on (R48, R49, R51). -/
def endFrame (l : Lane) (frame : List Bool) (s : State) : State :=
  let s1 := s.setLane l { s.lane l with bits := [], gap := 0 }
  if frameValid frame then
    arriveValid l { badge := frameBadge frame, readTime := s.time.clock, untimed := s.time.clockUnset } s1
  else loadRed l (appendEntry (badReadBody l frame.length s) s1)

/-- The lane takes bits (R46): not DISABLED, and the part is running. -/
def takesBits (l : Lane) (s : State) : Bool := running s && decide ((s.lane l).config.mode ≠ .disabled)

/-- A pulse on the reader clock (R46, R47): its bit joins the assembly and the gap counter is loaded with 3; a 37th bit ends
the frame at once. -/
def clockPulse (l : Lane) (b : Bool) (s : State) : State :=
  if takesBits l s then
    let bits := (s.lane l).bits ++ [b]
    if 36 < bits.length then endFrame l bits s
    else s.setLane l { s.lane l with bits, gap := 3 }
  else s

/-- The gap counter of lane l runs out (R47); an empty assembly has none running. -/
def gapExpiry (l : Lane) (s : State) : State :=
  if takesBits l s && !(s.lane l).bits.isEmpty then endFrame l (s.lane l).bits s else s

/-- The arrival of a frame by one of the two events that end one (R47): the gap, or a bit taken by a full assembly. -/
def frameArrival (l : Lane) (ending : FrameEnd) (s : State) : State :=
  match ending with
  | .gap => gapExpiry l s
  | .extraBit b => if (s.lane l).bits.length = 36 then clockPulse l b s else s

/-- The red lamp countdown reaches 0 (R53). -/
def redExpiry (l : Lane) (s : State) : State :=
  if running s then s.setLane l { s.lane l with red := 0 } else s

/-! ## WRITE LANE and READ LANE -/

/-- The range checks of WRITE LANE, in word order (R44). Bits 11–15 of the packed word 15, which TABLE 11-5 leaves unused, are not
examined: whether they are zones above 7 of a set word (R184, R44) is left open (log 39, DESIGN CHOICE). -/
def badLaneOperands (lane mode sensor release held passback failState alarm : Word) : Option Nat :=
  firstBad
    [decide (3 < lane.toNat), decide (3 < mode.toNat), decide (2 < sensor.toNat),
     decide (release = 0) || decide (255 < release.toNat), decide (held = 0) || decide (255 < held.toNat),
     decide (2 < passback.toNat), decide (1 < failState.toNat), decide ((alarm.toNat / 256) % 8 = 7)]

/-- The configuration that WRITE LANE's words hold (R44). -/
def laneConfigOf (mode sensor release held passback failState alarm : Word) : LaneConfig :=
  { mode := laneModeOf mode.toNat, sensor := sensorOf sensor.toNat, releaseTime := release.toNat,
    heldLimit := held.toNat, passback := passbackOf passback.toNat, failState := failStateOf failState.toNat,
    alarmZones := BitVec.ofNat 8 alarm.toNat, alarmPattern := Fin.ofNat 8 (alarm.toNat / 256) }

/-- What a changed sensor does to the door (R124): away from CONTACT, a PASSING door goes to LOCKED and its held alarm ends;
to CONTACT, the contact state is taken from the input. -/
def adaptSensor (l : Lane) (old new : Sensor) (s : State) : State :=
  if old = .contact ∧ new ≠ .contact ∧ (s.door l).status = .passing then restDoor l .locked s
  else if old ≠ .contact ∧ new = .contact then s.setDoor l { s.door l with contactOpen := vget s.pins.contactOpen l }
  else s

/-- The configuration of lane l replaced (R44): a change to or from DISABLED empties the bit assembly. A change among ENTRY, EXIT and
TOGGLE leaves the assembly and its gap counter as they are: R44 does not say (log 41, DESIGN CHOICE). -/
def configureLane (l : Lane) (c : LaneConfig) (s : State) : State :=
  let old := s.lane l
  let clears := decide (old.config.mode ≠ c.mode) && (decide (c.mode = .disabled) || decide (old.config.mode = .disabled))
  let s1 := s.setLane l
    { old with config := c, bits := if clears then [] else old.bits, gap := if clears then 0 else old.gap }
  adaptSensor l old.config.sensor c.sensor s1

/-- WRITE LANE (R44). -/
def cmdWriteLane (lane mode sensor release held passback failState alarm : Word) (s : State) : State × Reply :=
  match badLaneOperands lane mode sensor release held passback failState alarm with
  | some i => (s, .badOperand i)
  | none =>
    let l : Lane := finOf 4 lane
    if (s.lane l).pending.isSome then (s, .refuse .laneBusy)
    else (configureLane l (laneConfigOf mode sensor release held passback failState alarm) s, .done [])

/-- The configuration words of a lane image: WRITE LANE operand order. -/
def laneConfigWords (l : Lane) (c : LaneConfig) : List Word :=
  [word l.val, word (laneModeCode c.mode), word (sensorCode c.sensor), word c.releaseTime, word c.heldLimit,
   word (passbackCode c.passback), word (failStateCode c.failState), alarmWord c]

/-- Words 13–23 of a lane image: the pending passage. -/
def passageWords : Option PendingPassage → List Word
  | none => List.replicate 11 0
  | some p =>
    [word p.slot.val] ++ keyWords p.badge.key ++ [word p.badge.issue.toNat, passageKindWord p] ++
      (match p.shiftDay with
        | some sd => [word sd.shift.val, word sd.day]
        | none => [0, 0]) ++
      timeWords p.readTime

/-- Words 24–31 of a lane image: the waiting read. -/
def waitingWords : Option BadgeRead → List Word
  | none => List.replicate 8 0
  | some r => keyWords r.badge.key ++ [word r.badge.issue.toNat] ++ timeWords r.readTime ++ [flagWord r.untimed]

/-- The lane image (section 11.3). -/
def laneImage (l : Lane) (s : State) : List Word :=
  laneConfigWords l (s.lane l).config ++
    [word (doorStatusCode (s.door l).status), word (s.door l).release, word (s.lane l).bits.length, word (s.lane l).red,
     laneContextWord (s.lane l)] ++
    passageWords (s.lane l).pending ++ waitingWords (s.lane l).waiting

/-- READ LANE (R45). -/
def cmdReadLane (lane : Word) (buf : Buffer) (s : State) : State × Reply :=
  match firstBad [decide (3 < lane.toNat)] with
  | some i => (s, .badOperand i)
  | none =>
    match checkBuffer buf 32 with
    | some r => (s, .refuse r)
    | none => (s, .doneOut (laneImage (finOf 4 lane) s) [lane])

/-! ## Meanings of the lane rows -/

def execWriteLane (lane mode sensor release held passback failState alarm : Word) (s : State) :
    Host.Outcome State Fault Refusal :=
  .next (runDirect none (cmdWriteLane lane mode sensor release held passback failState alarm) s)

def execReadLane (lane : Word) (buf : Buffer) (s : State) : Host.Outcome State Fault Refusal :=
  .next (runDirect (some buf) (cmdReadLane lane buf) s)

def execFrameArrival (lane : Lane) (ending : FrameEnd) (s : State) : Host.Outcome State Fault Refusal :=
  .next (frameArrival lane ending s)

/-- R120: the report that follows a grant at a PASSING door, where one is due. -/
def execGrantPassageReport (lane : Lane) (s : State) : Host.Outcome State Fault Refusal :=
  .next
    (match (s.lane lane).pending with
      | some p => if running s && p.reportDue then reportPassage lane s else s
      | none => s)

def execRedLampExpiry (lane : Lane) (s : State) : Host.Outcome State Fault Refusal := .next (redExpiry lane s)

def execReaderClockPulse (lane : Lane) (bit : Bool) (s : State) : Host.Outcome State Fault Refusal :=
  .next (clockPulse lane bit s)

end Sys2Proof.Machine
end

