-- ==== Sys2Proof/Machine/Gate.lean ====
section
/-! DEFINITION. The door controller's events and commands (chapter 7): sensors, countdowns, manual release, door modes, lockdown,
the emergency line and the re-entry window. -/

namespace Sys2Proof.Machine

/-! ## Sensor events (TABLE 7-2) -/

/-- A passage at a RELEASED door: the door changes and the passage is reported to the lane (R121). -/
def passageAt (l : Lane) (d : Door) (s : State) : State := reportPassage l (s.setDoor l d)

/-- A rotation pulse on a ROTATION lane (R121, R123). -/
def rotationPulse (l : Lane) (s : State) : State :=
  if running s && decide ((s.lane l).config.sensor = .rotation) then
    match (s.door l).status with
    | .released => passageAt l ((s.door l).rest .locked) s
    | .locked => forcedPassage l s
    | .lockdown => forcedPassage l s
    | .passing => s
    | .free => s
  else s

/-- The level of a door contact's input. -/
def setContactPin (l : Lane) (isOpen : Bool) (s : State) : State :=
  s.setPins { s.pins with contactOpen := vset s.pins.contactOpen l isOpen }

/-- The input shows open: on a CONTACT lane of a started part an opening (R119, R121, R123). -/
def contactOpening (l : Lane) (s : State) : State :=
  let s0 := setContactPin l true s
  if running s0 && decide ((s0.lane l).config.sensor = .contact) then
    let s1 := s0.setDoor l { s0.door l with contactOpen := true }
    match (s1.door l).status with
    | .released => passageAt l ((s1.door l).toPassing (s1.lane l).config) s1
    | .locked => forcedPassage l s1
    | .lockdown => forcedPassage l s1
    | .passing => s1
    | .free => s1
  else s0

/-- The input shows closed: on a CONTACT lane of a started part a closing (R119, R122). -/
def contactClosing (l : Lane) (s : State) : State :=
  let s0 := setContactPin l false s
  if running s0 && decide ((s0.lane l).config.sensor = .contact) then
    let s1 := s0.setDoor l { s0.door l with contactOpen := false }
    match (s1.door l).status with
    | .passing => restDoor l .locked s1
    | _ => s1
  else s0

/-! ## Countdowns -/

/-- The release countdown of lane l reaches 0 (R121); where none runs there is no expiry. -/
def releaseExpiry (l : Lane) (s : State) : State :=
  if running s && decide ((s.door l).status = .released) && decide (0 < (s.door l).release) then
    reportLapse l (s.setDoor l ((s.door l).rest .locked))
  else s

/-- The held countdown of lane l reaches 0 (R122); where none runs there is no expiry. -/
def heldExpiry (l : Lane) (s : State) : State :=
  if running s && decide ((s.door l).status = .passing) && decide (0 < (s.door l).heldCount) then heldAlarm l s else s

/-! ## Door commands -/

/-- A command's short entry: clock time, slot NONE, the origin flag (R125, R126, R128, R129). -/
def commandBody (kind : EntryKind) (origin : Port) (lane : Option Lane) (s : State) : EntryBody :=
  { plainBody kind s.time.clock with lane, flags := originFlags origin }

/-- RELEASE DOOR (R126). -/
def cmdReleaseDoor (origin : Port) (lane : Word) (s : State) : State × Reply :=
  match firstBad [decide (3 < lane.toNat)] with
  | some i => (s, .badOperand i)
  | none =>
    let l : Lane := finOf 4 lane
    if s.gate.lockdown then (s, .refuse .lockdown)
    else if (s.lane l).pending.isSome then (s, .refuse .laneBusy)
    else
      let s1 := doorGrant l s
      let s2 := appendEntry (commandBody .doorManual origin (some l) s) s1
      (s2, .done [word (doorStatusCode (s2.door l).status)])

/-- SET DOOR MODE FREE at lane l (R127): LOCKED, RELEASED and PASSING go to FREE, and a pending passage is resolved as passed. -/
def freeByMode (l : Lane) (s : State) : State :=
  let s1 := s.setDoor l { s.door l with mode := .free }
  match (s1.door l).status with
  | .free => s1
  | .lockdown => s1
  | _ => reportPassage l (restDoor l .free s1)

/-- SET DOOR MODE NORMAL at lane l (R127): a FREE door not freed by the emergency goes to LOCKED, or PASSING (R124). -/
def normalByMode (l : Lane) (s : State) : State :=
  let s1 := s.setDoor l { s.door l with mode := .normal }
  if (s1.door l).status = .free ∧ (s1.door l).freed = false then lockDoor l s1 else s1

/-- SET DOOR MODE (R127). -/
def cmdSetDoorMode (lane mode : Word) (s : State) : State × Reply :=
  match firstBad [decide (3 < lane.toNat), decide (1 < mode.toNat)] with
  | some i => (s, .badOperand i)
  | none =>
    let l : Lane := finOf 4 lane
    let s1 := if mode = 1 then freeByMode l s else normalByMode l s
    (s1, .done [word (doorStatusCode (s1.door l).status)])

/-- One lane put in LOCKDOWN (R128 step 3), unless the emergency has freed it. -/
def lockDownLane (l : Lane) (s : State) : State :=
  if (s.door l).freed then s else reportLapse l (restDoor l .lockdown s)

/-- LOCKDOWN (R128). -/
def cmdLockdown (origin : Port) (s : State) : State × Reply :=
  if s.gate.lockdown then (s, .done [1])
  else
    let s1 := s.setGate { s.gate with lockdown := true }
    let s2 := appendEntry (commandBody .lockdownOn origin none s) s1
    (allLanes.foldl (fun acc l => lockDownLane l acc) s2, .done [0])

/-- One lane leaving LOCKDOWN (R129). -/
def leaveLockdown (l : Lane) (s : State) : State :=
  if (s.door l).status = .lockdown then
    if (s.door l).mode = .free then s.setDoor l ((s.door l).rest .free) else lockDoor l s
  else s

/-- CLEAR LOCKDOWN (R129). -/
def cmdClearLockdown (origin : Port) (s : State) : State × Reply :=
  if !s.gate.lockdown then (s, .done [1])
  else
    let s1 := s.setGate { s.gate with lockdown := false }
    let s2 := appendEntry (commandBody .lockdownOff origin none s) s1
    (allLanes.foldl (fun acc l => leaveLockdown l acc) s2, .done [0])

/-- RESET ALARM (R125). -/
def cmdResetAlarm (origin : Port) (lane : Word) (s : State) : State × Reply :=
  match firstBad [decide (3 < lane.toNat)] with
  | some i => (s, .badOperand i)
  | none =>
    let l : Lane := finOf 4 lane
    let s1 := s.setDoor l { s.door l with forced := false, held := false }
    (appendEntry (commandBody .alarmReset origin (some l) s) s1, .done [latchesWord (s.door l)])

/-- READ DOORS (R133). -/
def cmdReadDoors (s : State) : State × Reply :=
  (s, .done ([gateWord s, word s.gate.windowCountdown, word s.gate.windowLength] ++
    allLanes.map (fun l => doorWord (s.door l))))

/-- SET REENTRY WINDOW (R132). -/
def cmdSetReentryWindow (minutes : Word) (s : State) : State × Reply :=
  match firstBad [decide (60 < minutes.toNat)] with
  | some i => (s, .badOperand i)
  | none => (s.setGate { s.gate with windowLength := minutes.toNat }, .done [word s.gate.windowLength])

/-! ## The emergency line -/

/-- A FAIL-FREE lane is freed by the emergency (R130 step 5). -/
def emergencyFree (l : Lane) (s : State) : State :=
  if (s.lane l).config.failState = .failFree then
    let s1 := restDoor l .free s
    s1.setDoor l { s1.door l with freed := true }
  else s

/-- The assertion taken whole (R130). -/
def assertEmergency (s : State) : State :=
  let s1 := s.setGate { s.gate with emergency := true, windowCountdown := 0 }
  let s2 := s1.modifyAllRecords (fun r => { r with muster := false })
  let s3 := appendEntry (plainBody .emergencyOn s.time.clock) s2
  let s4 := allLanes.foldl (fun acc l => emergencyLapse l acc) s3
  let s5 := allLanes.foldl (fun acc l => emergencyFree l acc) s4
  raiseBoth .emergency (beginEvacuation s5)

/-- A freed lane returns at the end of the emergency (R131 step 2). -/
def emergencyReturn (l : Lane) (s : State) : State :=
  if (s.door l).freed then
    let s1 := s.setDoor l { s.door l with freed := false }
    if s1.gate.lockdown then s1.setDoor l ((s1.door l).rest .lockdown)
    else if (s1.door l).mode = .free then s1.setDoor l ((s1.door l).rest .free)
    else lockDoor l s1
  else s

/-- The release taken whole (R131). -/
def releaseEmergency (s : State) : State :=
  let s1 := s.setGate { s.gate with emergency := false }
  let s2 := allLanes.foldl (fun acc l => emergencyReturn l acc) s1
  let s3 := s2.setGate { s2.gate with windowCountdown := s2.gate.windowLength * 60 }
  let s4 := appendEntry (plainBody .emergencyOff s.time.clock) (endEvacuation s3)
  raiseBoth .emergency s4

/-- An emergency found continuing at stage 6 (R134 step 3). -/
def continueEmergency (s : State) : State :=
  raiseBoth .emergency (beginEvacuation (allLanes.foldl (fun acc l => emergencyFree l acc) s))

/-- The line asserts (R130); it is sampled once a start has ended, and a state already active is no edge (R131). -/
def lineAsserts (s : State) : State :=
  let s0 := s.setPins { s.pins with emergencyLine := true }
  if running s0 && !s0.gate.emergency then assertEmergency s0 else s0

/-- The line releases (R131). -/
def lineReleases (s : State) : State :=
  let s0 := s.setPins { s.pins with emergencyLine := false }
  if running s0 && s0.gate.emergency then releaseEmergency s0 else s0

/-- The window countdown reaches 0 (R132). -/
def windowExpiry (s : State) : State :=
  if running s then s.setGate { s.gate with windowCountdown := 0 } else s

/-! ## Stage 6 of a start (R134) -/

/-- Steps 1 and 2 at one lane: mode NORMAL, marks clear, countdowns stopped, the contact state from its input, and the door to
LOCKDOWN, LOCKED or PASSING. -/
def setUpDoor (l : Lane) (s : State) : State :=
  let d := { s.door l with
    mode := .normal, freed := false, heldBell := false, release := 0, heldCount := 0
    contactOpen := vget s.pins.contactOpen l }
  s.setDoor l (if s.gate.lockdown then d.rest .lockdown else d.toLocked (s.lane l).config)

/-- Step 3: the emergency line is sampled and the retained state reconciled with it. -/
def reconcileEmergency (s : State) : State :=
  match s.pins.emergencyLine, s.gate.emergency with
  | true, false => assertEmergency s
  | true, true => continueEmergency s
  | false, true => releaseEmergency s
  | false, false => s

/-- The door controller's steps at stage 6 of every start (R134). -/
def startDoors (s : State) : State := reconcileEmergency (allLanes.foldl (fun acc l => setUpDoor l acc) s)

/-! ## Meanings of the door rows -/

def execRotationPulse (lane : Lane) (s : State) : Host.Outcome State Fault Refusal := .next (rotationPulse lane s)
def execContactOpening (lane : Lane) (s : State) : Host.Outcome State Fault Refusal := .next (contactOpening lane s)
def execContactClosing (lane : Lane) (s : State) : Host.Outcome State Fault Refusal := .next (contactClosing lane s)
def execReleaseExpiry (lane : Lane) (s : State) : Host.Outcome State Fault Refusal := .next (releaseExpiry lane s)
def execHeldCountdownExpiry (lane : Lane) (s : State) : Host.Outcome State Fault Refusal := .next (heldExpiry lane s)

def execReleaseDoor (origin : Port) (lane : Word) (s : State) : Host.Outcome State Fault Refusal :=
  .next (runDirect none (cmdReleaseDoor origin lane) s)

def execSetDoorMode (lane mode : Word) (s : State) : Host.Outcome State Fault Refusal :=
  .next (runDirect none (cmdSetDoorMode lane mode) s)

def execLockdown (origin : Port) (s : State) : Host.Outcome State Fault Refusal :=
  .next (runDirect none (cmdLockdown origin) s)

def execClearLockdown (origin : Port) (s : State) : Host.Outcome State Fault Refusal :=
  .next (runDirect none (cmdClearLockdown origin) s)

def execResetAlarm (origin : Port) (lane : Word) (s : State) : Host.Outcome State Fault Refusal :=
  .next (runDirect none (cmdResetAlarm origin lane) s)

def execReadDoors (s : State) : Host.Outcome State Fault Refusal := .next (runDirect none cmdReadDoors s)

def execSetReentryWindow (minutes : Word) (s : State) : Host.Outcome State Fault Refusal :=
  .next (runDirect none (cmdSetReentryWindow minutes) s)

def execEmergencyAssert (s : State) : Host.Outcome State Fault Refusal := .next (lineAsserts s)
def execEmergencyRelease (s : State) : Host.Outcome State Fault Refusal := .next (lineReleases s)
def execReentryWindowExpiry (s : State) : Host.Outcome State Fault Refusal := .next (windowExpiry s)

end Sys2Proof.Machine
end

