-- ==== Sys2Proof/Machine/Pay.lean ====
section
/-! DEFINITION. The commands of the pay calculator (chapter 5): the shift, pay class and holiday tables, the period close and the
totals image. The arithmetic of closings stands in Machine/PayRules.lean. -/

namespace Sys2Proof.Machine

/-! ## Shifts (R82, R83) -/

/-- The rounding units (TABLE 5-2). -/
def unitValues : List Nat := [1, 5, 6, 10, 15, 30]

/-- The first word of a shift image out of range (R82 check 3). -/
def badShiftImage (w : List Word) : Option Nat :=
  let n := fun i => (w.getD i 0).toNat
  firstBad
    [decide (15 < n 0), decide (1 < n 1), decide (1439 < n 2), decide (n 3 < 60) || decide (960 < n 3), decide (240 < n 4),
     decide (30 < n 5), decide (30 < n 6), !unitValues.contains (n 7), decide (120 < n 8), decide (960 < n 9),
     decide (960 < n 10), decide (1439 < n 11), decide (1439 < n 12), decide (127 < n 13), decide (720 < n 14)]

/-- The definition that a shift image holds (R82). -/
def shiftOfImage (w : List Word) : ShiftDef :=
  let n := fun i => (w.getD i 0).toNat
  { enabled := decide (n 1 = 1), start := n 2, length := n 3, earlyWindow := n 4, graceIn := n 5, graceOut := n 6,
    unit := n 7, meal := n 8, mealThreshold := n 9, overtimeThreshold := n 10, nightStart := n 11, nightEnd := n 12,
    dayMask := BitVec.ofNat 7 (n 13), autoCloseDelay := n 14 }

/-- The fifteen-word shift image (R82, R83). -/
def shiftImage (number : Word) (sh : ShiftDef) : List Word :=
  [number, flagWord sh.enabled, word sh.start, word sh.length, word sh.earlyWindow, word sh.graceIn, word sh.graceOut,
   word sh.unit, word sh.meal, word sh.mealThreshold, word sh.overtimeThreshold, word sh.nightStart, word sh.nightEnd,
   word sh.dayMask.toNat, word sh.autoCloseDelay]

/-- The shift table with the definition numbered k replaced. -/
def PayTables.setShift (pt : PayTables) (k : ShiftNumber) (sh : ShiftDef) : PayTables :=
  { pt with shifts := vset pt.shifts k sh }

/-- WRITE SHIFT (R82). -/
def cmdWriteShift (buf : Buffer) (s : State) : State × Reply :=
  match checkBuffer buf 15 with
  | some r => (s, .refuse r)
  | none =>
    let image := bufferWords s.memory buf 15
    match badShiftImage image with
    | some i => (s, .badOperand i)
    | none =>
      let number := image.getD 0 0
      (s.setPay (s.pay.setShift (finOf 16 number) (shiftOfImage image)), { Reply.done [number] with used := some 15 })

/-- READ SHIFT (R83). -/
def cmdReadShift (shift : Word) (buf : Buffer) (s : State) : State × Reply :=
  match firstBad [decide (15 < shift.toNat)] with
  | some i => (s, .badOperand i)
  | none =>
    match checkBuffer buf 15 with
    | some r => (s, .refuse r)
    | none => (s, .doneOut (shiftImage shift (vget s.pay.shifts (finOf 16 shift))) [shift])

/-! ## Pay classes (R84, R85) -/

/-- The range checks of WRITE PAY CLASS, in word order (R84). -/
def badPayClass (number overtime holiday night : Word) : Option Nat :=
  firstBad
    [decide (15 < number.toNat), false, decide (overtime.toNat < 8) || decide (24 < overtime.toNat),
     decide (holiday.toNat < 8) || decide (24 < holiday.toNat), decide (4095 < night.toNat)]

/-- The pay class table with the class numbered k replaced. -/
def PayTables.setClass (pt : PayTables) (k : ClassNumber) (c : PayClass) : PayTables :=
  { pt with classes := vset pt.classes k c }

/-- WRITE PAY CLASS (R84). -/
def cmdWritePayClass (number base overtime holiday night : Word) (s : State) : State × Reply :=
  match badPayClass number overtime holiday night with
  | some i => (s, .badOperand i)
  | none =>
    let c : PayClass :=
      { base := base.toNat, overtime := overtime.toNat, holiday := holiday.toNat, night := night.toNat }
    (s.setPay (s.pay.setClass (finOf 16 number) c), .done [number])

/-- READ PAY CLASS (R85). -/
def cmdReadPayClass (number : Word) (s : State) : State × Reply :=
  match firstBad [decide (15 < number.toNat)] with
  | some i => (s, .badOperand i)
  | none =>
    let c := vget s.pay.classes (finOf 16 number)
    (s, .done [number, word c.base, word c.overtime, word c.holiday, word c.night])

/-! ## The holiday list (R86, R87) -/

/-- A day inserted in an ascending list without duplicates. -/
def insertDay (d : Nat) : List Nat → List Nat
  | [] => [d]
  | x :: rest => if d < x then d :: x :: rest else if d = x then x :: rest else x :: insertDay d rest

/-- The given days sorted ascending, each once (R86). -/
def sortedDays (days : List Nat) : List Nat := days.foldr insertDay []

/-- WRITE HOLIDAYS (R86): with a count of 0 the buffer is not examined. The count is examined before the buffer: R86 gives
no order (log 38, DESIGN CHOICE). -/
def cmdWriteHolidays (count : Word) (buf : Buffer) (s : State) : State × Reply :=
  match firstBad [decide (32 < count.toNat)] with
  | some i => (s, .badOperand i)
  | none =>
    match (if count = 0 then none else checkBuffer buf count.toNat) with
    | some r => (s, .refuse r)
    | none =>
      let days := sortedDays ((bufferWords s.memory buf count.toNat).map BitVec.toNat)
      (s.setPay { s.pay with holidays := days }, { Reply.done [count, word days.length] with used := some count })

/-- READ HOLIDAYS (R87). -/
def cmdReadHolidays (buf : Buffer) (s : State) : State × Reply :=
  if !bufferStarts buf then (s, .refuse .badBuffer)
  else
    let copied := s.pay.holidays.take (bufferRoom buf)
    (s, .doneOut (copied.map word) [word s.pay.holidays.length, word copied.length])

/-! ## Periods and totals (R100, R102) -/

/-- The period after p, from 65,535 to 0. -/
def periodAfter (p : Nat) : Nat := (p + 1) % 65536

/-- The PERIOD-CLOSE entry (R100). -/
def periodCloseBody (origin : Port) (s : State) : EntryBody :=
  { plainBody .periodClose s.time.clock with
    flags := originFlags origin, extra := .periods s.pay.period (periodAfter s.pay.period) }

/-- CLOSE PERIOD (R100). -/
def cmdClosePeriod (origin : Port) (period : Word) (s : State) : State × Reply :=
  if period.toNat ≠ s.pay.period then (s, .refuseWord9 .range (word s.pay.period))
  else
    let new := periodAfter s.pay.period
    (appendEntry (periodCloseBody origin s) (s.setPay { s.pay with period := new }), .done [word s.pay.period, word new])

/-- READ TOTALS (R102). -/
def cmdReadTotals (selector ref0 ref1 ref2 : Word) (buf : Buffer) (s : State) : State × Reply :=
  match parseRef 0 selector ref0 ref1 ref2 with
  | .error i => (s, .badOperand i)
  | .ok ref =>
    match checkBuffer buf 20 with
    | some r => (s, .refuse r)
    | none =>
      match findRef s.roster ref with
      | none => (s, .refuse .notFound)
      | some a =>
        let s1 := rolloverSlot a s
        match s1.record a with
        | none => (s1, .refuse .notFound)
        | some r => (s1, .doneOut (totalsWords r.current ++ totalsWords r.previous) [word a.val, word s.pay.period])

/-! ## Meanings of the pay calculator's rows -/

def execWriteShift (buf : Buffer) (s : State) : Host.Outcome State Fault Refusal :=
  .next (runDirect none (cmdWriteShift buf) s)

def execReadShift (shift : Word) (buf : Buffer) (s : State) : Host.Outcome State Fault Refusal :=
  .next (runDirect (some buf) (cmdReadShift shift buf) s)

def execWritePayClass (number base overtime holiday night : Word) (s : State) : Host.Outcome State Fault Refusal :=
  .next (runDirect none (cmdWritePayClass number base overtime holiday night) s)

def execReadPayClass (number : Word) (s : State) : Host.Outcome State Fault Refusal :=
  .next (runDirect none (cmdReadPayClass number) s)

def execWriteHolidays (count : Word) (buf : Buffer) (s : State) : Host.Outcome State Fault Refusal :=
  .next (runDirect none (cmdWriteHolidays count buf) s)

def execReadHolidays (buf : Buffer) (s : State) : Host.Outcome State Fault Refusal :=
  .next (runDirect (some buf) (cmdReadHolidays buf) s)

def execClosePeriod (origin : Port) (period : Word) (s : State) : Host.Outcome State Fault Refusal :=
  .next (runDirect none (cmdClosePeriod origin period) s)

def execReadTotals (selector ref0 ref1 ref2 : Word) (buf : Buffer) (s : State) : Host.Outcome State Fault Refusal :=
  .next (runDirect (some buf) (cmdReadTotals selector ref0 ref1 ref2 buf) s)

end Sys2Proof.Machine
end

