-- ==== Sys2Proof/Machine/Ports.lean ====
section
/-! DEFINITION. Port accesses to the exchange memory (R169–R171, R175, R176, R181, R182): what a word of the control page reads, what a
write from a port does at each word, and the meanings of the five write rows. -/

namespace Sys2Proof.Machine

/-! ## Reading words -/

/-- The journal items of the control page, words 016h–01Ch (R165). -/
def journalControlWords (j : Journal) : List Word :=
  seqWords j.writePoint ++ seqWords j.bus.cursor ++ seqWords j.link.cursor ++ [word (min j.occupied 65535)]

/-- The notice words of a port: channel summary, event summary, rearm cell (R169). -/
def PortState.words (p : PortState) : List Word := [p.channelSummary, p.eventSummary, flagWord p.armed]

/-- Words 000h–01Fh of the control page (TABLE 11-2). -/
def headWords (s : State) : List Word :=
  Config.identification ++ [0, 0, 0, 0, 1] ++ [word (selfTestCode s.time.selfTest), statusFlagsWord s] ++
    timeWords s.control.clockMirror ++ [word s.control.presentMirror] ++ journalControlWords s.journal ++ [0, 0, 0]

/-- Words 020h–037h: request cells, fault cells, block pointer cells. -/
def channelCells (s : State) : List Word :=
  allChannels.map (fun c => (s.channel c).request) ++
    allChannels.map (fun c => word (channelFaultCode (s.channel c).fault)) ++
    allChannels.map (fun c => (s.channel c).pointer)

/-- Words 000h–046h of the control page; the words after them read 0000h (R169). -/
def controlWords (s : State) : List Word :=
  headWords s ++ channelCells s ++ List.replicate 8 0 ++ s.control.bus.words ++ [0] ++ s.control.link.words

/-- A read of a word from a port, and the state after it: in FAILED each read of pages 1–31 takes a free value (R18, log 5). -/
def portRead (a : BitVec 13) (s : State) : Word × State :=
  if a.toNat < Config.firstPageWord then ((controlWords s).getD a.toNat 0, s)
  else
    match s.time.selfTest with
    | .passed => (memRead s.memory a.toNat, s)
    | .failed => (Config.failedPageRead s.freeCount, s.setFreeCount (s.freeCount + 1))
    | .notTested => (0, s)
    | .testing => (0, s)

/-! ## What a written word does -/

/-- What lies at an address, as a port write meets it (TABLE 10-1). -/
inductive WriteTarget where
  | request (c : Channel)
  | fault (c : Channel)
  | pointer (c : Channel)
  | summary (owner : Port) (which : SummaryWord)
  | rearm (owner : Port)
  | ignored
  | storage
  deriving DecidableEq, Repr

/-- The target of a write to a word (TABLE 10-1). -/
def writeTarget (a : BitVec 13) : WriteTarget :=
  let n := a.toNat
  if Config.firstPageWord ≤ n then .storage
  else if n / 8 = 4 then .request (Fin.ofNat 8 n)
  else if n / 8 = 5 then .fault (Fin.ofNat 8 n)
  else if n / 8 = 6 then .pointer (Fin.ofNat 8 n)
  else if n = 0x40 then .summary .bus .channelWord
  else if n = 0x41 then .summary .bus .eventWord
  else if n = 0x42 then .rearm .bus
  else if n = 0x44 then .summary .link .channelWord
  else if n = 0x45 then .summary .link .eventWord
  else if n = 0x46 then .rearm .link
  else .ignored

/-- A request at channel c by a port (R175): refused FEh or FFh, or taken into the pending queue with its acknowledge notice. -/
def takeRequest (by_ : Port) (c : Channel) (s : State) : State :=
  let ch := s.channel c
  if s.time.selfTest ≠ .passed then s.setChannel c { ch with request := 0xFE }
  else if 4 ≤ ch.queue.length then s.setChannel c { ch with request := 0xFF }
  else
    noticeSet ch.ackPorts .channelWord c.val
      (s.setChannel c { ch with request := 0, queue := ch.queue ++ [⟨ch.pointer, by_⟩] })

/-- A write to a request cell (R175): any word but 0001h is ignored. -/
def writeRequestCell (by_ : Port) (c : Channel) (value : Word) (s : State) : State :=
  if value = 1 then takeRequest by_ c s else s

/-- A write to a fault cell (R176): 0000h clears it, any other word is ignored. -/
def writeFaultCell (c : Channel) (value : Word) (s : State) : State :=
  if value = 0 then s.setChannel c { s.channel c with fault := .none } else s

/-- A write to a block pointer cell: stored. -/
def writePointerCell (c : Channel) (value : Word) (s : State) : State :=
  s.setChannel c { s.channel c with pointer := value }

/-- The bits written as ones cleared in a summary word (R181). -/
def PortState.clear (p : PortState) (which : SummaryWord) (value : Word) : PortState :=
  match which with
  | .channelWord => { p with channelSummary := p.channelSummary &&& ~~~value }
  | .eventWord => { p with eventSummary := p.eventSummary &&& ~~~value }

/-- A write to a summary word (R181). -/
def writeSummary (owner : Port) (which : SummaryWord) (value : Word) (s : State) : State :=
  s.setPortState owner ((s.portState owner).clear which value)

/-- A write to a port's rearm cell (R182): the port is armed; with a bit pending the line pulses and the port is disarmed. -/
def PortState.rearm (p : PortState) : PortState :=
  if p.pendingNotice then { p with armed := false, pulses := p.pulses + 1 } else { p with armed := true }

/-- A write of any value to a rearm cell (R182). -/
def writeRearmCell (owner : Port) (s : State) : State := s.setPortState owner (s.portState owner).rearm

/-- A write to pages 1–31 (R18): ignored in NOT-TESTED and TESTING. -/
def writeStorage (a : BitVec 13) (value : Word) (s : State) : State :=
  match s.time.selfTest with
  | .passed => s.setMemory (memWrite s.memory a.toNat value)
  | .failed => s.setMemory (memWrite s.memory a.toNat value)
  | .notTested => s
  | .testing => s

/-- The effect of a granted write. -/
def writeWord (by_ : Port) (a : BitVec 13) (value : Word) (s : State) : State :=
  match writeTarget a with
  | .request c => writeRequestCell by_ c value s
  | .fault c => writeFaultCell c value s
  | .pointer c => writePointerCell c value s
  | .summary owner which => writeSummary owner which value s
  | .rearm owner => writeRearmCell owner s
  | .ignored => s
  | .storage => writeStorage a value s

/-- An access by a port in MAINS-RUN: granted by the arbiter, then taken whole; without mains the ports float (R170, R171). -/
def portAccess (by_ : Port) (effect : State → State) (s : State) : State :=
  if s.time.power = .mainsRun then effect (access (Port.requester by_) s) else s

/-- A write of a word from a port. -/
def portWrite (by_ : Port) (a : BitVec 13) (value : Word) (s : State) : State :=
  portAccess by_ (writeWord by_ a value) s

/-- A word fetched by a port (R170, R171, R174): the arbiter grants the port its access, and the word is read as it stands then. -/
def portFetch (by_ : Port) (a : BitVec 13) (s : State) : Word × State := portRead a (access (Port.requester by_) s)

/-! ## Cycles of the bus port (R171) -/

/-- A cycle of the bus port: the strobes asserted with chip select, the word address, and the word put on the data lines. -/
structure BusCycle where
  readStrobe : Bool
  writeStrobe : Bool
  addr : BitVec 13
  data : Word
  deriving DecidableEq, Repr

/-- A bus port cycle (R171): the word driven onto the data lines, none where they stay undriven, and the state after it. A cycle with
both strobes takes no access, and in BATTERY-HOLD the port floats. A read cycle changes no state that has a row (log 9). -/
def busCycle (x : BusCycle) (s : State) : Option Word × State :=
  if s.time.power = .mainsRun then
    match x.readStrobe, x.writeStrobe with
    | true, false =>
      let fetched := portFetch .bus x.addr s
      (some fetched.1, fetched.2)
    | false, true => (none, portWrite .bus x.addr x.data s)
    | true, true => (none, s)
    | false, false => (none, s)
  else (none, s)

/-! ## Meanings of the write rows -/

def execRequestCellWrite (by_ : Port) (channel : Channel) (value : Word) (s : State) : Host.Outcome State Fault Refusal :=
  .next (portAccess by_ (writeRequestCell by_ channel value) s)

def execFaultCellWrite (by_ : Port) (channel : Channel) (value : Word) (s : State) : Host.Outcome State Fault Refusal :=
  .next (portAccess by_ (writeFaultCell channel value) s)

def execSummaryWrite (by_ owner : Port) (which : SummaryWord) (value : Word) (s : State) :
    Host.Outcome State Fault Refusal :=
  .next (portAccess by_ (writeSummary owner which value) s)

/-- R182: the value written does not matter. -/
def execRearmCellWrite (by_ owner : Port) (_value : Word) (s : State) : Host.Outcome State Fault Refusal :=
  .next (portAccess by_ (writeRearmCell owner) s)

/-- R169: a word without behaviour of its own is stored or ignored; a word that has its own behaves as its rule says. -/
def execPortWordWrite (by_ : Port) (addr : BitVec 13) (value : Word) (s : State) : Host.Outcome State Fault Refusal :=
  .next (portWrite by_ addr value s)

end Sys2Proof.Machine
end

