-- ==== Sys2Proof/Machine/Engine.lean ====
section
/-! DEFINITION. The command engine (R177–R180): the command codes, the block and its checks, the results it writes, chains, faults and
the round robin over the channels; and the two channel commands. -/

namespace Sys2Proof.Machine

/-! ## The channel commands (R180) -/

/-- SET CHANNEL NOTICE (R180). -/
def cmdSetChannelNotice (channel acknowledge fault : Word) (s : State) : State × Reply :=
  match firstBad [decide (7 < channel.toNat), decide (3 < acknowledge.toNat), decide (3 < fault.toNat)] with
  | some i => (s, .badOperand i)
  | none =>
    let c : Channel := finOf 8 channel
    let ch := s.channel c
    (s.setChannel c { ch with ackPorts := portSetOfWord acknowledge, faultPorts := portSetOfWord fault },
      .done [word ch.ackPorts.toNat, word ch.faultPorts.toNat])

/-- READ CHANNELS (R180). -/
def cmdReadChannels (s : State) : State × Reply := (s, .done (allChannels.map (fun c => channelWord (s.channel c))))

/-! ## Command codes (TABLE 11-4) -/

/-- The commands a block may name. -/
inductive Command where
  | setClock | trimClock | readClock | acknowledgeStart
  | loadRecord | readRecord | deleteRecord | scanIndex
  | writeLane | readLane
  | writeShift | readShift | writePayClass | readPayClass | writeHolidays | readHolidays | closePeriod | readTotals
  | listPresent | correctPresence
  | releaseDoor | setDoorMode | lockdown | clearLockdown | resetAlarm | readDoors | setReentryWindow
  | writeBellEntry | readBellEntry | writePattern | readPattern | ringZones | silenceZones | readBells
  | readJournal | releaseJournal | setConsumer | journalStatus
  | setChannelNotice | readChannels
  deriving DecidableEq, Repr

/-- The code of each command. -/
def Command.code : Command → Nat
  | .setClock => 0x10 | .trimClock => 0x11 | .readClock => 0x12 | .acknowledgeStart => 0x13
  | .loadRecord => 0x20 | .readRecord => 0x21 | .deleteRecord => 0x22 | .scanIndex => 0x23
  | .writeLane => 0x30 | .readLane => 0x31
  | .writeShift => 0x40 | .readShift => 0x41 | .writePayClass => 0x42 | .readPayClass => 0x43
  | .writeHolidays => 0x44 | .readHolidays => 0x45 | .closePeriod => 0x46 | .readTotals => 0x47
  | .listPresent => 0x50 | .correctPresence => 0x51
  | .releaseDoor => 0x60 | .setDoorMode => 0x61 | .lockdown => 0x62 | .clearLockdown => 0x63 | .resetAlarm => 0x64
  | .readDoors => 0x65 | .setReentryWindow => 0x66
  | .writeBellEntry => 0x70 | .readBellEntry => 0x71 | .writePattern => 0x72 | .readPattern => 0x73 | .ringZones => 0x74
  | .silenceZones => 0x75 | .readBells => 0x76
  | .readJournal => 0x80 | .releaseJournal => 0x81 | .setConsumer => 0x82 | .journalStatus => 0x83
  | .setChannelNotice => 0x90 | .readChannels => 0x91

/-- The commands of the manual. -/
def allCommands : List Command :=
  [.setClock, .trimClock, .readClock, .acknowledgeStart, .loadRecord, .readRecord, .deleteRecord, .scanIndex, .writeLane,
   .readLane, .writeShift, .readShift, .writePayClass, .readPayClass, .writeHolidays, .readHolidays, .closePeriod,
   .readTotals, .listPresent, .correctPresence, .releaseDoor, .setDoorMode, .lockdown, .clearLockdown, .resetAlarm,
   .readDoors, .setReentryWindow, .writeBellEntry, .readBellEntry, .writePattern, .readPattern, .ringZones, .silenceZones,
   .readBells, .readJournal, .releaseJournal, .setConsumer, .journalStatus, .setChannelNotice, .readChannels]

/-- The command of a code, none for a code the manual does not give. -/
def commandOf (code : Word) : Option Command :=
  allCommands.find? (fun c => decide (c.code = code.toNat))

/-- The commands whose own rule names a command buffer (R179 check 3). -/
def Command.namesBuffer : Command → Bool
  | .loadRecord | .readRecord | .scanIndex | .readLane | .writeShift | .readShift | .writeHolidays | .readHolidays
  | .readTotals | .listPresent | .readBells | .readJournal | .journalStatus => true
  | _ => false

/-! ## Carrying a command out -/

/-- Operand words by their index, word 8 of the block being index 0. -/
abbrev Operands := Nat → Word

/-- CORRECT PRESENCE by its operation word (R112). -/
def runCorrection (origin : Port) (op : Operands) (s : State) : State × Reply :=
  if op 0 = 0 then cmdForceOut origin (op 1) (op 2) (op 3) (op 4) (op 5) (op 6) (op 7) s
  else if op 0 = 1 then cmdForceIn origin (op 1) (op 2) (op 3) (op 4) (op 5) (op 6) (op 7) s
  else if op 0 = 2 then cmdCancel origin (op 1) (op 2) (op 3) (op 4) s
  else (s, .badOperand 0)

/-- A command carried out at the block that owns it, from its operand words and its command buffer. -/
def Command.run (origin : Port) (op : Operands) (buf : Buffer) (s : State) : Command → State × Reply
  | .setClock => cmdSetClock origin (op 0) (op 1) (op 2) (op 3) s
  | .trimClock => cmdTrimClock (op 0) s
  | .readClock => cmdReadClock s
  | .acknowledgeStart => cmdAcknowledgeStart s
  | .loadRecord => cmdLoadRecord buf s
  | .readRecord => cmdReadRecord (op 0) (op 1) (op 2) (op 3) buf s
  | .deleteRecord => cmdDeleteRecord (op 0) (op 1) (op 2) (op 3) s
  | .scanIndex => cmdScanIndex (op 0) (op 1) (op 2) buf s
  | .writeLane => cmdWriteLane (op 0) (op 1) (op 2) (op 3) (op 4) (op 5) (op 6) (op 7) s
  | .readLane => cmdReadLane (op 0) buf s
  | .writeShift => cmdWriteShift buf s
  | .readShift => cmdReadShift (op 0) buf s
  | .writePayClass => cmdWritePayClass (op 0) (op 1) (op 2) (op 3) (op 4) s
  | .readPayClass => cmdReadPayClass (op 0) s
  | .writeHolidays => cmdWriteHolidays (op 0) buf s
  | .readHolidays => cmdReadHolidays buf s
  | .closePeriod => cmdClosePeriod origin (op 0) s
  | .readTotals => cmdReadTotals (op 0) (op 1) (op 2) (op 3) buf s
  | .listPresent => cmdListPresent (op 0) (op 1) buf s
  | .correctPresence => runCorrection origin op s
  | .releaseDoor => cmdReleaseDoor origin (op 0) s
  | .setDoorMode => cmdSetDoorMode (op 0) (op 1) s
  | .lockdown => cmdLockdown origin s
  | .clearLockdown => cmdClearLockdown origin s
  | .resetAlarm => cmdResetAlarm origin (op 0) s
  | .readDoors => cmdReadDoors s
  | .setReentryWindow => cmdSetReentryWindow (op 0) s
  | .writeBellEntry => cmdWriteBellEntry (op 0) (op 1) (op 2) (op 3) (op 4) (op 5) (op 6) s
  | .readBellEntry => cmdReadBellEntry (op 0) s
  | .writePattern => cmdWritePattern (op 0) (op 1) (op 2) (op 3) (op 4) (op 5) (op 6) s
  | .readPattern => cmdReadPattern (op 0) s
  | .ringZones => cmdRingZones origin (op 0) (op 1) s
  | .silenceZones => cmdSilenceZones (op 0) s
  | .readBells => cmdReadBells buf s
  | .readJournal => cmdReadJournal (op 0) (op 1) (op 2) (op 3) buf s
  | .releaseJournal => cmdReleaseJournal (op 0) (op 1) (op 2) s
  | .setConsumer => cmdSetConsumer (op 0) (op 1) (op 2) s
  | .journalStatus => cmdJournalStatus buf s
  | .setChannelNotice => cmdSetChannelNotice (op 0) (op 1) (op 2) s
  | .readChannels => cmdReadChannels s

/-! ## Command blocks (R178, R179) -/

/-- The words of a block that the engine acts on (section 11.3). -/
structure Block where
  code : Word
  notice : Word
  link : Word
  mode : Word
  buffer : Buffer
  operands : List Word
  deriving DecidableEq, Repr

/-- The block at an address (R178 step 1). -/
def readBlock (m : Memory) (a : Nat) : Block :=
  { code := memRead m a, notice := memRead m (a + 2), link := memRead m (a + 4), mode := memRead m (a + 5)
    buffer := ⟨memRead m (a + 6), memRead m (a + 7)⟩
    operands := (List.range 8).map (fun i => memRead m (a + 8 + i)) }

/-- Operand words from a list. -/
def operandsOf (ws : List Word) : Operands := fun i => ws.getD i 0

/-- A reply after mode BUFFER: the buffer length word returns 8 where the command is carried out (R179, log 15). -/
def Reply.fromBufferMode (r : Reply) : Reply := { r with used := if r.code = .done then some 8 else none }

/-- The checks of R179 and the command: the state after it and the reply. -/
def carryOut (b : Block) (origin : Port) (s : State) : State × Reply :=
  match commandOf b.code with
  | none => (s, .refuse .badCommand)
  | some cmd =>
    if cmd.namesBuffer then cmd.run origin (operandsOf b.operands) b.buffer s
    else if b.mode = 0 then cmd.run origin (operandsOf b.operands) b.buffer s
    else if b.mode = 1 then
      match checkBuffer b.buffer 8 with
      | some r => (s, .refuse r)
      | none =>
        let done := cmd.run origin (operandsOf (bufferWords s.memory b.buffer 8)) b.buffer s
        (done.1, done.2.fromBufferMode)
    else (s, .refuse .badCommand)

/-- The block's words as written back after the output buffer (R178 step 3): results, word 7, word 1, and last word 3 with 0. -/
def blockWrites (a : Nat) (r : Reply) : List (Nat × Word) :=
  r.results.map (fun p => (a + p.1, p.2)) ++
    (match r.used with
      | some n => [(a + 7, n)]
      | none => []) ++
    [(a + 1, word (responseCode r.code)), (a + 3, 0)]

/-- The results written: the output buffer's words first, then the block's (R178 step 3). -/
def writeResults (a : Nat) (b : Block) (r : Reply) (m : Memory) : Memory :=
  memWriteAll (writeBuffer m b.buffer r.out) (blockWrites a r)

/-! ## Turns (R177) -/

/-- The 16 words from an address lie wholly in one of pages 1–31 (R177). -/
def validBlockAddress (w : Word) : Bool :=
  decide (Config.firstPageWord ≤ w.toNat) && decide (w.toNat < Config.exchangeWords) && decide (w.toNat % 256 ≤ 240)

/-- A fault recorded on a channel: the fault cell takes the code, CHANNEL-FAULT is raised on its fault ports (R176, R177, R179). -/
def channelFault (c : Channel) (f : ChannelFault) (s : State) : State :=
  let s1 := s.setChannel c { s.channel c with fault := f, chain := none }
  noticeSet (s.channel c).faultPorts .eventWord Cause.channelFault.bit s1

/-- The chain of a channel after its block (R179): continued at the link, ended, or stopped by CHAIN-LIMIT. -/
def continueChain (c : Channel) (link : Word) (done : Bool) (chain : Chain) (s : State) : State :=
  if done && decide (link ≠ 0) then
    if chain.count < 256 then s.setChannel c { s.channel c with chain := some { chain with next := link } }
    else channelFault c .chainLimit s
  else s.setChannel c { s.channel c with chain := none }

/-- A block at a valid address is served (R178). -/
def serveBlock (c : Channel) (chain : Chain) (s : State) : State :=
  let a := chain.next.toNat
  let b := readBlock s.memory a
  let done := carryOut b chain.origin s
  let s1 := done.1.setMemory (writeResults a b done.2 done.1.memory)
  let s2 := noticeSet (portSetOfWord b.notice) .channelWord (c.val + 8) s1
  continueChain c b.link (decide (done.2.code = .done)) chain s2

/-- A channel is eligible (R177). -/
def ChannelState.eligible (ch : ChannelState) : Bool := ch.chain.isSome || !ch.queue.isEmpty

/-- The channels in the order the round robin looks at them (R177). -/
def turnOrder (last : Channel) : List Channel := (List.range 8).map (fun i => Fin.ofNat 8 (last.val + 1 + i))

/-- The channel served next (R177). -/
def nextChannel (s : State) : Option Channel :=
  (turnOrder s.control.lastServed).find? (fun c => (s.channel c).eligible)

/-- What a turn takes at a channel (R177): its chain's next block with the count raised by 1, or its oldest request. -/
def ChannelState.take (ch : ChannelState) : Option (Chain × ChannelState) :=
  match ch.chain, ch.queue with
  | some k, _ =>
    let k1 := { k with count := k.count + 1 }
    some (k1, { ch with chain := some k1 })
  | none, r :: rest =>
    let k1 : Chain := ⟨r.address, r.origin, 1⟩
    some (k1, { ch with chain := some k1, queue := rest })
  | none, [] => none

/-- The state with the channel served last replaced. -/
def setLastServed (c : Channel) (s : State) : State := s.setControl { s.control with lastServed := c }

/-- A turn at channel c, its block served by `serve` (R177): BAD-POINTER, or the block served. While it is served the channel holds a
chain (R180). -/
def turnAt (serve : Channel → Chain → State → State) (c : Channel) (s : State) : State :=
  match (s.channel c).take with
  | none => s
  | some (chain, ch) =>
    let s1 := setLastServed c (s.setChannel c ch)
    if validBlockAddress chain.next then serve c chain s1 else channelFault c .badPointer s1

/-- One turn of the engine (R177); with no eligible channel it takes none. -/
def turnWith (serve : Channel → Chain → State → State) (s : State) : State :=
  if engineOpen s then
    match nextChannel s with
    | some c => turnAt serve c s
    | none => s
  else s

/-- One turn of the engine, whole: its accesses come one after the other with no port's between them (log 9). -/
def engineTurn (s : State) : State := turnWith (fun c chain s1 => serveBlock c chain (access .engine s1)) s

/-! ## Meanings of the engine and channel rows -/

def execEngineTurn (s : State) : Host.Outcome State Fault Refusal := .next (engineTurn s)

def execSetChannelNotice (channel acknowledge fault : Word) (s : State) : Host.Outcome State Fault Refusal :=
  .next (runDirect none (cmdSetChannelNotice channel acknowledge fault) s)

def execReadChannels (s : State) : Host.Outcome State Fault Refusal := .next (runDirect none cmdReadChannels s)

end Sys2Proof.Machine
end

