-- ==== Sys2Proof/Machine/Link.lean ====
section
/-! DEFINITION. The link port (R172–R174): its framing, words written and words read. A row acts where the framing stands as the
row's event needs it, and changes nothing elsewhere (log 14). -/

namespace Sys2Proof.Machine

/-! ## Framing (R172) -/

/-- The link port takes part in the bus: in BATTERY-HOLD it floats (R174). -/
def onBus (f : State → State) (s : State) : State := if s.time.power = .mainsRun then f s else s

/-- A transfer ended: a held high byte and a kept low byte are discarded, nothing is written (R173, R174). -/
def LinkState.endTransfer (k : LinkState) : LinkState := { k with phase := .idle, heldHigh := none, keptLow := none }

/-- The transfer in progress ends (R172). -/
def endTransfer (s : State) : State := s.setLink s.link.endTransfer

/-- A start condition with an address and a direction (R172): any transfer ends, and the port answers to its own address. -/
def startTransfer (address : BitVec 7) (read : Bool) (s : State) : State :=
  let k := s.link.endTransfer
  if address = k.address then s.setLink { k with phase := if read then .reading true else .lead, ack := true }
  else s.setLink { k with ack := false }

/-- What a lead byte makes the framing expect: bit 7 is MORE, bit 6 the kind, bits 0–4 the high part of a pointer (R172). -/
def leadPhase (content : Byte) : LinkPhase :=
  if content.getLsbD 6 then .data (content.getLsbD 7) else .pointer (content.setWidth 5) (content.getLsbD 7)

/-- A lead byte arrives where one is expected (R172). -/
def leadByte (content : Byte) (s : State) : State :=
  match s.link.phase with
  | .lead => s.setLink { s.link with phase := leadPhase content, ack := true }
  | _ => s

/-- The framing after a content byte: with MORE set a lead byte is expected again (R172). -/
def afterContent (more : Bool) (otherwise : LinkPhase) : LinkPhase := if more then .lead else otherwise

/-- The content byte of a POINTER lead (R172): the pointer takes the 13-bit value, a half-assembled word is discarded and the
position within a word becomes a high byte (R174); the bytes after the first one are acknowledged and ignored. -/
def pointerByte (content : Byte) (s : State) : State :=
  match s.link.phase with
  | .pointer high more =>
    s.setLink
      { s.link with
        pointer := high ++ content, heldHigh := none, keptLow := none, phase := afterContent more .ignore, ack := true }
  | .ignore => s.setLink { s.link with ack := true }
  | _ => s

/-- The pointer after a word: 1FFFh stays (R173, R174). -/
def nextPointer (p : BitVec 13) : BitVec 13 := if p = 0x1FFF then p else p + 1

/-- A DATA content byte with no byte held becomes the held high byte (R173). -/
def dataHighByte (content : Byte) (s : State) : State :=
  match s.link.phase, s.link.heldHigh with
  | .data more, none =>
    s.setLink { s.link with heldHigh := some content, phase := afterContent more (.data false), ack := true }
  | _, _ => s

/-- A DATA content byte with a high byte held completes a word (R173): it is written at the pointer, and the pointer advances. -/
def dataLowByte (content : Byte) (s : State) : State :=
  match s.link.phase, s.link.heldHigh with
  | .data more, some high =>
    let s1 := portWrite .link s.link.pointer (high ++ content) s
    s1.setLink
      { s1.link with
        pointer := nextPointer s.link.pointer, heldHigh := none, phase := afterContent more (.data false), ack := true }
  | _, _ => s

/-! ## Reading (R174) -/

/-- The high byte of a freshly fetched word: one access; the low byte is kept. -/
def fetchHighByte (s : State) : State :=
  let fetched := portFetch .link s.link.pointer s
  fetched.2.setLink
    { s.link with holding := (fetched.1 >>> 8).setWidth 8, keptLow := some (fetched.1.setWidth 8) }

/-- A byte asked for in a read transfer (R174): first the holding byte, then high bytes fetched and low bytes kept. The byte sent
is the holding byte afterwards. -/
def readByte (s : State) : State :=
  match s.link.phase with
  | .reading true => s.setLink { s.link with phase := .reading false }
  | .reading false =>
    match s.link.keptLow with
    | none => fetchHighByte s
    | some low => s.setLink { s.link with holding := low, keptLow := none, pointer := nextPointer s.link.pointer }
  | _ => s

/-! ## Meanings of the link rows -/

def execLinkTransferStart (address : BitVec 7) (read : Bool) (s : State) : Host.Outcome State Fault Refusal :=
  .next (onBus (startTransfer address read) s)

def execLinkLeadByte (content : Byte) (s : State) : Host.Outcome State Fault Refusal := .next (onBus (leadByte content) s)

def execLinkPointerSet (content : Byte) (s : State) : Host.Outcome State Fault Refusal :=
  .next (onBus (pointerByte content) s)

def execLinkDataHighByte (content : Byte) (s : State) : Host.Outcome State Fault Refusal :=
  .next (onBus (dataHighByte content) s)

def execLinkDataWord (content : Byte) (s : State) : Host.Outcome State Fault Refusal :=
  .next (onBus (dataLowByte content) s)

def execLinkReadByte (s : State) : Host.Outcome State Fault Refusal := .next (onBus readByte s)

def execLinkTransferEnd (s : State) : Host.Outcome State Fault Refusal := .next (onBus endTransfer s)

end Sys2Proof.Machine
end

