-- ==== Sys2Proof/Machine/Starts.lean ====
section
/-! DEFINITION. Power states, retention and starts (sections 1.5 to 1.7): what a mains trip loses, how a start is decided, its six
stages (TABLE 1-5), and what each stage does to every block (R40, R41, R58, R59, R117, R134, R151, R168, R183). -/

namespace Sys2Proof.Machine

/-! ## Volatile state -/

/-- A lane with its assembly, gap counter, lamps and context empty, its configuration kept (R59). -/
def LaneState.lose (l : LaneState) : LaneState := LaneState.empty l.config

/-- The door controller's volatile state of one lane lost; the latches are kept (R134). -/
def Door.lose (d : Door) : Door := { Door.cold with forced := d.forced, held := d.held }

/-- The zone players IDLE and the locked zone set empty (R151). -/
def Bells.lose (b : Bells) : Bells := { b with zones := Vector.replicate 8 none, locked := 0 }

/-- The high marks cleared (R161). -/
def Journal.loseMarks (j : Journal) : Journal :=
  { j with bus := { j.bus with highMark := false }, link := { j.link with highMark := false } }

/-- A port's summary zero and its line armed (TABLE 10-4). -/
def PortState.restart (p : PortState) : PortState := { p with channelSummary := 0, eventSummary := 0, armed := true }

/-- The control page's own items, the channels and the ports as TABLE 10-4 gives them. The table does not name the arbiter: its last
grant stays (log 33, DESIGN CHOICE). -/
def Control.restart (c : Control) : Control :=
  { c with
    clockMirror := Time.zero, presentMirror := 0, channels := Vector.replicate 8 ChannelState.atStart, lastServed := 7,
    bus := c.bus.restart, link := c.link.restart }

/-- The address of the link port for the level of its address pins (R172). -/
def linkAddress (pins : BitVec 2) : BitVec 7 := 0x5C + pins.setWidth 7

/-- The link port after a start: its pins sampled, pointer 0000h, holding byte 00h, no transfer (R172, R174). -/
def LinkState.atStart (pins : BitVec 2) : LinkState :=
  { address := linkAddress pins, pointer := 0, holding := 0, phase := .idle, heldHigh := none, keptLow := none, ack := false }

/-- What a mains trip loses and stage 1 of every start restarts: exchange memory, control page, channels, ports, link port, lane
contexts, zone players, re-entry window countdown and high marks (R12, R15, R183). -/
def loseVolatile (s : State) : State :=
  let s1 := (s.setMemory []).setControl s.control.restart
  let s2 := s1.setLink (LinkState.atStart s.pins.linkAddressPins)
  let s3 := s2.setLanes (s.lanes.map LaneState.lose)
  let s4 := s3.setBells s.bells.lose
  let s5 := s4.setJournal s.journal.loseMarks
  s5.setGate { s.gate with windowCountdown := 0 }

/-- The mains monitor trips (R12): BATTERY-HOLD, the volatile state lost, the doors' too (R134), the hold counted from 0, and a
start in progress abandoned (R19). -/
def mainsTrip (s : State) : State :=
  if s.time.power = .mainsRun then
    let s1 := loseVolatile s
    let s2 := s1.setGate { s1.gate with doors := s.gate.doors.map Door.lose }
    s2.setTime { s.time with power := .batteryHold, start := none, selfTest := .notTested, holdDuration := 0 }
  else s

/-- The battery falls below the retention threshold in BATTERY-HOLD (R13). -/
def latchSets (s : State) : State :=
  if s.time.power = .batteryHold then s.setTime { s.time with retentionLatch := true } else s

/-- The retention domain loses its supply in BATTERY-HOLD (R13, R14): the mark is held invalid, the latch is unpowered (log 6). -/
def supplyLost (s : State) : State :=
  if s.time.power = .batteryHold then
    s.setTime { s.time with power := .noSupply, retentionMark := false, retentionLatch := false }
  else s

/-! ## The stages of a start (R16) -/

/-- The start in progress has reached a stage. -/
def reachStage (kind : StartKind) (stage : StartStage) (s : State) : State :=
  s.setTime { s.time with start := some ⟨kind, stage⟩ }

/-- Stage 1: MAINS-RUN with a start in progress, NOT-TESTED, the volatile state restarted. -/
def stageDecision (kind : StartKind) (s : State) : State :=
  let s1 := loseVolatile s
  s1.setTime { s.time with power := .mainsRun, start := some ⟨kind, .decision⟩, selfTest := .notTested }

/-- The time base at stage 2 of a cold start (TABLE 1-3): the mark invalid, the latch sampled and cleared. -/
def TimeBase.coldValues (t : TimeBase) (wasLost : Bool) : TimeBase :=
  { t with
    clock := Time.zero, minuteLength := .ordinary, epochWeekday := 0, clockUnset := true, dayLimit := false, slew := 0,
    holdDuration := 0, coldStart := true, retentionWasLost := wasLost, retentionLatch := false, retentionMark := false }

/-- The door controller's retained items at stage 2 of a cold start (R134): flags and latches clear, window length 15. -/
def Gate.coldValues (g : Gate) : Gate :=
  { g with
    doors := g.doors.map (fun d => { d with forced := false, held := false })
    lockdown := false, emergency := false, windowLength := 15 }

/-- Stage 2: a cold start gives every retained block its cold-start values; other starts keep them. -/
def stageRetained (kind : StartKind) (wasLost : Bool) (s : State) : State :=
  reachStage kind .retained
    (match kind with
      | .cold =>
        let s1 := (s.setTime (s.time.coldValues wasLost)).setRoster Roster.empty
        let s2 := (s1.setLanes (Vector.replicate 4 (LaneState.empty LaneConfig.cold))).setGate s.gate.coldValues
        let s3 := (s2.setPay PayTables.cold).setAttendance []
        (s3.setBells Bells.cold).setJournal Journal.empty
      | .warm => s
      | .reset => s)

/-- The start entry (R17). -/
def startEntryBody (kind : StartKind) (s : State) : EntryBody :=
  match kind with
  | .cold => plainBody .coldStart s.time.clock
  | .warm =>
    { plainBody .warmStart s.time.clock with flags := { power := true }, extra := .hold s.time.holdDuration }
  | .reset => { plainBody .resetStart s.time.clock with flags := { reset := true } }

/-- Stage 3: the start entry; then a cold start makes the retention mark valid, a warm start sets the hold duration to 0. -/
def stageEntry (kind : StartKind) (s : State) : State :=
  let s1 := appendEntry (startEntryBody kind s) s
  let s2 := s1.setTime
    { s1.time with
      retentionMark := decide (kind = .cold) || s1.time.retentionMark
      holdDuration := if kind = .warm then 0 else s1.time.holdDuration }
  reachStage kind .startEntry s2

/-- The LAPSED entry of kind UNKNOWN for a record that was pending (R41). -/
def startLapseBody (kind : StartKind) (a : Slot) (r : Record) (s : State) : EntryBody :=
  { plainBody .lapsed s.time.clock with
    lane := r.pendingLane, slot := some a, badge := some ⟨r.key, r.issue⟩
    flags := { power := decide (kind = .warm), reset := decide (kind = .reset) }
    kindWord := unknownKindCode }

/-- One record at stage 4. -/
def lapseRecord (kind : StartKind) (s : State) (p : Slot × Record) : State :=
  if p.2.pendingLane.isSome then
    (appendEntry (startLapseBody kind p.1 p.2 s) s).modifyRecord p.1 (fun r => { r with pendingLane := none })
  else s

/-- Stage 4: at a warm or reset start the pending records lapse, in ascending slot order (R41); a cold start has no record. -/
def stageLapses (kind : StartKind) (s : State) : State :=
  reachStage kind .lapses (s.roster.records.foldl (lapseRecord kind) s)

/-- Stage 5 begins: the self-test runs (R18). -/
def stageSelfTest (kind : StartKind) (s : State) : State :=
  s.setTime { s.time with start := some ⟨kind, .selfTest⟩, selfTest := .testing }

/-- Stages 1 to 4 and the beginning of stage 5 (log 13: they are one step). -/
def runStart (kind : StartKind) (wasLost : Bool) (s : State) : State :=
  stageSelfTest kind (stageLapses kind (stageEntry kind (stageRetained kind wasLost (stageDecision kind s))))

/-- Mains arrives in BATTERY-HOLD or without supply (R14, TABLE 1-4). -/
def mainsArrival (s : State) : State :=
  match s.time.power with
  | .mainsRun => s
  | _ =>
    if s.time.retentionLatch then runStart .cold true s
    else if s.time.retentionMark then runStart .warm false s
    else runStart .cold false s

/-- A start in progress that has not appended its start entry (R19). -/
def StartStage.beforeEntry : StartStage → Bool
  | .decision => true
  | .retained => true
  | .startEntry => false
  | .lapses => false
  | .selfTest => false

/-- The start that an assertion of the reset line makes (R15, R19). -/
def resetKind (s : State) : StartKind :=
  match s.time.start with
  | some p => if p.stage.beforeEntry then p.kind else .reset
  | none => .reset

/-- The reset line asserts: in MAINS-RUN only (R13, R15). -/
def resetAsserts (s : State) : State :=
  if s.time.power = .mainsRun then runStart (resetKind s) false s else s

/-! ## The end of a start -/

/-- The start notices (R21). -/
def startNotices (kind : StartKind) (s : State) : State :=
  let s1 := if kind = .reset then s else raiseBoth .powerRestored s
  if s1.time.clockUnset then raiseBoth .clockUnset s1 else s1

/-- Stage 6 (R16): the words of pages 1–31 are zero (R18), the mirrors are written (R11, R117), the doors are set up (R134), the
start notices are raised (R21) and the thresholds examined (R161). -/
def endStart (kind : StartKind) (passed : Bool) (s : State) : State :=
  let s1 := s.setTime { s.time with start := none, selfTest := if passed then .passed else .failed }
  let s2 := (s1.setMemory []).setControl
    { s1.control with clockMirror := s1.time.clock, presentMirror := s1.attendance.length }
  examineBoth (startNotices kind (startDoors s2))

/-- The self-test of stage 5 completes (R18). -/
def selfTestEnds (passed : Bool) (s : State) : State :=
  match s.time.start with
  | some p =>
    if s.time.power = .mainsRun ∧ p.stage = .selfTest then endStart p.kind passed s else s
  | none => s

/-! ## Meanings of the power and start rows -/

def execMainsTrip (s : State) : Host.Outcome State Fault Refusal := .next (mainsTrip s)
def execRetentionLostLatchSet (s : State) : Host.Outcome State Fault Refusal := .next (latchSets s)
def execRetentionSupplyLost (s : State) : Host.Outcome State Fault Refusal := .next (supplyLost s)
def execMainsArrival (s : State) : Host.Outcome State Fault Refusal := .next (mainsArrival s)
def execResetAssert (s : State) : Host.Outcome State Fault Refusal := .next (resetAsserts s)
def execSelfTestEnd (passed : Bool) (s : State) : Host.Outcome State Fault Refusal := .next (selfTestEnds passed s)

end Sys2Proof.Machine
end

