-- ==== Sys2Proof/Machine/Dispatch.lean ====
section
/-! DEFINITION. The meaning of each command, one arm per row of the table. -/

namespace Sys2Proof.Machine

def exec (i : Instr) (s : State) : Host.Outcome State Fault Refusal :=
  match i with
  | .crystalSecond => Sys2Proof.Machine.execCrystalSecond s
  | .mainsTrip => Sys2Proof.Machine.execMainsTrip s
  | .retentionLostLatchSet => Sys2Proof.Machine.execRetentionLostLatchSet s
  | .mainsArrival => Sys2Proof.Machine.execMainsArrival s
  | .resetAssert => Sys2Proof.Machine.execResetAssert s
  | .selfTestEnd passed => Sys2Proof.Machine.execSelfTestEnd passed s
  | .setClock origin day minute second weekday => Sys2Proof.Machine.execSetClock origin day minute second weekday s
  | .trimClock seconds => Sys2Proof.Machine.execTrimClock seconds s
  | .readClock => Sys2Proof.Machine.execReadClock s
  | .acknowledgeStart => Sys2Proof.Machine.execAcknowledgeStart s
  | .loadRecord buf => Sys2Proof.Machine.execLoadRecord buf s
  | .readRecord selector ref0 ref1 ref2 buf => Sys2Proof.Machine.execReadRecord selector ref0 ref1 ref2 buf s
  | .deleteRecord selector ref0 ref1 ref2 => Sys2Proof.Machine.execDeleteRecord selector ref0 ref1 ref2 s
  | .scanIndex site numberHigh numberLow buf => Sys2Proof.Machine.execScanIndex site numberHigh numberLow buf s
  | .writeLane lane mode sensor release held passback failState alarm => Sys2Proof.Machine.execWriteLane lane mode sensor release held passback failState alarm s
  | .readLane lane buf => Sys2Proof.Machine.execReadLane lane buf s
  | .frameArrival lane ending => Sys2Proof.Machine.execFrameArrival lane ending s
  | .grantPassageReport lane => Sys2Proof.Machine.execGrantPassageReport lane s
  | .redLampExpiry lane => Sys2Proof.Machine.execRedLampExpiry lane s
  | .rotationPulse lane => Sys2Proof.Machine.execRotationPulse lane s
  | .contactOpening lane => Sys2Proof.Machine.execContactOpening lane s
  | .contactClosing lane => Sys2Proof.Machine.execContactClosing lane s
  | .releaseExpiry lane => Sys2Proof.Machine.execReleaseExpiry lane s
  | .heldCountdownExpiry lane => Sys2Proof.Machine.execHeldCountdownExpiry lane s
  | .releaseDoor origin lane => Sys2Proof.Machine.execReleaseDoor origin lane s
  | .setDoorMode lane mode => Sys2Proof.Machine.execSetDoorMode lane mode s
  | .lockdown origin => Sys2Proof.Machine.execLockdown origin s
  | .clearLockdown origin => Sys2Proof.Machine.execClearLockdown origin s
  | .resetAlarm origin lane => Sys2Proof.Machine.execResetAlarm origin lane s
  | .readDoors => Sys2Proof.Machine.execReadDoors s
  | .setReentryWindow minutes => Sys2Proof.Machine.execSetReentryWindow minutes s
  | .emergencyAssert => Sys2Proof.Machine.execEmergencyAssert s
  | .emergencyRelease => Sys2Proof.Machine.execEmergencyRelease s
  | .reentryWindowExpiry => Sys2Proof.Machine.execReentryWindowExpiry s
  | .writeShift buf => Sys2Proof.Machine.execWriteShift buf s
  | .readShift shift buf => Sys2Proof.Machine.execReadShift shift buf s
  | .writePayClass number base overtime holiday night => Sys2Proof.Machine.execWritePayClass number base overtime holiday night s
  | .readPayClass number => Sys2Proof.Machine.execReadPayClass number s
  | .writeHolidays count buf => Sys2Proof.Machine.execWriteHolidays count buf s
  | .readHolidays buf => Sys2Proof.Machine.execReadHolidays buf s
  | .closePeriod origin period => Sys2Proof.Machine.execClosePeriod origin period s
  | .readTotals selector ref0 ref1 ref2 buf => Sys2Proof.Machine.execReadTotals selector ref0 ref1 ref2 buf s
  | .listPresent filter skip buf => Sys2Proof.Machine.execListPresent filter skip buf s
  | .forceOut origin selector ref0 ref1 ref2 day minute second => Sys2Proof.Machine.execForceOut origin selector ref0 ref1 ref2 day minute second s
  | .forceIn origin selector ref0 ref1 ref2 day minute second => Sys2Proof.Machine.execForceIn origin selector ref0 ref1 ref2 day minute second s
  | .cancel origin selector ref0 ref1 ref2 => Sys2Proof.Machine.execCancel origin selector ref0 ref1 ref2 s
  | .writeBellEntry index flags moment offset dayMask zones pattern => Sys2Proof.Machine.execWriteBellEntry index flags moment offset dayMask zones pattern s
  | .readBellEntry index => Sys2Proof.Machine.execReadBellEntry index s
  | .writePattern number on period strokes gap groups last => Sys2Proof.Machine.execWritePattern number on period strokes gap groups last s
  | .readPattern number => Sys2Proof.Machine.execReadPattern number s
  | .ringZones origin zones pattern => Sys2Proof.Machine.execRingZones origin zones pattern s
  | .silenceZones zones => Sys2Proof.Machine.execSilenceZones zones s
  | .readBells buf => Sys2Proof.Machine.execReadBells buf s
  | .strokeCounterExpiry zone => Sys2Proof.Machine.execStrokeCounterExpiry zone s
  | .readJournal consumer mode seqHigh seqLow buf => Sys2Proof.Machine.execReadJournal consumer mode seqHigh seqLow buf s
  | .releaseJournal consumer seqHigh seqLow => Sys2Proof.Machine.execReleaseJournal consumer seqHigh seqLow s
  | .setConsumer consumer action threshold => Sys2Proof.Machine.execSetConsumer consumer action threshold s
  | .journalStatus buf => Sys2Proof.Machine.execJournalStatus buf s
  | .requestCellWrite by_ channel value => Sys2Proof.Machine.execRequestCellWrite by_ channel value s
  | .faultCellWrite by_ channel value => Sys2Proof.Machine.execFaultCellWrite by_ channel value s
  | .summaryWrite by_ owner which value => Sys2Proof.Machine.execSummaryWrite by_ owner which value s
  | .rearmCellWrite by_ owner value => Sys2Proof.Machine.execRearmCellWrite by_ owner value s
  | .portWordWrite by_ addr value => Sys2Proof.Machine.execPortWordWrite by_ addr value s
  | .engineTurn => Sys2Proof.Machine.execEngineTurn s
  | .setChannelNotice channel acknowledge fault => Sys2Proof.Machine.execSetChannelNotice channel acknowledge fault s
  | .readChannels => Sys2Proof.Machine.execReadChannels s
  | .linkPointerSet content => Sys2Proof.Machine.execLinkPointerSet content s
  | .linkDataWord content => Sys2Proof.Machine.execLinkDataWord content s
  | .linkReadByte => Sys2Proof.Machine.execLinkReadByte s
  | .linkTransferEnd => Sys2Proof.Machine.execLinkTransferEnd s
  | .readerClockPulse lane bit => Sys2Proof.Machine.execReaderClockPulse lane bit s
  | .retentionSupplyLost => Sys2Proof.Machine.execRetentionSupplyLost s
  | .linkTransferStart address read => Sys2Proof.Machine.execLinkTransferStart address read s
  | .linkLeadByte content => Sys2Proof.Machine.execLinkLeadByte content s
  | .linkDataHighByte content => Sys2Proof.Machine.execLinkDataHighByte content s

end Sys2Proof.Machine
end

