-- ==== Sys2Proof/Machine/Tick.lean ====
section
/-! DEFINITION. The 10 ms tick (R4), which the step takes on an empty queue (log 3): cadence, red lamps, and each lane's release, held
and gap countdowns. -/

namespace Sys2Proof.Machine

/-- The tick at the zone players (R144). -/
def tickZones (s : State) : State := s.setBells { s.bells with zones := s.bells.zones.map (fun p => p.bind Playing.tick) }

/-- The tick at the red lamps (R53). -/
def tickLamps (s : State) : State := s.setLanes (s.lanes.map (fun l => { l with red := l.red - 1 }))

/-- The tick at a release countdown (R121). -/
def tickRelease (l : Lane) (s : State) : State :=
  if (s.door l).status = .released ∧ 1 < (s.door l).release then
    s.setDoor l { s.door l with release := (s.door l).release - 1 }
  else releaseExpiry l s

/-- The tick at a held countdown (R122). -/
def tickHeld (l : Lane) (s : State) : State :=
  if (s.door l).status = .passing ∧ 1 < (s.door l).heldCount then
    s.setDoor l { s.door l with heldCount := (s.door l).heldCount - 1 }
  else heldExpiry l s

/-- The tick at a gap counter (R47). -/
def tickGap (l : Lane) (s : State) : State :=
  if 1 < (s.lane l).gap then s.setLane l { s.lane l with gap := (s.lane l).gap - 1 } else gapExpiry l s

/-- The tick at one lane and its door: a countdown loaded during a tick is first lowered by the next one (log 3). -/
def tickLane (s : State) (l : Lane) : State := tickGap l (tickHeld l (tickRelease l s))

/-- One tick (R4): MAINS-RUN with no start in progress; through a start no countdown runs. -/
def tick (s : State) : State := if running s then allLanes.foldl tickLane (tickLamps (tickZones s)) else s

end Sys2Proof.Machine
end

