-- ==== Sys2Proof/Machine/Lines.lean ====
section
/-! DEFINITION. The levels of the part's pins (R186): which rows of the table a change of the input pins brings, and what the output
pins do. The rows carry what the levels mean; no row carries a level. -/

namespace Sys2Proof.Machine

/-! ## Input pins -/

/-- What stands at an input pin. -/
inductive PinLevel where
  | low
  | high
  | openCircuit
  deriving DecidableEq, Repr

/-- The emergency line is asserted while low, and an open circuit is taken as asserted (R186). -/
def emergencyAsserted : PinLevel → Bool
  | .low => true
  | .high => false
  | .openCircuit => true

/-- The reset line is asserted while low, and an open circuit is taken as released (R186). -/
def resetAsserted : PinLevel → Bool
  | .low => true
  | .high => false
  | .openCircuit => false

/-- A reader or sensor input is taken as low. An open circuit stands for the resting level, which R186 does not name (log 36). -/
def takenLow (i : Config.LaneInput) (l : Lane) : PinLevel → Bool
  | .low => true
  | .high => false
  | .openCircuit => Config.restsLow i l

/-- A falling edge at a reader or sensor input. -/
def falls (i : Config.LaneInput) (l : Lane) (before after : PinLevel) : Bool := !takenLow i l before && takenLow i l after

/-- The door contact shows open while its pin is high (R186). -/
def showsOpen (l : Lane) (level : PinLevel) : Bool := !takenLow .doorContact l level

/-- The input pins of a lane (TABLE 11-11). -/
structure LanePins where
  readerClock : PinLevel
  readerData : PinLevel
  passagePulse : PinLevel
  doorContact : PinLevel
  deriving DecidableEq, Repr

/-- The input pins of the gate side: the two input lines and the lanes (TABLE 11-11). -/
structure InputPins where
  emergency : PinLevel
  reset : PinLevel
  lanes : Vector LanePins 4
  deriving DecidableEq, Repr

/-! ## The rows a change of level brings -/

/-- The emergency line asserts or releases (R130, R131). -/
def emergencyRows (before after : PinLevel) : List Instr :=
  match emergencyAsserted before, emergencyAsserted after with
  | false, true => [.emergencyAssert]
  | true, false => [.emergencyRelease]
  | false, false => []
  | true, true => []

/-- The reset line asserts; its release has no effect (R15). -/
def resetRows (before after : PinLevel) : List Instr :=
  if !resetAsserted before && resetAsserted after then [.resetAssert] else []

/-- The reader clock is taken on its falling edge, and the bit is 1 when the data line is low at that edge (R46, R186). -/
def readerRows (l : Lane) (before after data : PinLevel) : List Instr :=
  if falls .readerClock l before after then [.readerClockPulse l (takenLow .readerData l data)] else []

/-- A passage pulse is taken on its falling edge (R186). -/
def passageRows (l : Lane) (before after : PinLevel) : List Instr :=
  if falls .passagePulse l before after then [.rotationPulse l] else []

/-- The door contact opens or closes (R119). -/
def contactRows (l : Lane) (before after : PinLevel) : List Instr :=
  match showsOpen l before, showsOpen l after with
  | false, true => [.contactOpening l]
  | true, false => [.contactClosing l]
  | false, false => []
  | true, true => []

/-- The rows of a lane's pins. -/
def LanePins.rows (l : Lane) (before after : LanePins) : List Instr :=
  readerRows l before.readerClock after.readerClock after.readerData ++
    passageRows l before.passagePulse after.passagePulse ++ contactRows l before.doorContact after.doorContact

/-- The rows that a change of the input pins brings. Pins that change together may be taken in any order (R46, R119); this is one. -/
def InputPins.rows (before after : InputPins) : List Instr :=
  emergencyRows before.emergency after.emergency ++ resetRows before.reset after.reset ++
    allLanes.flatMap (fun l => (vget before.lanes l).rows l (vget after.lanes l))

/-- State holds of the input levels what a start samples (R134): whether the emergency line is asserted, and which contacts show
open. -/
def Pins.reads (p : Pins) (x : InputPins) : Prop :=
  p.emergencyLine = emergencyAsserted x.emergency ∧ ∀ l, vget p.contactOpen l = showsOpen l (vget x.lanes l).doorContact

/-! ## Output pins -/

/-- The outputs of the gate side (TABLE 11-11). -/
inductive OutputPin where
  | door (l : Lane)
  | greenLamp (l : Lane)
  | redLamp (l : Lane)
  | zone (z : Zone)
  | readyGreen
  | readyRed
  deriving DecidableEq, Repr

/-- An output is on. -/
def OutputPin.isOn (s : State) : OutputPin → Bool
  | .door l => doorOutput s l
  | .greenLamp l => Sys2Proof.Machine.greenLamp s l
  | .redLamp l => Sys2Proof.Machine.redLamp s l
  | .zone z => zoneOutput s z
  | .readyGreen => decide (readyLamp s = .green)
  | .readyRed => decide (readyLamp s = .red)

/-- An output is on while it sinks current, and sinks none in BATTERY-HOLD (R186). -/
def OutputPin.sinks (s : State) (o : OutputPin) : Bool := decide (s.time.power = .mainsRun) && o.isOn s

/-- How often the attention line of a port is driven low from one state to the next (R182, R186): an open-drain output, which
BATTERY-HOLD leaves released. The pulses are the model's own count (log 10). -/
def attentionLows (p : Port) (before after : State) : Nat :=
  if after.time.power = .mainsRun then (after.portState p).pulses - (before.portState p).pulses else 0

end Sys2Proof.Machine
end

