-- ==== Sys2Proof/Machine/Sharing.lean ====
section
/-! DEFINITION. The exchange memory shared word by word (R170, R178): a turn of the engine whose word accesses are granted among those
of the two ports, in the arbiter's cycle. The row ENGINE_TURN is the turn with no port's access between (log 9). -/

namespace Sys2Proof.Machine

/-! ## Requests for one access -/

/-- A word access that a port asks for: a write of a word, or a read. -/
structure WordAccess where
  addr : BitVec 13
  write : Option Word
  deriving DecidableEq, Repr

/-- What the two ports ask for while the engine asks for its next access. -/
structure Asking where
  bus : Option WordAccess
  link : Option WordAccess
  deriving DecidableEq, Repr

/-- No port asks. -/
def Asking.nobody : Asking := { bus := none, link := none }

/-- Who asks, the engine among them. -/
def Asking.asks (k : Asking) : Requester → Bool
  | .bus => k.bus.isSome
  | .link => k.link.isSome
  | .engine => true

/-- A port's access, granted and taken whole (R170). -/
def portTakes (p : Port) (x : WordAccess) (s : State) : State :=
  match x.write with
  | some v => portWrite p x.addr v s
  | none => (portFetch p x.addr s).2

/-- The access that a port asks for, if it asks. -/
def Asking.take (k : Asking) (p : Port) (s : State) : State :=
  match p with
  | .bus => k.bus.elim s (fun x => portTakes .bus x s)
  | .link => k.link.elim s (fun x => portTakes .link x s)

/-- The grants up to the engine's own (R170): the arbiter goes through its cycle from the requester it granted last, and before the
engine each port is granted once at the most. -/
def grantToEngine : Nat → Asking → State → State
  | 0, _, s => access .engine s
  | n + 1, k, s =>
    match arbiterGrant s.control.arbiter k.asks with
    | some .bus => grantToEngine n { k with bus := none } (k.take .bus s)
    | some .link => grantToEngine n { k with link := none } (k.take .link s)
    | _ => access .engine s

/-- The engine is granted its next access after two others at the most (R170). -/
def engineAccess (ks : List Asking) (s : State) : State := grantToEngine 2 (ks.headD .nobody) s

/-! ## The engine's words, one access each -/

/-- The engine reads words: each as it stands at its grant (R178 step 1), what the ports ask for meanwhile being `ks`. -/
def readWords : List Nat → List Asking → State → List Word × List Asking × State
  | [], ks, s => ([], ks, s)
  | a :: rest, ks, s =>
    let s1 := engineAccess ks s
    let r := readWords rest ks.tail s1
    (memRead s1.memory a :: r.1, r.2)

/-- The engine writes words, one access each (R178 step 3). -/
def writeWords : List (Nat × Word) → List Asking → State → List Asking × State
  | [], ks, s => (ks, s)
  | w :: rest, ks, s =>
    let s1 := engineAccess ks s
    writeWords rest ks.tail (s1.setMemory (memWrite s1.memory w.1 w.2))

/-! ## A block served word by word (R178) -/

/-- The sixteen words of a block, as read. -/
def blockOf (ws : List Word) : Block :=
  { code := ws.getD 0 0, notice := ws.getD 2 0, link := ws.getD 4 0, mode := ws.getD 5 0
    buffer := ⟨ws.getD 6 0, ws.getD 7 0⟩, operands := (List.range 8).map (fun i => ws.getD (8 + i) 0) }

/-- How many words of its buffer the engine reads as operands of a block (R33, R82, R86, R179): none where the buffer check of the
command refuses it. -/
def operandWords (b : Block) : Nat :=
  let wanted := match commandOf b.code with
    | some .loadRecord => 10
    | some .writeShift => 15
    | some .writeHolidays => min (b.operands.getD 0 0).toNat 32
    | some cmd => if cmd.namesBuffer then 0 else if b.mode = 1 then 8 else 0
    | none => 0
  if checkBuffer b.buffer wanted = none then wanted else 0

/-- The words of a block's results in the order of their writing (R178 step 3). -/
def resultWrites (a : Nat) (b : Block) (r : Reply) : List (Nat × Word) :=
  (r.out.zipIdx).map (fun p => (bufferAddr b.buffer p.2, p.1)) ++ blockWrites a r

/-- A block at a valid address, served word by word among the ports' accesses `ks` (R178): the block is read, then its operands, the
command acts whole on the words as read, and the results are written. -/
def serveBlockAmong (ks : List Asking) (c : Channel) (chain : Chain) (s : State) : State :=
  let a := chain.next.toNat
  let block := readWords ((List.range 16).map (a + ·)) ks s
  let b := blockOf block.1
  let places := (List.range (operandWords b)).map (bufferAddr b.buffer)
  let operands := readWords places block.2.1 block.2.2
  let s1 := operands.2.2
  let done := carryOut b chain.origin (s1.setMemory (memWriteAll s1.memory (places.zip operands.1)))
  let s2 := (writeWords (resultWrites a b done.2) operands.2.1 (done.1.setMemory s1.memory)).2
  let s3 := noticeSet (portSetOfWord b.notice) .channelWord (c.val + 8) s2
  continueChain c b.link (decide (done.2.code = .done)) chain s3

/-- One turn of the engine among the ports' accesses `ks`. -/
def engineTurnAmong (ks : List Asking) (s : State) : State := turnWith (serveBlockAmong ks) s

end Sys2Proof.Machine
end

