-- ==== Sys2Proof/Safety.lean ====
section
/-! DEFINITION. The laws of the machine that claims speak of: what every run from reset keeps. Each is a property of one state. -/

namespace Sys2Proof.Machine

/-! ## Time base (TABLE 1-1, R9, R13) -/

/-- The clock's fields, the slew remainder and the hold duration lie in their ranges (TABLE 1-1, R9, R13); a short minute has no
second 59 (R5). -/
structure ClockLaw (t : TimeBase) : Prop where
  day : t.clock.day ≤ 65535
  minute : t.clock.minute ≤ 1439
  second : t.clock.second ≤ 59
  short : t.minuteLength = .short → t.clock.second ≤ 58
  repeated : t.minuteLength = .longRepeated → t.clock.second = 59
  epoch : t.epochWeekday ≤ 6
  slewLow : -3600 ≤ t.slew
  slewHigh : t.slew ≤ 3600
  hold : t.holdDuration ≤ Config.holdLimit

/-! ## Ports and channels (R178, R182) -/

/-- An armed port has an empty summary (R182). -/
def ArmedLaw (s : State) : Prop :=
  ∀ p, (s.portState p).armed = true → (s.portState p).channelSummary = 0 ∧ (s.portState p).eventSummary = 0

/-- A channel's queue holds at most 4 entries, a chain in progress has run 1 to 256 blocks (R178, TABLE 10-2). -/
def ChannelLaw (s : State) : Prop :=
  ∀ c, (s.channel c).queue.length ≤ 4 ∧ ∀ k ∈ (s.channel c).chain, 1 ≤ k.count ∧ k.count ≤ 256

/-! ## Doors (R118, R132) -/

/-- While lockdown is set no lane is RELEASED (R118), and a lane that the emergency has freed is FREE. -/
def LockdownLaw (s : State) : Prop :=
  (s.gate.lockdown = true → ∀ l, (s.door l).status ≠ .released) ∧ ∀ l, (s.door l).freed = true → (s.door l).status = .free

/-- The window length is 0–60 minutes and its countdown 0–3,600 seconds (R132, R133). -/
def WindowLaw (s : State) : Prop := s.gate.windowLength ≤ 60 ∧ s.gate.windowCountdown ≤ 3600

/-! ## Lanes (R47, R50) -/

/-- A lane's assembly holds at most 36 bits, its gap counter runs (1–3) exactly while it holds any (R47), and it holds a waiting
read only while it holds a pending passage (R50). -/
def LaneLaw (l : LaneState) : Prop :=
  l.bits.length ≤ 36 ∧ l.gap ≤ 3 ∧ (0 < l.gap ↔ l.bits ≠ []) ∧ (l.waiting.isSome = true → l.pending.isSome = true)

/-! ## Roster (R22–R25) -/

/-- The records' sites in number s. -/
def siteCount (records : List (Slot × Record)) (site : Fin 64) : Nat :=
  (records.filter (fun p => decide (siteNumber p.2.key = site))).length

/-- The records stand in slot order, the index in key order with exactly one entry for each record, the census counts the records
of each site and the count of occupied slots counts them all (R22, R23, R25). -/
structure RosterLaw (r : Roster) : Prop where
  slots : r.records.Pairwise (fun p q => p.1 < q.1)
  keys : r.index.Pairwise (fun x y => x.key.rank < y.key.rank)
  indexed : ∀ a rec, (a, rec) ∈ r.records → ⟨rec.key, a⟩ ∈ r.index
  backed : ∀ e ∈ r.index, ∃ rec, (e.slot, rec) ∈ r.records ∧ rec.key = e.key
  census : ∀ site, vget r.census site = siteCount r.records site
  occupied : r.occupied = r.records.length

/-! ## Totals (R98) -/

/-- No figure of a totals set exceeds its limit (R98). -/
structure TotalsLaw (t : Totals) : Prop where
  regular : t.regular ≤ 65535
  overtime : t.overtime ≤ 65535
  night : t.night ≤ 65535
  holiday : t.holiday ≤ 65535
  pay : t.pay ≤ 4294967295
  closed : t.closed ≤ 65535
  exceptions : t.exceptions ≤ 65535

/-- Every record's two totals sets obey their limits. -/
def AllTotalsLaw (s : State) : Prop := ∀ p ∈ s.roster.records, TotalsLaw p.2.current ∧ TotalsLaw p.2.previous

/-! ## Attendance list (R28, R106) -/

/-- x may stand before y: its deadline is not later, and no deadline is the latest (R106). -/
def Attendance.notAfter (x y : Attendance) : Prop :=
  match x.deadline, y.deadline with
  | some a, some b => a ≤ b
  | _, none => True
  | none, some _ => False

/-- The list stands in deadline order (R106). -/
def OrderLaw (s : State) : Prop := s.attendance.Pairwise Attendance.notAfter

/-- A punch kind fits a record's presence: a punch that will open finds it OUT, one that will close finds it IN. -/
def PunchKind.fits (k : PunchKind) (p : Presence) : Prop :=
  match k with
  | .inPunch | .inUnscheduled => p = .out
  | .outPunch | .outUnscheduled => p = .inside
  | .reEntry | .exitAgain | .untimedGrant => True

/-- A pending passage of lane l belongs to a record that is pending there, and its punch kind fits the record's presence (R29). -/
def PendingLaw (s : State) : Prop :=
  ∀ l p, (s.lane l).pending = some p →
    ∃ r, s.record p.slot = some r ∧ r.pendingLane = some l ∧ p.kind.fits r.presence

/-- A record is IN exactly when the list holds an entry of its slot, and the list holds at most one entry of a slot (R28). -/
structure PresenceLaw (s : State) : Prop where
  single : (s.attendance.map Attendance.slot).Nodup
  present : ∀ e ∈ s.attendance, ∃ r, s.record e.slot = some r ∧ r.presence = .inside
  listed : ∀ a r, s.record a = some r → r.presence = .inside → a ∈ s.attendance.map Attendance.slot
  pending : PendingLaw s

/-- The present count mirror is the list's length once a start has ended (R106, R117). -/
def MirrorLaw (s : State) : Prop := running s = true → s.control.presentMirror = s.attendance.length

/-! ## Pay tables (R82, R84, R86) -/

/-- The holiday list holds at most 32 day numbers, ascending, without duplicates (R86). -/
def HolidayLaw (s : State) : Prop :=
  s.pay.holidays.length ≤ 32 ∧ s.pay.holidays.Pairwise (· < ·) ∧ ∀ d ∈ s.pay.holidays, d ≤ 65535

/-! ## Journal (R153, R156, R159) -/

/-- The entries issue their numbers without a hole: each begins where the one before ends, and the last ends at w. -/
def Tiles : List Entry → Seq → Seq → Prop
  | [], f, w => f = w
  | e :: rest, f, w => e.seq = f ∧ Tiles rest e.next w

/-- The newest entry is a GAP. -/
def NewestGap (es : List Entry) : Prop := ∃ e n, es.getLast? = some e ∧ e.body.extra = .gapCount n

/-- The numbers of an entry all lie before the number q, seen from the write point w (R156, R157). -/
def Entry.liesBefore (w q : Seq) (e : Entry) : Prop := (w - q).toNat < (w - (e.seq + BitVec.ofNat 32 e.covers - 1)).toNat

/-- The retained entries cover the numbers from F to W without a hole, each at least one (R153, R156); they occupy at most 65,536
words, and 8 words stay free for a GAP while none is open (R158, R159); an open GAP is the newest entry (R159). An enabled cursor lies
from F to W, a disabled one stands at W, and the oldest entry still holds a number that the earlier enabled cursor has not passed
(R157). `span` follows from R159 and the ring's size: no counted drop passes 2,147,483,647, and the ring holds few entries. -/
structure JournalLaw (j : Journal) : Prop where
  tiles : Tiles j.entries j.freePoint j.writePoint
  counts : ∀ e ∈ j.entries, 1 ≤ e.covers
  span : (j.entries.map Entry.covers).sum ≤ 2147483647 + j.entries.length
  room : j.occupied ≤ 65536
  reserve : j.openGap = false → j.occupied + 8 ≤ 65536
  gap : j.openGap = true → NewestGap j.entries
  cursors : ∀ p, if (j.consumer p).enabled = true then
      (j.writePoint - (j.consumer p).cursor).toNat ≤ (j.writePoint - j.freePoint).toNat
    else (j.consumer p).cursor = j.writePoint
  oldest : ∀ e ∈ j.entries.head?, ¬ e.liesBefore j.writePoint j.earliest

/-- The journal k keeps of j what its earlier enabled cursor has not passed, and nothing else (R157): the entries whose numbers all lie
before it are freed, and the free point is the first number kept, or W. -/
def Journal.freedTo (j k : Journal) : Prop :=
  ∃ freed, j.entries = freed ++ k.entries ∧ (∀ e ∈ freed, e.liesBefore k.writePoint k.earliest) ∧
    (∀ e ∈ k.entries.head?, ¬ e.liesBefore k.writePoint k.earliest) ∧
    k.freePoint = (match k.entries with | [] => k.writePoint | e :: _ => e.seq) ∧ k.writePoint = j.writePoint ∧
    k.openGap = (j.openGap && !k.entries.isEmpty)

/-! ## Terms of the statements -/

/-- The state with a reply handed back. -/
def State.answering (s : State) (r : Reply) : State := { s with reply := some r }

/-- The state with a reply handed back and its output words in a buffer (R178 step 3). -/
def State.writing (s : State) (b : Buffer) (r : Reply) : State :=
  { s with memory := writeBuffer s.memory b r.out, reply := some r }

/-- The words a buffer of n words holds. -/
def State.bufferHolds (s : State) (b : Buffer) (words : List Word) : Prop :=
  bufferWords s.memory b words.length = words

/-- A buffer that a command takes for n words: it starts in pages 1–31 and has room for them (R179). -/
def bufferFits (b : Buffer) (n : Nat) : Prop :=
  0x100 ≤ b.addr.toNat ∧ b.addr.toNat < 0x2000 ∧ n ≤ min b.len.toNat 256

/-- A buffer that a command refuses where it needs n words, and the refusal (R33, R179): BAD-BUFFER where it starts outside pages 1–31,
else BUFFER-SHORT where it has no room for them. -/
def bufferRefused (b : Buffer) (n : Nat) (r : Response) : Prop :=
  (¬ (0x100 ≤ b.addr.toNat ∧ b.addr.toNat < 0x2000) ∧ r = .badBuffer) ∨
    (0x100 ≤ b.addr.toNat ∧ b.addr.toNat < 0x2000 ∧ min b.len.toNat 256 < n ∧ r = .bufferShort)

/-- Of the operands of a command, each with what its range asks, the one of index n is the first out of range (R8, R33, R44). -/
def firstOut (inRange : List Prop) (n : Nat) : Prop :=
  (∃ p, inRange[n]? = some p ∧ ¬ p) ∧ ∀ m, m < n → ∀ p, inRange[m]? = some p → p

/-- What the range of each word of a load image asks, in word order (R33 check 3). -/
def LoadImage.ranges (i : LoadImage) : List Prop :=
  [i.site.toNat ≤ 63, i.numberHigh.toNat ≤ 3, True, i.issue.toNat ≤ 15, True, True, i.shift.toNat ≤ 15 ∨ i.shift = 0xFFFF,
   i.payClass.toNat ≤ 15, i.permissions.toNat ≤ 15, i.flags.toNat ≤ 3]

/-- A load image in range (R33 check 3). -/
def LoadImage.inRange (i : LoadImage) : Prop :=
  i.site.toNat ≤ 63 ∧ i.numberHigh.toNat ≤ 3 ∧ i.issue.toNat ≤ 15 ∧ (i.shift.toNat ≤ 15 ∨ i.shift = 0xFFFF) ∧
    i.payClass.toNat ≤ 15 ∧ i.permissions.toNat ≤ 15 ∧ i.flags.toNat ≤ 3

/-- The configuration fields of a load image in a record (R34). -/
def LoadImage.sets (i : LoadImage) (r : Record) : Record :=
  { r with
    issue := BitVec.ofNat 4 i.issue.toNat
    employee := i.employeeHigh ++ i.employeeLow
    shift := if i.shift = 0xFFFF then none else some (Fin.ofNat 16 i.shift.toNat)
    payClass := Fin.ofNat 16 i.payClass.toNat
    permissions := BitVec.ofNat 4 i.permissions.toNat
    suspended := i.flags.getLsbD 0
    exempt := i.flags.getLsbD 1 }

/-- A record rolled over to period p (R101). -/
def Record.rolled (p : Nat) (r : Record) : Record :=
  if r.current.period = p then r
  else if r.current.period = (p + 65535) % 65536 then { r with previous := r.current, current := Totals.zero p }
  else { r with previous := Totals.zero ((p + 65535) % 65536), current := Totals.zero p }

/-- The last second of a minute but for a long minute's second 59 (R5). -/
def MinuteLength.last : MinuteLength → Nat
  | .short => 58
  | _ => 59

/-- The crystal second after which a minute begins (R1, R5). -/
def TimeBase.atMinuteEnd (t : TimeBase) : Prop :=
  (t.minuteLength = .ordinary ∧ t.clock.second = 59) ∨ (t.minuteLength = .short ∧ t.clock.second = 58) ∨
    t.minuteLength = .longRepeated

/-- The time base after a minute has begun by counting, as R1, R5 and R6 give it. -/
def TimeBase.afterMinute (t : TimeBase) : TimeBase :=
  { t with
    clock :=
      if t.clock.minute = 1439 then ⟨if t.clock.day = 65535 then 65535 else t.clock.day + 1, 0, 0⟩
      else ⟨t.clock.day, t.clock.minute + 1, 0⟩
    dayLimit := t.dayLimit || (decide (t.clock.minute = 1439) && decide (t.clock.day = 65535))
    minuteLength := if 0 < t.slew then .short else if t.slew < 0 then .long else .ordinary
    slew := if 0 < t.slew then t.slew - 1 else if t.slew < 0 then t.slew + 1 else 0 }

/-- n ticks of a zone player. -/
def ticksOf : Nat → Option Playing → Option Playing
  | 0, p => p
  | n + 1, p => ticksOf n (p.bind Playing.tick)

/-- A lane with nothing that a tick brings to 0 (R47, R121, R122). -/
def noExpiry (s : State) (l : Lane) : Prop :=
  (s.lane l).gap ≠ 1 ∧ (s.door l).release ≠ 1 ∧ (s.door l).heldCount ≠ 1

/-- The rest of the gate's state is the same. -/
def sameGateBut (l : Lane) (s t : State) : Prop :=
  t.gate = { s.gate with doors := t.gate.doors } ∧ ∀ m, m ≠ l → t.door m = s.door m

/-- A valid frame stands in the assembly of lane l, whose context is empty, and its badge finds the record r of slot a, which passes
checks 1 to 5 there (R61, R62). -/
def frameFinds (s : State) (l : Lane) (a : Slot) (r : Record) : Prop :=
  running s = true ∧ (s.lane l).config.mode ≠ .disabled ∧ frameValid (s.lane l).bits = true ∧ (s.lane l).pending = none ∧
    RosterLaw s.roster ∧ s.record a = some r ∧ frameBadge (s.lane l).bits = ⟨r.key, r.issue⟩ ∧ r.suspended = false ∧
    r.permissions.getLsbD l.val = true

/-- Absolute minute t lies in the instance of day d of shift k, which is enabled on that weekday (R70). -/
def inInstance (s : State) (k : ShiftNumber) (d t : Nat) : Prop :=
  (vget s.pay.shifts k).enabled = true ∧ (vget s.pay.shifts k).dayMask.getLsbD ((d + s.time.epochWeekday) % 7) = true ∧
    d * 1440 + (vget s.pay.shifts k).start ≤ t + (vget s.pay.shifts k).earlyWindow ∧
    t < d * 1440 + (vget s.pay.shifts k).start + (vget s.pay.shifts k).length

/-- An in-punch of an absolute minute t of day day with shift choice k belongs to instance sd, or to none (R70). -/
def choosesInstance (s : State) (k : Option ShiftNumber) (day t : Nat) (sd : Option ShiftDay) : Prop :=
  match k, sd with
  | none, none => True
  | some k, none => ¬ inInstance s k day t ∧ (0 < day → ¬ inInstance s k (day - 1) t)
  | some k, some d =>
    d.shift = k ∧ inInstance s k d.day t ∧ (d.day = day ∨ (¬ inInstance s k day t ∧ 0 < day ∧ d.day + 1 = day))
  | none, some _ => False

/-- A short entry of a lane with a badge, taken at a read time (R154). -/
def laneEntry (kind : EntryKind) (l : Lane) (a : Slot) (badge : Badge) (time : Time) (flags : EntryFlags) (kindWord : Nat) :
    EntryBody :=
  { kind, lane := some l, time, slot := some a, badge := some badge, flags, kindWord, extra := .none }

/-- A short entry without slot and badge, at the clock (R154). -/
def gateEntry (kind : EntryKind) (lane : Option Lane) (time : Time) (flags : EntryFlags) : EntryBody :=
  { kind, lane, time, slot := none, badge := none, flags, kindWord := 0, extra := .none }

/-- The flag of the port a command came from (R179). -/
def originOf (p : Port) : EntryFlags := { originBus := decide (p = .bus), originLink := decide (p = .link) }

/-- The grant of the frame in lane l's assembly, at a LOCKED door: the pending passage, the record's pending lane and the door's
release countdown, and nothing else (R52, R120). -/
def grantedAt (s : State) (l : Lane) (a : Slot) (r : Record) (kind : PunchKind) (softPassback : Bool) (direction : Direction)
    (shiftDay : Option ShiftDay) : Prop :=
  ∃ t, exec (.frameArrival l .gap) s = .next t ∧
    t.lane l =
      { s.lane l with
        bits := [], gap := 0
        pending := some
          { slot := a, badge := ⟨r.key, r.issue⟩, kind, softPassback, direction, shiftDay, readTime := s.time.clock
            reportDue := false } } ∧
    (∀ m, m ≠ l → t.lane m = s.lane m) ∧
    t.door l = { s.door l with status := .released, release := (s.lane l).config.releaseTime * 10, heldCount := 0 } ∧
    sameGateBut l s t ∧ t.record a = some { r with pendingLane := some l } ∧ (∀ b, b ≠ a → t.record b = s.record b) ∧
    t = { s with lanes := t.lanes, gate := t.gate, roster := { s.roster with records := t.roster.records } }

/-- The frame in lane l's assembly is refused with a reason's code: a DENIED entry, the red lamp loaded, and nothing else (R73, R53). -/
def refusedAt (s : State) (l : Lane) (a : Slot) (code : Nat) : Prop :=
  ∃ t, exec (.frameArrival l .gap) s = .next t ∧
    t.lane l = { s.lane l with bits := [], gap := 0, red := (s.lane l).config.releaseTime * 10 } ∧
    (∀ m, m ≠ l → t.lane m = s.lane m) ∧
    t = { appendEntry (laneEntry .denied l a (frameBadge (s.lane l).bits) s.time.clock {} code) s with lanes := t.lanes }

/-- One exception added to a record's current totals, after its rollover (R99). -/
def Record.excepted (p : Nat) (r : Record) : Record :=
  { r.rolled p with
    current :=
      { (r.rolled p).current with
        exceptions := min ((r.rolled p).current.exceptions + 1) 65535
        saturated := (r.rolled p).current.saturated || decide (65535 < (r.rolled p).current.exceptions + 1) } }

/-- The list with e inserted after every entry whose deadline is not later and before every later one (R106). -/
def insertedIn (e : Attendance) (before after : List Attendance) : Prop :=
  ∃ front back, before = front ++ back ∧ after = front ++ e :: back ∧ (∀ x ∈ front, x.notAfter e) ∧
    ∀ x ∈ back.head?, ¬ x.notAfter e

/-- A zone takes a request of pattern n (R142, R145): the pattern is not silent, a locked zone takes pattern 7 only, and nothing of a
higher priority plays there. -/
def Bells.accepts (b : Bells) (z : Zone) (n : PatternNumber) : Prop :=
  (vget b.patterns n).period ≠ 0 ∧ (n = 7 ∨ b.locked.getLsbD z.val = false) ∧
    ∀ q ∈ vget b.zones z, q.copy.priority ≤ (vget b.patterns n).priority

/-- A zone playing pattern n from its first tick (R142, R144). -/
def Bells.started (b : Bells) (n : PatternNumber) (source : ZoneSource) : Playing :=
  { pattern := n, copy := vget b.patterns n, source, phase := .stroke, counter := (vget b.patterns n).period
    strokesLeft := (vget b.patterns n).strokes, groupsLeft := (vget b.patterns n).groups }

/-- The zones after a request of pattern n at each zone of a mask (R145, R146, R147): each zone that accepts it starts the pattern, every
other zone plays on. -/
def requested (mask : BitVec 8) (n : PatternNumber) (source : ZoneSource) (b c : Bells) : Prop :=
  c = { b with zones := c.zones } ∧
    ∀ z,
      (mask.getLsbD z.val = true → b.accepts z n → vget c.zones z = some (b.started n source)) ∧
      (¬ (mask.getLsbD z.val = true ∧ b.accepts z n) → vget c.zones z = vget b.zones z)

/-- The zones after those that play under a condition went to IDLE. -/
def stopped (stop : Zone → Playing → Prop) (b c : Bells) : Prop :=
  c = { b with zones := c.zones } ∧
    ∀ z,
      (∀ q ∈ vget b.zones z, stop z q → vget c.zones z = none) ∧
      ((∀ q ∈ vget b.zones z, ¬ stop z q) → vget c.zones z = vget b.zones z)

/-- The door of a lane put to LOCKED, or to PASSING where its CONTACT sensor shows open (R124). -/
def Door.shut (d : Door) (c : LaneConfig) : Door :=
  if c.sensor = .contact ∧ d.contactOpen = true then
    { d with status := .passing, release := 0, heldCount := c.heldLimit * 100, heldBell := false }
  else { d with status := .locked, release := 0, heldCount := 0 }

/-- The attendance that opens for a slot at a time, with an instance or without (R74, R104, R105). -/
def PayTables.opens (pt : PayTables) (a : Slot) (sd : Option ShiftDay) (tIn : Time) : Attendance :=
  match sd with
  | none => { slot := a, schedule := none, tIn, deadline := some (tIn.day * 1440 + tIn.minute + 960) }
  | some d =>
    { slot := a, tIn
      schedule := some
        ⟨d.shift, d.day, d.day * 1440 + (vget pt.shifts d.shift).start,
          d.day * 1440 + (vget pt.shifts d.shift).start + (vget pt.shifts d.shift).length⟩
      deadline :=
        if (vget pt.shifts d.shift).autoCloseDelay = 0 then none
        else some (d.day * 1440 + (vget pt.shifts d.shift).start + (vget pt.shifts d.shift).length +
          (vget pt.shifts d.shift).autoCloseDelay) }

/-- A CORRECTION entry's body (R112–R115). -/
def correctionEntry (origin : Port) (code : Nat) (a : Slot) (r : Record) (scheduled : Bool) (time : Time) (flags : EntryFlags)
    (extra : EntryExtra) : EntryBody :=
  { kind := .correction, lane := none, time, slot := some a, badge := some ⟨r.key, r.issue⟩
    flags := { flags with originBus := decide (origin = .bus), originLink := decide (origin = .link) }
    kindWord := code + if scheduled then 0 else 4
    extra }

/-- FORCE OUT and FORCE IN with the same operands are both answered r, and nothing else changes (R112). -/
def bothForced (s : State) (origin : Port) (selector ref0 ref1 ref2 day minute second : Word) (r : Reply) : Prop :=
  exec (.forceOut origin selector ref0 ref1 ref2 day minute second) s = .next (s.answering r) ∧
    exec (.forceIn origin selector ref0 ref1 ref2 day minute second) s = .next (s.answering r)

/-- A shift definition as fifteen words (R82). -/
def ShiftDef.words (number : Word) (sh : ShiftDef) : List Word :=
  [number, word (bit sh.enabled), word sh.start, word sh.length, word sh.earlyWindow, word sh.graceIn, word sh.graceOut,
   word sh.unit, word sh.meal, word sh.mealThreshold, word sh.overtimeThreshold, word sh.nightStart, word sh.nightEnd,
   word sh.dayMask.toNat, word sh.autoCloseDelay]

/-- A selector and a reference name the record r of slot a: by its slot number, or by its key (R35). -/
def refersTo (selector ref0 ref1 ref2 : Word) (a : Slot) (r : Record) : Prop :=
  (selector = 1 ∧ ref0 = word a.val) ∨
    (selector = 0 ∧ ref0.toNat = r.key.site.toNat ∧ ref1.toNat * 65536 + ref2.toNat = r.key.number.toNat)

/-- The index of the first word of a selector and a reference that is out of range, `base` being the selector's (R35, R112). -/
def badReference (base : Nat) (selector ref0 ref1 : Word) : Option Nat :=
  if selector = 0 then
    if 63 < ref0.toNat then some (base + 1) else if 3 < ref1.toNat then some (base + 2) else none
  else if selector = 1 then if 2047 < ref0.toNat then some (base + 1) else none
  else some base

/-- A selector and a reference in range that name no record: a free slot, or a key that no record bears (R35). -/
def refersNowhere (s : State) (selector ref0 ref1 ref2 : Word) : Prop :=
  badReference 0 selector ref0 ref1 = none ∧ ∀ a r, s.record a = some r → ¬ refersTo selector ref0 ref1 ref2 a r

/-- A listed attendance that the sweep of a minute event closes (R107, R109): its deadline is a number not above the minute, and its
record is not pending. -/
def Attendance.closesAt (s : State) (minute : Nat) (e : Attendance) : Prop :=
  (∃ d ∈ e.deadline, d ≤ minute) ∧ ∀ r ∈ s.record e.slot, r.pendingLane = none

/-- The long AUTO-CLOSE entry of an attendance of record r (R108). -/
def autoCloseEntry (time : Time) (r : Record) (e : Attendance) (f : Figures) : EntryBody :=
  { kind := .autoClose, lane := none, time, slot := some e.slot, badge := some ⟨r.key, r.issue⟩
    flags := { missedOut := f.missedOut, capped := f.capped, holiday := f.holiday }
    kindWord := if e.schedule.isSome then 0 else 4, extra := .closing f }

/-- Schedule entry i fires at a day and minute (R139, R140). -/
def bellFires (s : State) (day minute : Nat) (i : BellIndex) : Prop :=
  (vget s.bells.schedule i).enabled = true ∧
    if (vget s.bells.schedule i).trigger = .clock then
      (vget s.bells.schedule i).minute = minute ∧
        (vget s.bells.schedule i).dayMask.getLsbD ((day + s.time.epochWeekday) % 7) = true ∧
        ((vget s.bells.schedule i).holidayRule = .ring ∨ day ∉ s.pay.holidays)
    else
      (vget s.pay.shifts (vget s.bells.schedule i).shift).enabled = true ∧
        ∃ d, day ≤ d + 1 ∧ d ≤ day + 1 ∧ d ≤ 65535 ∧
          (vget s.pay.shifts (vget s.bells.schedule i).shift).dayMask.getLsbD ((d + s.time.epochWeekday) % 7) = true ∧
          ((vget s.bells.schedule i).holidayRule = .ring ∨ d ∉ s.pay.holidays) ∧
          (d * 1440 + (vget s.pay.shifts (vget s.bells.schedule i).shift).start : Int) +
              (vget s.bells.schedule i).offset +
              (if (vget s.bells.schedule i).trigger = .shiftEnd then
                ((vget s.pay.shifts (vget s.bells.schedule i).shift).length : Int) else 0) =
            day * 1440 + minute

/-- Entry i is a candidate at zone z of a minute event (R141): it fires, names the zone and its pattern is not silent. -/
def bellCandidate (s : State) (day minute : Nat) (z : Zone) (i : BellIndex) : Prop :=
  bellFires s day minute i ∧ (vget s.bells.schedule i).zones.getLsbD z.val = true ∧
    (vget s.bells.patterns (vget s.bells.schedule i).pattern).period ≠ 0

/-- What the range of each word of a shift image asks, in image order (R82 check 3). -/
def shiftRanges (w : List Word) : List Prop :=
  [(w.getD 0 0).toNat ≤ 15, (w.getD 1 0).toNat ≤ 1, (w.getD 2 0).toNat ≤ 1439,
   60 ≤ (w.getD 3 0).toNat ∧ (w.getD 3 0).toNat ≤ 960, (w.getD 4 0).toNat ≤ 240, (w.getD 5 0).toNat ≤ 30,
   (w.getD 6 0).toNat ≤ 30, (w.getD 7 0).toNat ∈ [1, 5, 6, 10, 15, 30], (w.getD 8 0).toNat ≤ 120, (w.getD 9 0).toNat ≤ 960,
   (w.getD 10 0).toNat ≤ 960, (w.getD 11 0).toNat ≤ 1439, (w.getD 12 0).toNat ≤ 1439, (w.getD 13 0).toNat ≤ 127,
   (w.getD 14 0).toNat ≤ 720]

/-- The words of a shift image in range (R82 check 3). -/
def shiftInRange (w : List Word) : Prop :=
  (w.getD 0 0).toNat ≤ 15 ∧ (w.getD 1 0).toNat ≤ 1 ∧ (w.getD 2 0).toNat ≤ 1439 ∧ 60 ≤ (w.getD 3 0).toNat ∧
    (w.getD 3 0).toNat ≤ 960 ∧ (w.getD 4 0).toNat ≤ 240 ∧ (w.getD 5 0).toNat ≤ 30 ∧ (w.getD 6 0).toNat ≤ 30 ∧
    (w.getD 7 0).toNat ∈ [1, 5, 6, 10, 15, 30] ∧ (w.getD 8 0).toNat ≤ 120 ∧ (w.getD 9 0).toNat ≤ 960 ∧
    (w.getD 10 0).toNat ≤ 960 ∧ (w.getD 11 0).toNat ≤ 1439 ∧ (w.getD 12 0).toNat ≤ 1439 ∧ (w.getD 13 0).toNat ≤ 127 ∧
    (w.getD 14 0).toNat ≤ 720

/-- A minute of the day lies in a shift's night window (R94). -/
def ShiftDef.inNight (sh : ShiftDef) (m : Nat) : Prop :=
  if sh.nightStart < sh.nightEnd then sh.nightStart ≤ m ∧ m < sh.nightEnd
  else sh.nightStart ≠ sh.nightEnd ∧ (sh.nightStart ≤ m ∨ m < sh.nightEnd)

/-- The ten words of a listed attendance of record r (R111). -/
def Attendance.words (e : Attendance) (r : Record) : List Word :=
  [word e.slot.val, word r.key.site.toNat, word (r.key.number.toNat / 65536), word r.key.number.toNat,
   word ((if e.schedule = none then 1 else 0) + (if r.muster = true then 2 else 0) + (if e.deadline = none then 4 else 0)),
   word e.tIn.day, word e.tIn.minute, word e.tIn.second] ++
    match e.deadline with
    | none => [0, 0]
    | some d => [word (d / 65536), word d]

/-- What a player does when its counter runs out (R144). -/
def Playing.afterCount (q : Playing) : Option Playing :=
  if q.phase = .gap then some { q with phase := .stroke, counter := q.copy.period }
  else if 1 < q.strokesLeft then some { q with counter := q.copy.period, strokesLeft := q.strokesLeft - 1 }
  else if q.copy.groups = 0 ∨ 1 < q.groupsLeft then
    some
      { q with
        strokesLeft := q.copy.strokes
        groupsLeft := if q.copy.groups = 0 then q.groupsLeft else q.groupsLeft - 1
        phase := if q.copy.gap = 0 then .stroke else .gap
        counter := if q.copy.gap = 0 then q.copy.period else q.copy.gap }
  else none

/-- A channel the engine may serve (R177). -/
def ChannelState.waits (ch : ChannelState) : Prop := ch.queue ≠ [] ∨ ch.chain ≠ none

/-- Channel c is the one to serve next: it waits, and none of those counted before it does (R177). -/
def servedNext (s : State) (c : Channel) : Prop :=
  (s.channel c).waits ∧
    ∀ d : Channel, (d - (s.control.lastServed + 1)).val < (c - (s.control.lastServed + 1)).val → ¬ (s.channel d).waits

/-- The address of a block that a turn at channel c takes, with what the channel holds after the block is taken (R177). -/
def takesBlock (ch : ChannelState) (chain : Chain) (left : List Request) : Prop :=
  (∃ k ∈ ch.chain, chain = { k with count := k.count + 1 } ∧ left = ch.queue) ∨
    (ch.chain = none ∧ ∃ r ∈ ch.queue.head?, chain = ⟨r.address, r.origin, 1⟩ ∧ left = ch.queue.tail)

/-! ## How a pending passage ends, and what a classification brings -/

/-- The short entry of a punch resolved by passage (R54), its kind taken from TABLE 11-8. -/
def passageEntry (kind : EntryKind) (l : Lane) (p : PendingPassage) : EntryBody :=
  laneEntry kind l p.slot p.badge p.readTime { softPassback := p.softPassback } 0

/-- The long OUT entry of a closing (R75). -/
def outEntry (l : Lane) (p : PendingPassage) (f : Figures) : EntryBody :=
  { passageEntry .outPunch l p with
    flags := { softPassback := p.softPassback, missedOut := f.missedOut, capped := f.capped, holiday := f.holiday }
    extra := .closing f }

/-- What a resolution changes besides the attendance list: the lane's passage goes, the record becomes `after` with this lane as its
last passage and no pending lane, the entry is appended, and nothing else (R54). -/
def resolvesTo (l : Lane) (p : PendingPassage) (after : Record) (entry : EntryBody) (s t : State) : Prop :=
  (∀ m, t.lane m = if m = l then { s.lane l with pending := none } else s.lane m) ∧
    t.record p.slot = some { after with pendingLane := none, lastPassage := some ⟨l, p.readTime⟩ } ∧
    (∀ b, b ≠ p.slot → t.record b = s.record b) ∧
    t =
      { appendEntry entry s with
        lanes := t.lanes, attendance := t.attendance, roster := { s.roster with records := t.roster.records }
        control := { (appendEntry entry s).control with presentMirror := t.control.presentMirror } }

/-- The pending passage p of record r at lane l resolves by passage, kind by kind (R74, R75, R76, R99). -/
def resolves (l : Lane) (p : PendingPassage) (r : Record) (s t : State) : Prop :=
  match p.kind with
  | .inPunch =>
    insertedIn (s.pay.opens p.slot p.shiftDay p.readTime) s.attendance t.attendance ∧
      t.control.presentMirror = t.attendance.length ∧
      resolvesTo l p { r with presence := .inside } (passageEntry .inPunch l p) s t
  | .inUnscheduled =>
    insertedIn (s.pay.opens p.slot none p.readTime) s.attendance t.attendance ∧
      t.control.presentMirror = t.attendance.length ∧
      resolvesTo l p { r.excepted s.pay.period with presence := .inside } (passageEntry .inUnscheduled l p) s t
  | .outPunch =>
    ∀ e ∈ s.attendance, e.slot = p.slot →
      ∃ f, f = closingFigures s.pay r.payClass e (some (p.readTime.day * 1440 + p.readTime.minute)) ∧
        t.attendance = s.attendance.filter (fun x => decide (x.slot ≠ p.slot)) ∧
        t.control.presentMirror = t.attendance.length ∧
        resolvesTo l p
          { r.rolled s.pay.period with
            current := (r.rolled s.pay.period).current.addClosing f, presence := .out, muster := false }
          (outEntry l p f) s t
  | .outUnscheduled =>
    ∀ e ∈ s.attendance, e.slot = p.slot → e.schedule = none →
      t.attendance = s.attendance.filter (fun x => decide (x.slot ≠ p.slot)) ∧
        t.control.presentMirror = t.attendance.length ∧
        resolvesTo l p
          { r.rolled s.pay.period with
            current := (r.rolled s.pay.period).current.addClosing (closingFigures s.pay r.payClass e none)
            presence := .out, muster := false }
          (passageEntry .outUnscheduled l p) s t
  | .reEntry =>
    t.attendance = s.attendance ∧ t.control.presentMirror = s.control.presentMirror ∧
      resolvesTo l p (if p.softPassback = true then r.excepted s.pay.period else r) (passageEntry .reEntry l p) s t
  | .exitAgain =>
    t.attendance = s.attendance ∧ t.control.presentMirror = s.control.presentMirror ∧
      resolvesTo l p (if p.softPassback = true then r.excepted s.pay.period else r) (passageEntry .exitAgain l p) s t
  | .untimedGrant =>
    t.attendance = s.attendance ∧ t.control.presentMirror = s.control.presentMirror ∧
      resolvesTo l p r (passageEntry .untimedGrant l p) s t

/-- The pending passage p of record r at lane l lapses (R55, R56): no presence, attendance, totals or last passage changes. -/
def lapses (l : Lane) (p : PendingPassage) (r : Record) (emergency : Bool) (s t : State) : Prop :=
  (∀ m, t.lane m = if m = l then { s.lane l with pending := none } else s.lane m) ∧
    t.record p.slot = some { r with pendingLane := none } ∧ (∀ b, b ≠ p.slot → t.record b = s.record b) ∧
    t =
      { appendEntry
          (laneEntry .lapsed l p.slot p.badge p.readTime { softPassback := p.softPassback, emergency }
            (punchKindCode p.kind)) s with
        lanes := t.lanes, roster := { s.roster with records := t.roster.records } }

/-- A read w at lane l is refused with a reason's code (R52, R53, R73). -/
def refusedWith (l : Lane) (w : BadgeRead) (slot : Option Slot) (code : Nat) (s t : State) : Prop :=
  (∀ m, t.lane m = if m = l then { s.lane l with red := (s.lane l).config.releaseTime * 10 } else s.lane m) ∧
    t =
      { appendEntry
          { kind := .denied, lane := some l, time := w.readTime, slot, badge := some w.badge, flags := {}, kindWord := code
            extra := .none } s with
        lanes := t.lanes }

/-- A read w at lane l is a muster of the record r of slot a (R63). -/
def mustered (l : Lane) (w : BadgeRead) (a : Slot) (r : Record) (s t : State) : Prop :=
  t.record a = some { r with muster := true } ∧ (∀ b, b ≠ a → t.record b = s.record b) ∧
    t =
      { appendEntry (laneEntry .muster l a w.badge w.readTime {} 0) s with
        roster := { s.roster with records := t.roster.records } }

/-- The door of a lane after a grant or a manual release (R120). -/
def Door.granted (d : Door) (c : LaneConfig) : Door :=
  if d.status = .locked then { d with status := .released, release := c.releaseTime * 10, heldCount := 0 }
  else if d.status = .released then { d with release := c.releaseTime * 10 }
  else if d.status = .passing then { d with heldCount := c.heldLimit * 100 }
  else d

/-- A read w at lane l is granted (R52, R120): the pending passage, the record's pending lane and the door take it; at a lane without a
sensor or with a FREE door the passage is counted with the grant, and the punch resolves at once. -/
def granted (l : Lane) (w : BadgeRead) (a : Slot) (r : Record) (kind : PunchKind) (softPassback : Bool) (direction : Direction)
    (shiftDay : Option ShiftDay) (s t : State) : Prop :=
  ∃ (p : PendingPassage) (u : State),
    p =
      { slot := a, badge := w.badge, kind, softPassback, direction, shiftDay, readTime := w.readTime
        reportDue := decide ((s.door l).status = .passing) } ∧
    (∀ m, u.lane m = if m = l then { s.lane l with pending := some p } else s.lane m) ∧
    u.door l = (s.door l).granted (s.lane l).config ∧ sameGateBut l s u ∧
    u.record a = some { r with pendingLane := some l } ∧ (∀ b, b ≠ a → u.record b = s.record b) ∧
    u = { s with lanes := u.lanes, gate := u.gate, roster := { s.roster with records := u.roster.records } } ∧
    if (s.lane l).config.sensor = .none ∨ (s.door l).status = .free then resolves l p { r with pendingLane := some l } u t
    else t = u

/-- Checks 9 to 13 of a read w at lane l that passed checks 1 to 8 (R66–R70, R72). -/
def timedOutcome (l : Lane) (w : BadgeRead) (a : Slot) (r : Record) (s t : State) : Prop :=
  if w.untimed = true then granted l w a r .untimedGrant false .none none s t
  else if (s.lane l).config.mode = .entry ∧ r.presence = .inside then
    if 0 < s.gate.windowCountdown ∨ r.exempt = true ∨ (s.lane l).config.passback = .off then
      granted l w a r .reEntry false .inward none s t
    else if (s.lane l).config.passback = .soft then granted l w a r .reEntry true .inward none s t
    else refusedWith l w (some a) 8 s t
  else if (s.lane l).config.mode = .exit ∧ r.presence = .out then
    if r.exempt = true ∨ (s.lane l).config.passback = .off then granted l w a r .exitAgain false .outward none s t
    else if (s.lane l).config.passback = .soft then granted l w a r .exitAgain true .outward none s t
    else refusedWith l w (some a) 8 s t
  else if r.presence = .out then
    ∃ sd, choosesInstance s r.shift w.readTime.day (w.readTime.day * 1440 + w.readTime.minute) sd ∧
      granted l w a r (if sd.isSome then .inPunch else .inUnscheduled) false .inward sd s t
  else
    ∀ e ∈ s.attendance, e.slot = a →
      granted l w a r (if e.schedule.isSome then .outPunch else .outUnscheduled) false .outward none s t

/-- The classification of a read w at a lane l that is not DISABLED: the checks of TABLE 4-2 in their order (R60–R73). -/
def classified (l : Lane) (w : BadgeRead) (s t : State) : Prop :=
  ((∀ e ∈ s.roster.index, e.key ≠ w.badge.key) →
    refusedWith l w none (if ∃ p ∈ s.roster.records, p.2.key.site = w.badge.key.site then 2 else 1) s t) ∧
  ∀ a r, s.record a = some r → r.key = w.badge.key →
    if w.badge.issue ≠ r.issue then refusedWith l w (some a) 3 s t
    else if r.suspended = true then refusedWith l w (some a) 4 s t
    else if r.permissions.getLsbD l.val = false then refusedWith l w (some a) 5 s t
    else if s.gate.emergency = true then mustered l w a r s t
    else if s.gate.lockdown = true then refusedWith l w (some a) 6 s t
    else if r.pendingLane ≠ none then refusedWith l w (some a) 7 s t
    else timedOutcome l w a r s t

/-- After a pending passage ended at lane l, the waiting read, if any, is classified (R57). -/
def thenWaiting (l : Lane) (waiting : Option BadgeRead) (s t : State) : Prop :=
  match waiting with
  | none => t = s
  | some w => classified l w s t

/-- The state with the waiting slot of lane l empty. -/
def State.withoutWaiting (s : State) (l : Lane) : State := s.setLane l { s.lane l with waiting := none }

/-- The records that were pending, in slot order (R41). -/
def pendingRecords (s : State) (lapsed : List (Slot × Record)) : Prop :=
  lapsed.Pairwise (fun p q => p.1 < q.1) ∧ ∀ a r, (a, r) ∈ lapsed ↔ s.record a = some r ∧ r.pendingLane ≠ none

/-- The LAPSED entry of kind UNKNOWN that stage 4 of a start appends for a record (R41). -/
def unknownLapse (flags : EntryFlags) (time : Time) (p : Slot × Record) : EntryBody :=
  { kind := .lapsed, lane := p.2.pendingLane, time, slot := some p.1, badge := some ⟨p.2.key, p.2.issue⟩, flags
    kindWord := 0x3F, extra := .none }

/-- The doors at stage 6 before the emergency line is sampled (R134 steps 1 and 2). -/
def setUpAs (s t : State) : Prop :=
  t.gate = { s.gate with doors := t.gate.doors } ∧
    ∀ l, t.door l =
      { s.door l with
        mode := .normal, freed := false, heldBell := false, release := 0
        contactOpen := vget s.pins.contactOpen l
        status :=
          if s.gate.lockdown = true then .lockdown
          else if (s.lane l).config.sensor = .contact ∧ vget s.pins.contactOpen l = true then .passing else .locked
        heldCount :=
          if s.gate.lockdown = false ∧ (s.lane l).config.sensor = .contact ∧ vget s.pins.contactOpen l = true then
            (s.lane l).config.heldLimit * 100
          else 0 }

/-- One lane at LOCKDOWN (R128 step 3): unless the emergency has freed it the door goes to LOCKDOWN and ends its held alarm, a pending
passage lapses and the waiting read is classified. -/
def goesDown (l : Lane) (s t : State) : Prop :=
  if (s.door l).freed = true then t = s
  else
    ∃ u, u = { s with gate := u.gate, bells := u.bells } ∧ sameGateBut l s u ∧
      u.door l = { s.door l with status := .lockdown, release := 0, heldCount := 0, heldBell := false } ∧
      (if (s.door l).heldBell = true then stopped (fun _ q => q.source = .held l) s.bells u.bells else u.bells = s.bells) ∧
      match (s.lane l).pending with
      | none => t = u
      | some p =>
        ∃ r v, s.record p.slot = some r ∧ lapses l p r false (u.withoutWaiting l) v ∧ thenWaiting l (s.lane l).waiting v t

/-- A consumer's unread words reach its threshold while its mark is clear (R161). -/
def reachesThreshold (s : State) (p : Port) : Prop :=
  (s.journal.consumer p).highMark = false ∧ 0 < (s.journal.consumer p).threshold ∧
    (s.journal.consumer p).threshold ≤ s.journal.unread (s.journal.consumer p)

/-- The start notices and the examination at the end of stage 6 of a start (R21, R161), from u to t: POWER-RESTORED but at a reset start,
CLOCK-UNSET where the clock is unset, JOURNAL-HIGH with its mark where a threshold is reached, and nothing else. -/
def noticedFrom (kind : StartKind) (u t : State) : Prop :=
  t =
    { u with
      control := { u.control with bus := t.control.bus, link := t.control.link }
      journal :=
        { u.journal with
          bus := { u.journal.bus with highMark := t.journal.bus.highMark }
          link := { u.journal.link with highMark := t.journal.link.highMark } } } ∧
  ∀ p, (t.portState p).channelSummary = (u.portState p).channelSummary ∧
    ∃ high : Word,
      ((reachesThreshold u p ∧ high = 1 ∧ (t.journal.consumer p).highMark = true) ∨
        (¬ reachesThreshold u p ∧ high = 0 ∧ (t.journal.consumer p).highMark = (u.journal.consumer p).highMark)) ∧
      (t.portState p).eventSummary =
        (u.portState p).eventSummary ||| (if kind = .reset then 0 else 8) ||| (if u.time.clockUnset = true then 16 else 0) |||
          high

/-! ## Minute events -/

/-- The CLOCK-SET entry (R8). -/
def clockSetEntry (origin : Port) (old : TimeBase) (time : Time) (weekday : Nat) : EntryBody :=
  { kind := .clockSet, lane := none, time, slot := none, badge := none, flags := originOf origin, kindWord := 0
    extra := .clockSet old.clock old.epochWeekday time weekday }

/-- The sweep of a minute event at the clock of v, from v to t (R107–R109). -/
def swept (v t : State) : Prop :=
  ∃ now, now = v.time.clock.day * 1440 + v.time.clock.minute ∧ t.attendance.Sublist v.attendance ∧
    (∀ e ∈ v.attendance, e ∈ t.attendance ↔ ¬ e.closesAt v now) ∧ t.control.presentMirror = t.attendance.length ∧
    (∀ a, (∀ e ∈ v.attendance, e.slot = a → ¬ e.closesAt v now) → t.record a = v.record a) ∧
    (∀ e ∈ v.attendance, e.closesAt v now → ∀ r ∈ v.record e.slot,
      t.record e.slot = some
        { r.rolled v.pay.period with
          current := (r.rolled v.pay.period).current.addClosing (closingFigures v.pay r.payClass e none)
          presence := .out, muster := false }) ∧
    ∃ closed : List (Attendance × Record), (closed.map Prod.fst).Sublist v.attendance ∧
      (∀ e ∈ v.attendance, e ∈ closed.map Prod.fst ↔ e.closesAt v now) ∧
      (∀ c ∈ closed, v.record c.1.slot = some c.2) ∧
      t.journal =
        (closed.foldl
          (fun u c => appendEntry (autoCloseEntry v.time.clock c.2 c.1 (closingFigures v.pay c.2.payClass c.1 none)) u)
          v).journal

/-- The bells of a minute event at the clock of v, from v to t (R139–R141, R145). -/
def rung (v t : State) : Prop :=
  t.bells = { v.bells with zones := t.bells.zones } ∧
  ∀ z : Zone,
    ((∀ i, ¬ bellCandidate v v.time.clock.day v.time.clock.minute z i) → vget t.bells.zones z = vget v.bells.zones z) ∧
    ∀ (i : BellIndex) (n : PatternNumber), n = (vget v.bells.schedule i).pattern →
      bellCandidate v v.time.clock.day v.time.clock.minute z i →
      (∀ j, bellCandidate v v.time.clock.day v.time.clock.minute z j → j ≠ i →
        (vget v.bells.patterns (vget v.bells.schedule j).pattern).priority < (vget v.bells.patterns n).priority ∨
          ((vget v.bells.patterns (vget v.bells.schedule j).pattern).priority = (vget v.bells.patterns n).priority ∧
            i < j)) →
      (v.bells.accepts z n → vget t.bells.zones z = some (v.bells.started n (.schedule i))) ∧
        (¬ v.bells.accepts z n → vget t.bells.zones z = vget v.bells.zones z)

/-! ## The tick -/

/-- The tick at one lane and its door, from s to t: the release countdown, then the held countdown, then the gap counter, each lowered
by 1 but for the one at its last tick, whose expiry row is taken in its place (R47, R121, R122; the order is log 3). -/
def laneTick (l : Lane) (s t : State) : Prop :=
  ∃ u v : State,
    (if (s.door l).status = .released ∧ (s.door l).release = 1 then exec (.releaseExpiry l) s = .next u
     else
      u = s.setDoor l
        { s.door l with
          release := if (s.door l).status = .released then (s.door l).release - 1 else (s.door l).release }) ∧
    (if (u.door l).status = .passing ∧ (u.door l).heldCount = 1 then exec (.heldCountdownExpiry l) u = .next v
     else
      v = u.setDoor l
        { u.door l with
          heldCount := if (u.door l).status = .passing then (u.door l).heldCount - 1 else (u.door l).heldCount }) ∧
    (if (v.lane l).gap = 1 then exec (.frameArrival l .gap) v = .next t
     else t = v.setLane l { v.lane l with gap := (v.lane l).gap - 1 })

/-- The tick at the red lamps and the zone players, before the lanes' (R53, R144; log 3). -/
def beforeLanes (s t : State) : Prop :=
  (∀ l, t.lane l = { s.lane l with red := (s.lane l).red - 1 }) ∧
    (∀ z, vget t.bells.zones z = (vget s.bells.zones z).bind Playing.tick) ∧
    t = { s with lanes := t.lanes, bells := { s.bells with zones := t.bells.zones } }

/-! ## Images and codes -/

/-- Words 13–23 of a lane image for a pending passage (section 11.3). The words of an absent instance read 0 (log 20). -/
def PendingPassage.words (p : PendingPassage) : List Word :=
  [word p.slot.val, word p.badge.key.site.toNat, word (p.badge.key.number.toNat / 65536), word p.badge.key.number.toNat,
   word p.badge.issue.toNat,
   word (punchKindCode p.kind +
     32 * (match p.direction with
       | .inward => 0
       | .outward => 1
       | .none => 2) +
     (if p.softPassback = true then 128 else 0) + (if p.shiftDay = none then 0 else 256)),
   word ((p.shiftDay.map (fun d => d.shift.val)).getD 0), word ((p.shiftDay.map ShiftDay.day).getD 0),
   word p.readTime.day, word p.readTime.minute, word p.readTime.second]

/-- Words 24–31 of a lane image for a waiting read (section 11.3). -/
def BadgeRead.words (w : BadgeRead) : List Word :=
  [word w.badge.key.site.toNat, word (w.badge.key.number.toNat / 65536), word w.badge.key.number.toNat,
   word w.badge.issue.toNat, word w.readTime.day, word w.readTime.minute, word w.readTime.second,
   if w.untimed = true then 1 else 0]

/-- The command codes of the manual (TABLE 11-4). -/
def commandCodes : List Nat :=
  [0x10, 0x11, 0x12, 0x13, 0x20, 0x21, 0x22, 0x23, 0x30, 0x31] ++
    [0x40, 0x41, 0x42, 0x43, 0x44, 0x45, 0x46, 0x47, 0x50, 0x51] ++
    [0x60, 0x61, 0x62, 0x63, 0x64, 0x65, 0x66, 0x70, 0x71, 0x72] ++
    [0x73, 0x74, 0x75, 0x76, 0x80, 0x81, 0x82, 0x83, 0x90, 0x91]

/-- The response codes (TABLE 11-3). -/
def Response.number : Response → Word
  | .done => 0x0
  | .badCommand => 0x1
  | .badOperand => 0x2
  | .notFound => 0x3
  | .tableFull => 0x4
  | .busyRecord => 0x5
  | .recordPresent => 0x6
  | .laneBusy => 0x7
  | .lockdown => 0x8
  | .clockUnset => 0x9
  | .emergencyActive => 0xA
  | .range => 0xB
  | .bufferShort => 0xC
  | .badBuffer => 0xD

/-- The codes of the commands whose own rule names a command buffer (R179 check 3). -/
def bufferCodes : List Nat := [0x20, 0x21, 0x23, 0x31, 0x40, 0x41, 0x44, 0x45, 0x47, 0x50, 0x76, 0x80, 0x83]

/-- The commands by their codes (TABLE 11-4), each as its row of the table, with the block's operand words and buffer and the port its
chain came from; CORRECT PRESENCE by its operation (R112). -/
def commandRows (origin : Port) (op : Nat → Word) (buf : Buffer) : List (Nat × Instr) :=
  List.flatten
    [[(0x10, .setClock origin (op 0) (op 1) (op 2) (op 3)), (0x11, .trimClock (op 0)), (0x12, .readClock),
       (0x13, .acknowledgeStart), (0x20, .loadRecord buf), (0x21, .readRecord (op 0) (op 1) (op 2) (op 3) buf),
       (0x22, .deleteRecord (op 0) (op 1) (op 2) (op 3)), (0x23, .scanIndex (op 0) (op 1) (op 2) buf)],
      [(0x30, .writeLane (op 0) (op 1) (op 2) (op 3) (op 4) (op 5) (op 6) (op 7)), (0x31, .readLane (op 0) buf),
       (0x40, .writeShift buf), (0x41, .readShift (op 0) buf), (0x42, .writePayClass (op 0) (op 1) (op 2) (op 3) (op 4)),
       (0x43, .readPayClass (op 0)), (0x44, .writeHolidays (op 0) buf), (0x45, .readHolidays buf),
       (0x46, .closePeriod origin (op 0)), (0x47, .readTotals (op 0) (op 1) (op 2) (op 3) buf),
       (0x50, .listPresent (op 0) (op 1) buf)],
      (if op 0 = 0 then [(0x51, .forceOut origin (op 1) (op 2) (op 3) (op 4) (op 5) (op 6) (op 7))]
       else if op 0 = 1 then [(0x51, .forceIn origin (op 1) (op 2) (op 3) (op 4) (op 5) (op 6) (op 7))]
       else if op 0 = 2 then [(0x51, .cancel origin (op 1) (op 2) (op 3) (op 4))]
       else []),
      [(0x60, .releaseDoor origin (op 0)), (0x61, .setDoorMode (op 0) (op 1)), (0x62, .lockdown origin),
       (0x63, .clearLockdown origin), (0x64, .resetAlarm origin (op 0)), (0x65, .readDoors), (0x66, .setReentryWindow (op 0)),
       (0x70, .writeBellEntry (op 0) (op 1) (op 2) (op 3) (op 4) (op 5) (op 6)), (0x71, .readBellEntry (op 0)),
       (0x72, .writePattern (op 0) (op 1) (op 2) (op 3) (op 4) (op 5) (op 6)), (0x73, .readPattern (op 0)),
       (0x74, .ringZones origin (op 0) (op 1)), (0x75, .silenceZones (op 0))],
      [(0x76, .readBells buf), (0x80, .readJournal (op 0) (op 1) (op 2) (op 3) buf),
       (0x81, .releaseJournal (op 0) (op 1) (op 2)), (0x82, .setConsumer (op 0) (op 1) (op 2)), (0x83, .journalStatus buf),
       (0x90, .setChannelNotice (op 0) (op 1) (op 2)), (0x91, .readChannels)]]

/-- The row of a command code, none for a code the manual does not give and for an operation of CORRECT PRESENCE above 2. -/
def commandRow (origin : Port) (op : Nat → Word) (buf : Buffer) (code : Nat) : Option Instr :=
  (commandRows origin op buf).lookup code

/-! ## Turns of the engine -/

/-- The state in which a turn at channel c carries its block out: the block taken, the channel holding its chain and served last, the
engine granted last (R170, R177, R180). -/
def State.serving (s : State) (c : Channel) (chain : Chain) (left : List Request) : State :=
  { s with
    control :=
      { s.control with
        channels := vset s.control.channels c { s.channel c with chain := some chain, queue := left }
        lastServed := c, arbiter := .engine } }

/-- The turn at channel c answers its block, which s holds, with the reply r, the owning block having gone to the state u (R178 steps 3 to
5, R179): the result words, the buffer length word where r names one, the response code, and 0 in the response flag, over what u's
memory holds; the completion bit of the ports of the notice word; the chain continued, ended, or stopped by CHAIN-LIMIT. -/
def turnAnswers (s : State) (c : Channel) (chain : Chain) (u : State) (r : Reply) : Prop :=
  ∃ (t : State) (a : Nat) (link : Word) (limit : Prop), exec .engineTurn s = .next t ∧ a = chain.next.toNat ∧
    link = memRead s.memory (a + 4) ∧ limit = (r.code = .done ∧ link ≠ 0 ∧ 256 ≤ chain.count) ∧
    (∀ x, memRead t.memory x =
      if x = a + 3 then 0
      else if x = a + 1 then r.code.number
      else if x = a + 7 then r.used.getD (memRead u.memory x)
      else if a + 8 ≤ x ∧ x < a + 16 then (r.results.lookup (x - a)).getD (memRead u.memory x)
      else memRead u.memory x) ∧
    (r.code = .done ∧ link ≠ 0 ∧ chain.count < 256 → (t.channel c).chain = some { chain with next := link }) ∧
    (¬ (r.code = .done ∧ link ≠ 0 ∧ chain.count < 256) → (t.channel c).chain = none) ∧
    (limit → (t.channel c).fault = .chainLimit) ∧ (¬ limit → (t.channel c).fault = (u.channel c).fault) ∧
    t.channel c = { u.channel c with chain := (t.channel c).chain, fault := (t.channel c).fault } ∧
    (∀ d, d ≠ c → t.channel d = u.channel d) ∧
    (∀ p,
      (t.portState p).channelSummary = (u.portState p).channelSummary |||
        (if (memRead s.memory (a + 2)).getLsbD (if p = .bus then 0 else 1) = true then 1 <<< (c.val + 8) else 0) ∧
      (limit → (u.channel c).faultPorts.names p = true →
        (t.portState p).eventSummary = (u.portState p).eventSummary ||| 0x20) ∧
      (¬ (limit ∧ (u.channel c).faultPorts.names p = true) →
        (t.portState p).eventSummary = (u.portState p).eventSummary)) ∧
    t =
      { u with
        memory := t.memory, reply := s.reply
        control :=
          { u.control with channels := t.control.channels, bus := t.control.bus, link := t.control.link } }

/-- The turn at channel c carries its block out as the row of its command does (R178 step 2): the row's own effect, from these operand
words and the origin of the chain, on the state in which the block is taken; and the row's reply, its buffer length word as `used`
gives it, answers the block. A CORRECT PRESENCE whose operation is above 2 is answered BAD-OPERAND with index 0 (R112). -/
def turnRuns (s : State) (c : Channel) (chain : Chain) (left : List Request) (op : Nat → Word) (used : Reply → Option Word) :
    Prop :=
  match commandRow chain.origin op ⟨memRead s.memory (chain.next.toNat + 6), memRead s.memory (chain.next.toNat + 7)⟩
      (memRead s.memory chain.next.toNat).toNat with
  | some i =>
    ∃ u r, exec i (s.serving c chain left) = .next u ∧ u.reply = some r ∧ turnAnswers s c chain u { r with used := used r }
  | none =>
    turnAnswers s c chain (s.serving c chain left) { code := .badOperand, results := [(8, 0)], used := none, out := [] }

/-- Word n of the control page, as TABLE 11-2 lays it out (R11, R165, R169). -/
def State.pageWord (s : State) (n : Nat) : Word :=
  if n < 0x0B then
    ([0x5341, 0x4C54, 0x5049, 0x4E45, 0x2049, 0x4D4A, 0x4152, 0x4120, 0x4754, 0x2D34, 0x3230] : List Word).getD n 0
  else if n = 0x0F then 1
  else if n = 0x10 then
    match s.time.selfTest with
    | .notTested => 0
    | .testing => 1
    | .passed => 2
    | .failed => 3
  else if n = 0x11 then
    word (bit s.time.coldStart + 2 * bit s.time.clockUnset + 4 * bit s.time.dayLimit + 8 * bit s.gate.emergency +
      16 * bit s.gate.lockdown + 32 * bit s.time.retentionWasLost)
  else if n = 0x12 then word s.control.clockMirror.day
  else if n = 0x13 then word s.control.clockMirror.minute
  else if n = 0x14 then word s.control.clockMirror.second
  else if n = 0x15 then word s.control.presentMirror
  else if n = 0x16 then s.journal.writePoint.extractLsb' 16 16
  else if n = 0x17 then s.journal.writePoint.extractLsb' 0 16
  else if n = 0x18 then s.journal.bus.cursor.extractLsb' 16 16
  else if n = 0x19 then s.journal.bus.cursor.extractLsb' 0 16
  else if n = 0x1A then s.journal.link.cursor.extractLsb' 16 16
  else if n = 0x1B then s.journal.link.cursor.extractLsb' 0 16
  else if n = 0x1C then word (min (wordsOf s.journal.entries) 65535)
  else if 0x20 ≤ n ∧ n < 0x28 then (s.channel (Fin.ofNat 8 (n - 0x20))).request
  else if 0x28 ≤ n ∧ n < 0x30 then
    match (s.channel (Fin.ofNat 8 (n - 0x28))).fault with
    | .none => 0
    | .badPointer => 1
    | .chainLimit => 2
  else if 0x30 ≤ n ∧ n < 0x38 then (s.channel (Fin.ofNat 8 (n - 0x30))).pointer
  else if n = 0x40 then (s.portState .bus).channelSummary
  else if n = 0x41 then (s.portState .bus).eventSummary
  else if n = 0x42 then word (bit (s.portState .bus).armed)
  else if n = 0x44 then (s.portState .link).channelSummary
  else if n = 0x45 then (s.portState .link).eventSummary
  else if n = 0x46 then word (bit (s.portState .link).armed)
  else 0

/-- The night window of day k of a shift, as its first minute and the minute after its last (R94). -/
def ShiftDef.windowOf (sh : ShiftDef) (k : Int) : Int × Int :=
  (k * 1440 + sh.nightStart, (if sh.nightStart < sh.nightEnd then k else k + 1) * 1440 + sh.nightEnd)

/-- The length of the intersection of two intervals (R94). -/
def meetOf (a b : Int × Int) : Nat := (min a.2 b.2 - max a.1 b.1).toNat

end Sys2Proof.Machine
end

