-- ==== Sys2Proof/WellFormed.lean ====
section
/-! DEFINITION. Which commands are well formed: what their operand types leave open. -/

namespace Sys2Proof

/-- The words of the control page that have a behaviour of their own (TABLE 10-1): request and fault cells, summaries, rearm cells. -/
def ownBehaviour (addr : BitVec 13) : Bool :=
  (decide (0x20 ≤ addr.toNat) && decide (addr.toNat < 0x30)) || [0x40, 0x41, 0x42, 0x44, 0x45, 0x46].contains addr.toNat

/-- The addresses that the link port's pins can give it (R172): 5Ch to 5Fh. -/
def linkPortAddress (address : BitVec 7) : Bool := decide (0x5C ≤ address.toNat) && decide (address.toNat ≤ 0x5F)

/-- A command is well formed: PORT_WORD_WRITE names a word with no behaviour of its own, and LINK_TRANSFER_START an address the
port may have. Every other operand's range is its type's, or is checked by the command itself. -/
def Instr.wellFormed : Instr → Bool
  | .portWordWrite _ addr _ => !ownBehaviour addr
  | .linkTransferStart address _ => linkPortAddress address
  | .crystalSecond | .mainsTrip | .retentionLostLatchSet | .mainsArrival | .resetAssert | .selfTestEnd _ => true
  | .setClock .. | .trimClock _ | .readClock | .acknowledgeStart => true
  | .loadRecord _ | .readRecord .. | .deleteRecord .. | .scanIndex .. => true
  | .writeLane .. | .readLane .. | .frameArrival .. | .grantPassageReport _ | .redLampExpiry _ => true
  | .rotationPulse _ | .contactOpening _ | .contactClosing _ | .releaseExpiry _ | .heldCountdownExpiry _ => true
  | .releaseDoor .. | .setDoorMode .. | .lockdown _ | .clearLockdown _ | .resetAlarm .. | .readDoors => true
  | .setReentryWindow _ | .emergencyAssert | .emergencyRelease | .reentryWindowExpiry => true
  | .writeShift _ | .readShift .. | .writePayClass .. | .readPayClass _ | .writeHolidays .. | .readHolidays _ => true
  | .closePeriod .. | .readTotals .. | .listPresent .. | .forceOut .. | .forceIn .. | .cancel .. => true
  | .writeBellEntry .. | .readBellEntry _ | .writePattern .. | .readPattern _ | .ringZones .. | .silenceZones _ => true
  | .readBells _ | .strokeCounterExpiry _ | .readJournal .. | .releaseJournal .. | .setConsumer .. => true
  | .journalStatus _ | .requestCellWrite .. | .faultCellWrite .. | .summaryWrite .. | .rearmCellWrite .. => true
  | .engineTurn | .setChannelNotice .. | .readChannels => true
  | .linkPointerSet _ | .linkDataWord _ | .linkReadByte | .linkTransferEnd | .readerClockPulse .. => true
  | .retentionSupplyLost | .linkLeadByte _ | .linkDataHighByte _ => true

end Sys2Proof
end

