-- ==== Sys2Proof/Certificates/Slice0/Obligations.lean ====
section
/-! DEFINITION. The statements for the provers. Most give a row's next state whole: what its rule changes, and by equality with the old
state everything else. -/

open Sys2Proof Sys2Proof.Machine

/-! ## The step -/

/-- A step carries out the command at the front of the queue on the state with the queue's rest. -/
def Obligations.StepRunsFrontCommand : Prop :=
  ∀ (s : State) (c : Instr) (rest : List Instr), s.pending = c :: rest → step s = exec c { s with pending := rest }

/-- With an empty queue one tick ticks the red lamps and every zone player, then lane by lane, 0 to 3, lowers each running countdown by 1,
the one at its last tick being taken as its expiry row: the release and held countdowns' expiries and the frame's arrival by its gap
(R4, R47, R53, R121, R122, R144; log 3, DESIGN CHOICE). With no expiry due that is all, and nothing else changes. -/
def Obligations.TickLowersCountdowns : Prop :=
  (∀ s : State, s.pending = [] → running s = true → (∀ l, LaneLaw (s.lane l)) →
    ∃ c : Fin 5 → State,
      beforeLanes s (c 0) ∧ (∀ l : Lane, laneTick l (c l.castSucc) (c l.succ)) ∧ step s = .next (c 4)) ∧
  ∀ s : State, s.pending = [] → running s = true → (∀ l, noExpiry s l ∧ LaneLaw (s.lane l)) →
    ∃ t, step s = .next t ∧
      (∀ l, t.lane l = { s.lane l with red := (s.lane l).red - 1, gap := (s.lane l).gap - 1 }) ∧
      (∀ l, t.door l =
        { s.door l with
          release := if (s.door l).status = .released then (s.door l).release - 1 else (s.door l).release
          heldCount := if (s.door l).status = .passing then (s.door l).heldCount - 1 else (s.door l).heldCount }) ∧
      (∀ z, vget t.bells.zones z = (vget s.bells.zones z).bind Playing.tick) ∧
      t = { s with
            lanes := t.lanes, gate := { s.gate with doors := t.gate.doors }, bells := { s.bells with zones := t.bells.zones } }

/-! ## Time base -/

/-- A crystal second within a minute in a started part: the second rises by 1 (or, in a long minute, second 59 comes again), the second
event rewrites the mirror and lowers the re-entry window (R1, R2, R5). -/
def Obligations.CrystalSecondWithinMinute : Prop :=
  ∀ s : State, running s = true → s.time.minuteLength ≠ .longRepeated →
    (s.time.clock.second < s.time.minuteLength.last →
      exec .crystalSecond s = .next
        { s with
          time := { s.time with clock := { s.time.clock with second := s.time.clock.second + 1 } }
          control := { s.control with clockMirror := { s.time.clock with second := s.time.clock.second + 1 } }
          gate := { s.gate with windowCountdown := s.gate.windowCountdown - 1 } }) ∧
    (s.time.minuteLength = .long → s.time.clock.second = 59 →
      exec .crystalSecond s = .next
        { s with
          time := { s.time with minuteLength := .longRepeated }
          control := { s.control with clockMirror := s.time.clock }
          gate := { s.gate with windowCountdown := s.gate.windowCountdown - 1 } })

/-- The crystal second that ends a minute: minute, day, day limit, slew and minute length as R1, R5 and R6 give them, the mirror and the
window by the second event; the minute event reaches attendance and bells only, and neither while the clock is unset. -/
def Obligations.CrystalSecondEndsMinute : Prop :=
  ∀ s : State, running s = true → ClockLaw s.time → s.time.atMinuteEnd →
    ∃ t, exec .crystalSecond s = .next t ∧
      t.time = s.time.afterMinute ∧ t.control.clockMirror = s.time.afterMinute.clock ∧
      t.gate = { s.gate with windowCountdown := s.gate.windowCountdown - 1 } ∧
      t = { s with
            time := t.time, gate := t.gate, control := t.control, attendance := t.attendance, roster := t.roster,
            journal := t.journal, bells := { s.bells with zones := t.bells.zones } } ∧
      (s.time.clockUnset = true →
        t = { s with time := t.time, gate := t.gate, control := { s.control with clockMirror := t.control.clockMirror } })

/-- The sweep of a minute event issued by counting (R107–R109): every attendance whose deadline is reached and whose record is not
pending is closed at the scheduled end with its AUTO-CLOSE entry, in list order; every other entry and record stays. -/
def Obligations.MinuteEventClosesDueAttendances : Prop :=
  ∀ s : State, running s = true → ClockLaw s.time → s.time.atMinuteEnd → s.time.clockUnset = false → OrderLaw s →
    PresenceLaw s → MirrorLaw s →
    ∃ t now, exec .crystalSecond s = .next t ∧
      now = s.time.afterMinute.clock.day * 1440 + s.time.afterMinute.clock.minute ∧
      t.attendance.Sublist s.attendance ∧ (∀ e ∈ s.attendance, e ∈ t.attendance ↔ ¬ e.closesAt s now) ∧
      t.control.presentMirror = t.attendance.length ∧
      (∀ a, (∀ e ∈ s.attendance, e.slot = a → ¬ e.closesAt s now) → t.record a = s.record a) ∧
      (∀ e ∈ s.attendance, e.closesAt s now → ∀ r ∈ s.record e.slot,
        t.record e.slot = some
          { r.rolled s.pay.period with
            current := (r.rolled s.pay.period).current.addClosing (closingFigures s.pay r.payClass e none)
            presence := .out, muster := false }) ∧
      ∃ closed : List (Attendance × Record), (closed.map Prod.fst).Sublist s.attendance ∧
        (∀ e ∈ s.attendance, e ∈ closed.map Prod.fst ↔ e.closesAt s now) ∧
        (∀ c ∈ closed, s.record c.1.slot = some c.2) ∧
        t.journal =
          (closed.foldl
            (fun u c =>
              appendEntry
                (autoCloseEntry s.time.afterMinute.clock c.2 c.1 (closingFigures s.pay c.2.payClass c.1 none)) u)
            { s with time := s.time.afterMinute }).journal

/-- The bells at a minute event issued by counting (R139–R141, R145): at each zone the candidate of the highest priority, on a tie the
lowest index, starts its pattern where the zone accepts it; a zone without a candidate plays on. -/
def Obligations.MinuteEventRingsSchedule : Prop :=
  ∀ s : State, running s = true → ClockLaw s.time → s.time.atMinuteEnd → s.time.clockUnset = false →
    ∃ t day minute, exec .crystalSecond s = .next t ∧ day = s.time.afterMinute.clock.day ∧
      minute = s.time.afterMinute.clock.minute ∧
      ∀ z : Zone,
        ((∀ i, ¬ bellCandidate s day minute z i) → vget t.bells.zones z = vget s.bells.zones z) ∧
        ∀ (i : BellIndex) (n : PatternNumber), n = (vget s.bells.schedule i).pattern → bellCandidate s day minute z i →
          (∀ j, bellCandidate s day minute z j → j ≠ i →
            (vget s.bells.patterns (vget s.bells.schedule j).pattern).priority < (vget s.bells.patterns n).priority ∨
              ((vget s.bells.patterns (vget s.bells.schedule j).pattern).priority = (vget s.bells.patterns n).priority ∧
                i < j)) →
          (s.bells.accepts z n → vget t.bells.zones z = some (s.bells.started n (.schedule i))) ∧
          (¬ s.bells.accepts z n → vget t.bells.zones z = vget s.bells.zones z)

/-- In BATTERY-HOLD a crystal second advances the clock as in MAINS-RUN, counts the hold up to its limit, and issues no event (R1,
R13); the retention-lost latch sets; the loss of all supply makes the mark invalid (R13, R14; log 6). Through a start a crystal
second advances the clock and issues no event (R1, R2, R3). Nothing else changes. -/
def Obligations.EventsInHold : Prop :=
  ∀ s : State,
    (s.time.power = .batteryHold →
      (s.time.minuteLength ≠ .longRepeated → s.time.clock.second < s.time.minuteLength.last →
        exec .crystalSecond s = .next
          { s with
            time :=
              { s.time with
                clock := { s.time.clock with second := s.time.clock.second + 1 }
                holdDuration := min (s.time.holdDuration + 1) 4294901759 } }) ∧
      (ClockLaw s.time → s.time.atMinuteEnd →
        exec .crystalSecond s = .next
          { s with time := { s.time.afterMinute with holdDuration := min (s.time.holdDuration + 1) 4294901759 } }) ∧
      exec .retentionLostLatchSet s = .next { s with time := { s.time with retentionLatch := true } } ∧
      exec .retentionSupplyLost s = .next
        { s with time := { s.time with power := .noSupply, retentionMark := false, retentionLatch := false } } ∧
      (s.time.minuteLength = .long → s.time.clock.second = 59 →
        exec .crystalSecond s = .next
          { s with
            time :=
              { s.time with minuteLength := .longRepeated, holdDuration := min (s.time.holdDuration + 1) 4294901759 } })) ∧
    (s.time.power = .mainsRun → s.time.start ≠ none →
      (s.time.minuteLength ≠ .longRepeated → s.time.clock.second < s.time.minuteLength.last →
        exec .crystalSecond s = .next
          { s with time := { s.time with clock := { s.time.clock with second := s.time.clock.second + 1 } } }) ∧
      (s.time.minuteLength = .long → s.time.clock.second = 59 →
        exec .crystalSecond s = .next { s with time := { s.time with minuteLength := .longRepeated } }) ∧
      (ClockLaw s.time → s.time.atMinuteEnd → exec .crystalSecond s = .next { s with time := s.time.afterMinute }))

/-- SET CLOCK (R8): the clock and calendar take the operands, unset, day limit and slew are cleared, CLOCK-SET is appended and the
mirror rewritten; then the set minute event sweeps the due attendances (R107–R109) and rings the schedule (R139–R141, R145) at the
new minute with the new epoch weekday. With no attendance due and no bell entry enabled that is all. The first operand out of range
is answered BAD-OPERAND and nothing changes. Each command is carried out from its own row (log 4). -/
def Obligations.SetClockResult : Prop :=
  (∀ (s : State) (origin : Port) (day minute second wd : Word), engineOpen s = true →
    ∀ n, firstOut [True, minute.toNat ≤ 1439, second.toNat ≤ 59, wd.toNat ≤ 6] n →
      exec (.setClock origin day minute second wd) s = .next (s.answering (.badOperand n))) ∧
  ∀ (s : State) (origin : Port) (day minute second wd : Word), engineOpen s = true → minute.toNat ≤ 1439 →
    second.toNat ≤ 59 → wd.toNat ≤ 6 →
    ∃ t v, exec (.setClock origin day minute second wd) s = .next t ∧
      t.time =
        { s.time with
          clock := ⟨day.toNat, minute.toNat, second.toNat⟩, epochWeekday := wd.toNat, clockUnset := false
          dayLimit := false, slew := 0, minuteLength := .ordinary } ∧
      v =
        appendEntry (clockSetEntry origin s.time ⟨day.toNat, minute.toNat, second.toNat⟩ wd.toNat) { s with time := t.time } ∧
      t.control.clockMirror = ⟨day.toNat, minute.toNat, second.toNat⟩ ∧ t.reply = some (.done []) ∧
      t = { v with
            control :=
              { v.control with
                clockMirror := t.control.clockMirror, presentMirror := t.control.presentMirror, bus := t.control.bus
                link := t.control.link }
            attendance := t.attendance, roster := { s.roster with records := t.roster.records }, journal := t.journal
            bells := { s.bells with zones := t.bells.zones }, reply := t.reply } ∧
      ((∀ e ∈ s.attendance, ∀ d ∈ e.deadline, day.toNat * 1440 + minute.toNat < d) →
        t.attendance = s.attendance ∧ t.roster = s.roster ∧ t.journal = v.journal ∧
          t.control = { v.control with clockMirror := ⟨day.toNat, minute.toNat, second.toNat⟩ }) ∧
      (OrderLaw s → PresenceLaw s → MirrorLaw s → swept v t) ∧ rung v t ∧
      ((∀ i, (vget s.bells.schedule i).enabled = false) → t.bells = s.bells)

/-- TRIM CLOCK (R9): refused while the clock is unset, else the operand and then the sum are held to −3,600 … +3,600. READ CLOCK returns
seven results and changes nothing (R10); ACKNOWLEDGE START returns both start flags and clears both (R20). Each command is carried
out from its own row (log 4). -/
def Obligations.TrimReadAcknowledge : Prop :=
  ∀ s : State, engineOpen s = true →
    (∀ w : Word,
      (s.time.clockUnset = true → exec (.trimClock w) s = .next (s.answering (.refuse .clockUnset))) ∧
      (s.time.clockUnset = false →
        ∃ new : Int, new = max (-3600) (min 3600 (s.time.slew + max (-3600) (min 3600 w.toInt))) ∧
          exec (.trimClock w) s = .next
            ({ s with time := { s.time with slew := new } }.answering
              (.done [BitVec.ofInt 16 (new - s.time.slew), BitVec.ofInt 16 new])))) ∧
    exec .readClock s = .next (s.answering (.done
      [word s.time.clock.day, word s.time.clock.minute, word s.time.clock.second, word s.time.epochWeekday,
       word ((s.time.clock.day + s.time.epochWeekday) % 7), word (bit s.time.clockUnset + 2 * bit s.time.dayLimit),
       BitVec.ofInt 16 s.time.slew])) ∧
    exec .acknowledgeStart s = .next
      ({ s with time := { s.time with coldStart := false, retentionWasLost := false } }.answering
        (.done [word (bit s.time.coldStart + 2 * bit s.time.retentionWasLost)]))

/-! ## Power and starts -/

/-- A mains trip, within a start or outside one (R12, R19, R134): BATTERY-HOLD from hold duration 0, every retained item kept. The
volatile items, which nothing can read in the hold, stand at once as the next start leaves them (log 28, DEDUCED); the arbiter keeps
its last grant (log 33). Each command is carried out from its own row (log 4). -/
def Obligations.MainsTripKeepsRetained : Prop :=
  ∀ s : State, s.time.power = .mainsRun →
    ∃ t, exec .mainsTrip s = .next t ∧
      t.time = { s.time with power := .batteryHold, start := none, selfTest := .notTested, holdDuration := 0 } ∧
      t.roster = s.roster ∧ t.pay = s.pay ∧ t.attendance = s.attendance ∧ t.pins = s.pins ∧
      t.bells = { s.bells with zones := Vector.replicate 8 none, locked := 0 } ∧
      (∀ l, t.lane l = { config := (s.lane l).config, bits := [], gap := 0, red := 0, pending := none, waiting := none }) ∧
      (∀ l, t.door l = { Door.cold with forced := (s.door l).forced, held := (s.door l).held }) ∧
      t.gate = { s.gate with doors := t.gate.doors, windowCountdown := 0 } ∧
      t.journal =
        { s.journal with bus := { s.journal.bus with highMark := false }, link := { s.journal.link with highMark := false } } ∧
      t.memory = [] ∧ (∀ c, t.channel c = ChannelState.atStart) ∧ t.control.lastServed = 7 ∧
      t.control.clockMirror = ⟨0, 0, 0⟩ ∧ t.control.presentMirror = 0 ∧ t.control.arbiter = s.control.arbiter ∧
      (∀ p, t.portState p = { s.portState p with channelSummary := 0, eventSummary := 0, armed := true }) ∧
      t.link =
        { address := 0x5C + s.pins.linkAddressPins.setWidth 7, pointer := 0, holding := 0, phase := .idle, heldHigh := none
          keptLow := none, ack := false } ∧
      t.freeCount = s.freeCount ∧ t.reply = s.reply ∧ t.pending = s.pending ∧
      (∀ l, doorOutput t l = false) ∧ (∀ z, zoneOutput t z = false) ∧ readyLamp t = .off

/-- The arrival of mains decides the kind of start by TABLE 1-4 and brings the start to its self-test (R14, R16, R18, R20). That one
step goes from the arrival to the self-test, past stages 1 to 4, is log 13 (DEDUCED). -/
def Obligations.MainsArrivalDecides : Prop :=
  ∀ s : State, s.time.power ≠ .mainsRun →
    ∃ t, exec .mainsArrival s = .next t ∧ t.time.power = .mainsRun ∧ t.time.selfTest = .testing ∧
      t.time.retentionMark = true ∧
      (s.time.retentionLatch = true →
        t.time.start = some ⟨.cold, .selfTest⟩ ∧ t.time.coldStart = true ∧ t.time.retentionWasLost = true) ∧
      (s.time.retentionLatch = false → s.time.retentionMark = false →
        t.time.start = some ⟨.cold, .selfTest⟩ ∧ t.time.coldStart = true ∧ t.time.retentionWasLost = false) ∧
      (s.time.retentionLatch = false → s.time.retentionMark = true →
        t.time.start = some ⟨.warm, .selfTest⟩ ∧ t.time.coldStart = s.time.coldStart ∧
          t.time.retentionWasLost = s.time.retentionWasLost)

/-- Whatever an unpowered part held, its first start ends in the state of a fresh part: with the emergency line released and the
contacts closed, the arrival of mains and a passed self-test give the reset state (R14, R16, R18, R21, R40, R58, R80, R117, R134,
R151, R168; logs 1, 2). Its two steps are those of log 13 (DEDUCED). The arbiter keeps its last grant (log 33), and the pulse counts
are the model's own (log 10). -/
def Obligations.UnpoweredPartComesUpFresh : Prop :=
  ∀ s : State, s.time.power = .noSupply → s.time.retentionMark = false → s.time.retentionLatch = false →
    s.pins = State.reset.pins →
    ∃ t u, exec .mainsArrival s = .next t ∧ exec (.selfTestEnd true) t = .next u ∧
      u = { State.reset with
            control :=
              { State.reset.control with
                arbiter := s.control.arbiter
                bus := { State.reset.control.bus with pulses := s.control.bus.pulses + 1 }
                link := { State.reset.control.link with pulses := s.control.link.pulses + 1 } }
            freeCount := s.freeCount, reply := s.reply, pending := s.pending }

/-- A warm start up to its self-test, one step (R17, R41, R134; log 13, DEDUCED): the hold duration goes into WARM-START and to 0;
each pending record lapses with kind UNKNOWN and the POWER flag, in slot order, and none stays pending; clock, attendance, pay
tables, every other field of the records, lockdown flag, emergency state, latches and window length are kept. -/
def Obligations.WarmStartKeepsRetained : Prop :=
  ∀ s : State, s.time.power = .batteryHold → s.time.retentionLatch = false → s.time.retentionMark = true →
    ∃ t, exec .mainsArrival s = .next t ∧
      t.time = { s.time with power := .mainsRun, start := some ⟨.warm, .selfTest⟩, selfTest := .testing, holdDuration := 0 } ∧
      (∀ a, t.record a = (s.record a).map (fun r => { r with pendingLane := none })) ∧
      t.roster.index = s.roster.index ∧ t.roster.census = s.roster.census ∧ t.roster.occupied = s.roster.occupied ∧
      t.attendance = s.attendance ∧ t.pay = s.pay ∧ t.bells.schedule = s.bells.schedule ∧
      t.bells.patterns = s.bells.patterns ∧ t.bells.emergencyMask = s.bells.emergencyMask ∧
      (∀ l, (t.lane l).config = (s.lane l).config) ∧
      ((∀ p ∈ s.roster.records, p.2.pendingLane = none) →
        t.journal =
          (s.journal.loseMarks).append s.time.clock
            { kind := .warmStart, lane := none, time := s.time.clock, slot := none, badge := none, flags := { power := true }
              kindWord := 0, extra := .hold s.time.holdDuration }) ∧
      t.gate = { s.gate with windowCountdown := 0 } ∧
      (RosterLaw s.roster →
        ∃ lapsed, pendingRecords s lapsed ∧
          t.journal =
            lapsed.foldl (fun j p => j.append s.time.clock (unknownLapse { power := true } s.time.clock p))
              ((s.journal.loseMarks).append s.time.clock
                { kind := .warmStart, lane := none, time := s.time.clock, slot := none, badge := none
                  flags := { power := true }, kindWord := 0, extra := .hold s.time.holdDuration }))

/-- An assertion of the reset line in a started part makes a reset start: no door moves, the clock is kept, RESET-START is
appended, each pending record lapses with kind UNKNOWN and the RESET flag, in slot order, the channels and ports are restarted
(R15, R16, R17, R41, R183; log 13, DEDUCED). During a start it begins a reset start too, but a cold or warm start that has not
appended its entry begins again (R19). -/
def Obligations.ResetAssertRestarts : Prop :=
  ∀ s : State,
    (running s = true →
      ∃ t, exec .resetAssert s = .next t ∧
        t.time = { s.time with start := some ⟨.reset, .selfTest⟩, selfTest := .testing } ∧
        t.gate = { s.gate with windowCountdown := 0 } ∧
        (∀ a, t.record a = (s.record a).map (fun r => { r with pendingLane := none })) ∧
        t.attendance = s.attendance ∧ t.pay = s.pay ∧
        (∀ c, t.channel c = ChannelState.atStart) ∧ t.control.lastServed = 7 ∧
        (∀ p, (t.portState p).armed = true ∧ (t.portState p).channelSummary = 0 ∧ (t.portState p).eventSummary = 0) ∧
        (∀ l, (t.lane l).pending = none ∧ (t.lane l).waiting = none ∧ (t.lane l).bits = []) ∧
        (∀ z, vget t.bells.zones z = none) ∧ (∀ z, zoneOutput t z = false) ∧
        (RosterLaw s.roster →
          ∃ lapsed, pendingRecords s lapsed ∧
            t.journal =
              lapsed.foldl (fun j p => j.append s.time.clock (unknownLapse { reset := true } s.time.clock p))
                ((s.journal.loseMarks).append s.time.clock
                  { kind := .resetStart, lane := none, time := s.time.clock, slot := none, badge := none
                    flags := { reset := true }, kindWord := 0, extra := .none }))) ∧
    ∀ (kind : StartKind) (stage : StartStage), s.time.power = .mainsRun → s.time.start = some ⟨kind, stage⟩ →
      ∃ t, exec .resetAssert s = .next t ∧
        ((stage ≠ .decision ∧ stage ≠ .retained) →
          t.time = { s.time with start := some ⟨.reset, .selfTest⟩, selfTest := .testing }) ∧
        ((stage = .decision ∨ stage = .retained) →
          t.time.power = .mainsRun ∧ t.time.start = some ⟨kind, .selfTest⟩ ∧ t.time.selfTest = .testing ∧
            (kind = .cold →
              t.time.coldStart = true ∧ t.time.retentionWasLost = false ∧ t.roster = Roster.empty ∧
                t.journal = State.reset.journal) ∧
            (kind = .warm → RosterLaw s.roster →
              t.time.holdDuration = 0 ∧
                ∃ lapsed, pendingRecords s lapsed ∧
                  t.journal =
                    lapsed.foldl (fun j p => j.append s.time.clock (unknownLapse { power := true } s.time.clock p))
                      ((s.journal.loseMarks).append s.time.clock
                        { kind := .warmStart, lane := none, time := s.time.clock, slot := none, badge := none
                          flags := { power := true }, kindWord := 0, extra := .hold s.time.holdDuration })))

/-- The end of the self-test: the part is started, the mirrors are written, each door is LOCKDOWN, PASSING or LOCKED as R134 gives
it, the line is sampled and the retained emergency state reconciled with it: an assertion taken (R130), a release taken (R131), an
emergency that continues without clearing muster flags or journalling, or nothing; then in each case the start notices,
POWER-RESTORED but at a reset start and CLOCK-UNSET where the clock is unset, and the thresholds' examination (R16, R18, R21, R134,
R161; log 13, DEDUCED). -/
def Obligations.SelfTestEndOpensGate : Prop :=
  ∀ (s : State) (passed : Bool) (kind : StartKind), s.time.power = .mainsRun →
    s.time.start = some ⟨kind, .selfTest⟩ →
    (s.pins.emergencyLine = false → s.gate.emergency = false →
      ∃ t, exec (.selfTestEnd passed) s = .next t ∧
        t.time = { s.time with start := none, selfTest := if passed then .passed else .failed } ∧
        engineOpen t = passed ∧ t.memory = [] ∧
        t.control.clockMirror = s.time.clock ∧ t.control.presentMirror = s.attendance.length ∧
        (∀ l, (t.door l).mode = .normal ∧ (t.door l).freed = false ∧ (t.door l).release = 0 ∧
          (t.door l).contactOpen = vget s.pins.contactOpen l ∧
          (t.door l).status =
            if s.gate.lockdown then .lockdown
            else if (s.lane l).config.sensor = .contact ∧ vget s.pins.contactOpen l = true then .passing
            else .locked) ∧
        (∀ p, kind ≠ .reset → (t.portState p).eventSummary.getLsbD 3 = true) ∧
        (∀ p, s.time.clockUnset = true → (t.portState p).eventSummary.getLsbD 4 = true) ∧
        t.roster = s.roster ∧ t.attendance = s.attendance ∧ t.lanes = s.lanes ∧ t.pay = s.pay) ∧
    ∃ t u, exec (.selfTestEnd passed) s = .next t ∧ setUpAs s u ∧
      u =
        { s with
          time := { s.time with start := none, selfTest := if passed then .passed else .failed }
          gate := u.gate, memory := []
          control := { s.control with clockMirror := s.time.clock, presentMirror := s.attendance.length } } ∧
      (s.pins.emergencyLine = false → s.gate.emergency = false → noticedFrom kind u t) ∧
      (s.pins.emergencyLine = true → s.gate.emergency = false →
        ∃ v, exec .emergencyAssert u = .next v ∧ noticedFrom kind v t) ∧
      (s.pins.emergencyLine = false → s.gate.emergency = true →
        ∃ v, exec .emergencyRelease u = .next v ∧ noticedFrom kind v t) ∧
      (s.pins.emergencyLine = true → s.gate.emergency = true →
        ∃ v, noticedFrom kind v t ∧ v.gate = { s.gate with doors := v.gate.doors } ∧
          (∀ l, v.door l =
            if (s.lane l).config.failState = .failFree then
              { u.door l with status := .free, freed := true, release := 0, heldCount := 0 }
            else u.door l) ∧
          requested s.bells.emergencyMask 7 .evacuation { s.bells with locked := s.bells.emergencyMask } v.bells ∧
          (∀ p, (v.portState p).eventSummary = (u.portState p).eventSummary ||| 4) ∧
          v =
            { u with
              gate := v.gate, bells := v.bells
              control := { u.control with bus := v.control.bus, link := v.control.link } })

/-! ## Roster -/

/-- LOAD RECORD of a new key creates a record in the lowest free slot (R26, R32, R33, R34). A refused one changes nothing (R33):
BAD-BUFFER or BUFFER-SHORT, then BAD-OPERAND with the index of the first image word out of range, then TABLE-FULL where no slot is
free. Each command is carried out from its own row (log 4). -/
def Obligations.LoadRecordCreates : Prop :=
  (∀ (s : State) (buf : Buffer) (i : LoadImage), engineOpen s = true → i = readLoadImage s.memory buf →
    (∀ r, bufferRefused buf 10 r → exec (.loadRecord buf) s = .next (s.answering (.refuse r))) ∧
    (bufferFits buf 10 →
      (∀ n, firstOut i.ranges n → exec (.loadRecord buf) s = .next (s.answering (.badOperand n))) ∧
      (RosterLaw s.roster → i.inRange → (∀ e ∈ s.roster.index, e.key ≠ i.key) → (∀ a, (s.record a).isSome = true) →
        exec (.loadRecord buf) s = .next (s.answering (.refuse .tableFull))))) ∧
  ∀ (s : State) (buf : Buffer) (a : Slot) (i : LoadImage), engineOpen s = true → RosterLaw s.roster → bufferFits buf 10 →
    i = readLoadImage s.memory buf → i.inRange → (∀ e ∈ s.roster.index, e.key ≠ i.key) →
    s.record a = none → (∀ b, b < a → (s.record b).isSome = true) →
    ∃ t, exec (.loadRecord buf) s = .next t ∧
      t.record a = some
        (i.sets
          { key := i.key, issue := 0, employee := 0, shift := none, payClass := 0, permissions := 0, suspended := false
            exempt := false, presence := .out, pendingLane := none, muster := false, lastPassage := none
            current := Totals.zero s.pay.period, previous := Totals.zero ((s.pay.period + 65535) % 65536) }) ∧
      (∀ b, b ≠ a → t.record b = s.record b) ∧
      (∀ e, e ∈ t.roster.index ↔ e = ⟨i.key, a⟩ ∨ e ∈ s.roster.index) ∧
      t.roster.occupied = s.roster.occupied + 1 ∧
      (∀ site, vget t.roster.census site = vget s.roster.census site + if site = siteNumber i.key then 1 else 0) ∧
      t = State.answering { s with roster := t.roster }
        { code := .done, results := [(8, word a.val), (9, 0), (10, word (s.roster.occupied + 1))], used := some 10, out := [] }

/-- LOAD RECORD of a key that is present replaces the configuration fields of its record and keeps every other field; while the record
is pending it is refused BUSY-RECORD (R33, R34). Each command is carried out from its own row (log 4). -/
def Obligations.LoadRecordUpdates : Prop :=
  ∀ (s : State) (buf : Buffer) (a : Slot) (r : Record) (i : LoadImage), engineOpen s = true → RosterLaw s.roster →
    bufferFits buf 10 → i = readLoadImage s.memory buf → i.inRange → s.record a = some r → r.key = i.key →
    (r.pendingLane ≠ none → exec (.loadRecord buf) s = .next (s.answering (.refuse .busyRecord))) ∧
    (r.pendingLane = none →
      ∃ t, exec (.loadRecord buf) s = .next t ∧ t.record a = some (i.sets r) ∧
        (∀ b, b ≠ a → t.record b = s.record b) ∧
        t = State.answering { s with roster := { s.roster with records := t.roster.records } }
          { code := .done, results := [(8, word a.val), (9, 1), (10, word s.roster.occupied)], used := some 10, out := [] })

/-- DELETE RECORD, by slot or by key (R35): a pending record meets BUSY-RECORD, one that is IN RECORD-PRESENT, any other leaves roster,
index, census and count (R37). A reference out of range is BAD-OPERAND, one that names no record NOT-FOUND (R35); site before number
high part is log 35 (DESIGN CHOICE). Each command is carried out from its own row (log 4). -/
def Obligations.DeleteRecordResult : Prop :=
  (∀ (s : State) (selector x y z : Word), engineOpen s = true →
    (∀ i, badReference 0 selector x y = some i →
      exec (.deleteRecord selector x y z) s = .next (s.answering (.badOperand i))) ∧
    (RosterLaw s.roster → refersNowhere s selector x y z →
      exec (.deleteRecord selector x y z) s = .next (s.answering (.refuse .notFound)))) ∧
  ∀ (s : State) (a : Slot) (r : Record) (selector x y z : Word), engineOpen s = true → RosterLaw s.roster →
    s.record a = some r → refersTo selector x y z a r →
    (r.pendingLane ≠ none → exec (.deleteRecord selector x y z) s = .next (s.answering (.refuse .busyRecord))) ∧
    (r.pendingLane = none → r.presence = .inside →
      exec (.deleteRecord selector x y z) s = .next (s.answering (.refuse .recordPresent))) ∧
    (r.pendingLane = none → r.presence = .out →
      ∃ t, exec (.deleteRecord selector x y z) s = .next t ∧ t.record a = none ∧
        (∀ b, b ≠ a → t.record b = s.record b) ∧
        (∀ e, e ∈ t.roster.index ↔ e ∈ s.roster.index ∧ e.slot ≠ a) ∧
        t.roster.occupied + 1 = s.roster.occupied ∧
        (∀ site, vget t.roster.census site + (if site = siteNumber r.key then 1 else 0) = vget s.roster.census site) ∧
        t = State.answering { s with roster := t.roster } (.done [word a.val, word t.roster.occupied]))

/-- READ RECORD and READ TOTALS, by slot or by key, roll the record's totals over to the current period first (R35, R101, R102) and
then write its image to the buffer; every other record is as it was. A reference out of range is BAD-OPERAND, then the buffer is
checked, then a reference that names no record is NOT-FOUND (R35, R102); site before number high part is log 35, BAD-BUFFER before
BUFFER-SHORT log 38 (DESIGN CHOICE both). Each command is carried out from its own row (log 4). -/
def Obligations.ReadRecordAndTotals : Prop :=
  (∀ (s : State) (selector x y z : Word) (buf : Buffer), engineOpen s = true →
    (∀ i, badReference 0 selector x y = some i →
      exec (.readRecord selector x y z buf) s = .next (s.answering (.badOperand i)) ∧
        exec (.readTotals selector x y z buf) s = .next (s.answering (.badOperand i))) ∧
    (badReference 0 selector x y = none →
      (∀ r, bufferRefused buf 36 r → exec (.readRecord selector x y z buf) s = .next (s.answering (.refuse r))) ∧
      (∀ r, bufferRefused buf 20 r → exec (.readTotals selector x y z buf) s = .next (s.answering (.refuse r)))) ∧
    (RosterLaw s.roster → refersNowhere s selector x y z →
      (bufferFits buf 36 → exec (.readRecord selector x y z buf) s = .next (s.answering (.refuse .notFound))) ∧
      (bufferFits buf 20 → exec (.readTotals selector x y z buf) s = .next (s.answering (.refuse .notFound))))) ∧
  ∀ (s : State) (a : Slot) (r : Record) (selector x y z : Word) (buf : Buffer), engineOpen s = true →
    RosterLaw s.roster → s.record a = some r → refersTo selector x y z a r →
    (bufferFits buf 36 →
      ∃ t, exec (.readRecord selector x y z buf) s = .next t ∧ t.record a = some (r.rolled s.pay.period) ∧
        (∀ b, b ≠ a → t.record b = s.record b) ∧
        t = State.writing { s with roster := { s.roster with records := t.roster.records } } buf
          (.doneOut (recordImage a (r.rolled s.pay.period)) [word a.val])) ∧
    (bufferFits buf 20 →
      ∃ t, exec (.readTotals selector x y z buf) s = .next t ∧ t.record a = some (r.rolled s.pay.period) ∧
        (∀ b, b ≠ a → t.record b = s.record b) ∧
        t = State.writing { s with roster := { s.roster with records := t.roster.records } } buf
          (.doneOut (totalsWords (r.rolled s.pay.period).current ++ totalsWords (r.rolled s.pay.period).previous)
            [word a.val, word s.pay.period]))

/-- SCAN INDEX copies, in key order from the start key on, as many whole entries as the buffer holds, and changes nothing (R38). An
entry shows no pending lane: R38 gives it no place for the one that R29 says is shown, and that is the model's choice (log 37). A site
or number high part out of range is BAD-OPERAND, before the buffer is refused (log 29; of both the site is named, log 35; BAD-BUFFER
before BUFFER-SHORT, log 38; DESIGN CHOICE all three). Each command is carried out from its own row (log 4). -/
def Obligations.ScanIndexResult : Prop :=
  (∀ (s : State) (site high low : Word) (buf : Buffer), engineOpen s = true →
    (∀ n, firstOut [site.toNat ≤ 63, high.toNat ≤ 3] n →
      exec (.scanIndex site high low buf) s = .next (s.answering (.badOperand n))) ∧
    (site.toNat ≤ 63 → high.toNat ≤ 3 → ∀ r, bufferRefused buf 4 r →
      exec (.scanIndex site high low buf) s = .next (s.answering (.refuse r)))) ∧
  ∀ (s : State) (site high low : Word) (buf : Buffer), engineOpen s = true → RosterLaw s.roster → bufferFits buf 4 →
    site.toNat ≤ 63 → high.toNat ≤ 3 →
    ∃ found copied rest : List IndexEntry,
      found = s.roster.index.filter (fun e => decide ((keyOfWords site high low).rank ≤ e.key.rank)) ∧
      found = copied ++ rest ∧ copied.length = min found.length (min buf.len.toNat 256 / 4) ∧
      exec (.scanIndex site high low buf) s = .next
        (s.writing buf
          { code := .done
            results :=
              match rest with
              | [] => [(8, word copied.length), (9, 0), (10, 0), (11, 0), (12, 0)]
              | e :: _ =>
                [(8, word copied.length), (9, 1), (10, word e.key.site.toNat), (11, word (e.key.number.toNat / 65536)),
                 (12, word e.key.number.toNat)]
            used := none
            out := copied.flatMap (fun e =>
              [word e.key.site.toNat, word (e.key.number.toNat / 65536), word e.key.number.toNat, word e.slot.val]) })

/-! ## Lanes -/

/-- WRITE LANE replaces the whole configuration of a lane without a pending passage (R44, R124): the assembly is emptied by a change
to or from DISABLED, a PASSING door leaves with the sensor and ends its held alarm, a lane made CONTACT takes its contact state from
the input, and nothing else of lane, door and bells changes; a lane with a pending passage refuses it. READ LANE writes the 32-word
image of a lane (R45, section 11.3), where the words of an absent passage, instance or waiting read are 0 (log 20, DESIGN CHOICE),
and changes nothing else. WRITE LANE does not read bits 11–15 of its last word (log 39, DESIGN CHOICE), and a change among ENTRY,
EXIT and TOGGLE leaves the assembly and its gap counter (log 41, DESIGN CHOICE). The first operand out of range is BAD-OPERAND; READ
LANE then checks its buffer, BAD-BUFFER before BUFFER-SHORT (log 38, DESIGN CHOICE). Each command is carried out from its own row
(log 4). -/
def Obligations.LaneConfiguration : Prop :=
  (∀ (s : State) (lane mode sensor release held passback failState alarm : Word) (buf : Buffer), engineOpen s = true →
    (∀ n, firstOut
        [lane.toNat ≤ 3, mode.toNat ≤ 3, sensor.toNat ≤ 2, 1 ≤ release.toNat ∧ release.toNat ≤ 255,
         1 ≤ held.toNat ∧ held.toNat ≤ 255, passback.toNat ≤ 2, failState.toNat ≤ 1, (alarm.toNat / 256) % 8 ≠ 7] n →
      exec (.writeLane lane mode sensor release held passback failState alarm) s = .next (s.answering (.badOperand n))) ∧
    (3 < lane.toNat → exec (.readLane lane buf) s = .next (s.answering (.badOperand 0))) ∧
    (lane.toNat ≤ 3 → ∀ r, bufferRefused buf 32 r →
      exec (.readLane lane buf) s = .next (s.answering (.refuse r)))) ∧
  ∀ (s : State) (l : Lane), engineOpen s = true →
    (∀ (mode sensor release held passback failState alarm : Word),
      mode.toNat ≤ 3 → sensor.toNat ≤ 2 → 1 ≤ release.toNat → release.toNat ≤ 255 → 1 ≤ held.toNat →
      held.toNat ≤ 255 → passback.toNat ≤ 2 → failState.toNat ≤ 1 → (alarm.toNat / 256) % 8 ≠ 7 →
      ((s.lane l).pending ≠ none →
        exec (.writeLane (word l.val) mode sensor release held passback failState alarm) s =
          .next (s.answering (.refuse .laneBusy))) ∧
      ((s.lane l).pending = none →
        ∃ t, exec (.writeLane (word l.val) mode sensor release held passback failState alarm) s = .next t ∧
          laneConfigWords l (t.lane l).config =
            [word l.val, mode, sensor, release, held, passback, failState, alarm &&& 0x7FF] ∧
          (t.lane l).bits =
            (if (t.lane l).config.mode ≠ (s.lane l).config.mode ∧
                ((t.lane l).config.mode = .disabled ∨ (s.lane l).config.mode = .disabled) then [] else (s.lane l).bits) ∧
          t.lane l =
            { s.lane l with config := (t.lane l).config, bits := (t.lane l).bits, gap := (t.lane l).gap } ∧
          (t.lane l).gap =
            (if (t.lane l).config.mode ≠ (s.lane l).config.mode ∧
                ((t.lane l).config.mode = .disabled ∨ (s.lane l).config.mode = .disabled) then 0 else (s.lane l).gap) ∧
          (t.lane l).red = (s.lane l).red ∧ (t.lane l).pending = none ∧ (t.lane l).waiting = (s.lane l).waiting ∧
          (∀ m, m ≠ l → t.lane m = s.lane m) ∧ sameGateBut l s t ∧
          ((t.door l).status =
            if (s.lane l).config.sensor = .contact ∧ (t.lane l).config.sensor ≠ .contact ∧ (s.door l).status = .passing
            then .locked else (s.door l).status) ∧
          ((s.lane l).config.sensor ≠ .contact → (t.lane l).config.sensor = .contact →
            t.door l = { s.door l with contactOpen := vget s.pins.contactOpen l }) ∧
          (if (s.lane l).config.sensor = .contact ∧ (t.lane l).config.sensor ≠ .contact ∧ (s.door l).status = .passing then
            t.door l = { s.door l with status := .locked, release := 0, heldCount := 0, heldBell := false } ∧
              if (s.door l).heldBell = true then stopped (fun _ q => q.source = .held l) s.bells t.bells
              else t.bells = s.bells
          else
            t.door l =
              { s.door l with
                contactOpen :=
                  if (s.lane l).config.sensor ≠ .contact ∧ (t.lane l).config.sensor = .contact then
                    vget s.pins.contactOpen l
                  else (s.door l).contactOpen } ∧
              t.bells = s.bells) ∧
          t = { s with lanes := t.lanes, gate := t.gate, bells := { s.bells with zones := t.bells.zones }
                       reply := some (.done []) })) ∧
    (∀ buf : Buffer, bufferFits buf 32 →
      exec (.readLane (word l.val) buf) s = .next
        (s.writing buf
          (.doneOut
            (laneConfigWords l (s.lane l).config ++
              [word (doorStatusCode (s.door l).status), word (s.door l).release, word (s.lane l).bits.length,
               word (s.lane l).red,
               word ((if (s.lane l).pending = none then 0 else 3) + (if (s.lane l).waiting = none then 0 else 4))] ++
              (match (s.lane l).pending with
                | none => List.replicate 11 0
                | some p => p.words) ++
              (match (s.lane l).waiting with
                | none => List.replicate 8 0
                | some w => w.words))
            [word l.val])))

/-- A clock pulse at a lane that takes bits appends its bit and loads the gap counter with 3 (R46); at a lane that takes none it changes
nothing. -/
def Obligations.ReaderClockPulseAppends : Prop :=
  ∀ (s : State) (l : Lane) (b : Bool),
    ((running s = false ∨ (s.lane l).config.mode = .disabled) → exec (.readerClockPulse l b) s = .next s) ∧
    (running s = true → (s.lane l).config.mode ≠ .disabled → (s.lane l).bits.length < 36 →
      ∃ t, exec (.readerClockPulse l b) s = .next t ∧
        t.lane l = { s.lane l with bits := (s.lane l).bits ++ [b], gap := 3 } ∧ (∀ m, m ≠ l → t.lane m = s.lane m) ∧
        t = { s with lanes := t.lanes })

/-- A frame at its arrival, where no classification comes (R47–R49, R51): an invalid one is emptied from the assembly, BAD-READ appended
with its length and the red lamp loaded, and so is a frame that a 37th bit ends; at a lane with a pending passage a repeat read is
discarded, another badge becomes the waiting read, and a further one is DENIED with OVERRUN. Door, context and roster stay. -/
def Obligations.FramesOutsideClassification : Prop :=
  ∀ (s : State) (l : Lane), running s = true → (s.lane l).config.mode ≠ .disabled →
    ((s.lane l).bits ≠ [] → frameValid (s.lane l).bits = false →
      ∃ t, exec (.frameArrival l .gap) s = .next t ∧
        t.lane l = { s.lane l with bits := [], gap := 0, red := (s.lane l).config.releaseTime * 10 } ∧
        (∀ m, m ≠ l → t.lane m = s.lane m) ∧
        t =
          { appendEntry
              { kind := .badRead, lane := some l, time := s.time.clock, slot := none, badge := none, flags := {}
                kindWord := (s.lane l).bits.length, extra := .none } s with
            lanes := t.lanes }) ∧
    (∀ p : PendingPassage, frameValid (s.lane l).bits = true → (s.lane l).pending = some p →
      (frameBadge (s.lane l).bits = p.badge ∨
        ∃ w, (s.lane l).waiting = some w ∧ frameBadge (s.lane l).bits = w.badge) →
      exec (.frameArrival l .gap) s = .next (s.setLane l { s.lane l with bits := [], gap := 0 })) ∧
    (∀ b : Bool, (s.lane l).bits.length = 36 →
      ∃ t, exec (.frameArrival l (.extraBit b)) s = .next t ∧ exec (.readerClockPulse l b) s = .next t ∧
        t.lane l = { s.lane l with bits := [], gap := 0, red := (s.lane l).config.releaseTime * 10 } ∧
        (∀ m, m ≠ l → t.lane m = s.lane m) ∧
        t =
          { appendEntry
              { kind := .badRead, lane := some l, time := s.time.clock, slot := none, badge := none, flags := {}
                kindWord := 37, extra := .none } s with
            lanes := t.lanes }) ∧
    (∀ p : PendingPassage, frameValid (s.lane l).bits = true → (s.lane l).pending = some p →
      frameBadge (s.lane l).bits ≠ p.badge →
      ((s.lane l).waiting = none →
        exec (.frameArrival l .gap) s = .next
          (s.setLane l
            { s.lane l with
              bits := [], gap := 0, waiting := some ⟨frameBadge (s.lane l).bits, s.time.clock, s.time.clockUnset⟩ })) ∧
      (∀ w ∈ (s.lane l).waiting, frameBadge (s.lane l).bits ≠ w.badge →
        ∃ t, exec (.frameArrival l .gap) s = .next t ∧
          t.lane l = { s.lane l with bits := [], gap := 0, red := (s.lane l).config.releaseTime * 10 } ∧
          (∀ m, m ≠ l → t.lane m = s.lane m) ∧
          t =
            { appendEntry
                { kind := .denied, lane := some l, time := s.time.clock, slot := none
                  badge := some (frameBadge (s.lane l).bits), flags := {}, kindWord := 9, extra := .none } s with
              lanes := t.lanes }))

/-- A valid frame at a lane with an empty context whose badge finds no record: DENIED with SITE or UNKNOWN, the red lamp loaded, no
other block touched (R52, R53, R61, R73). -/
def Obligations.UnknownBadgeIsDenied : Prop :=
  ∀ (s : State) (l : Lane), running s = true → (s.lane l).config.mode ≠ .disabled → frameValid (s.lane l).bits = true →
    (s.lane l).pending = none → RosterLaw s.roster → (∀ e ∈ s.roster.index, e.key ≠ (frameBadge (s.lane l).bits).key) →
    ∃ t, exec (.frameArrival l .gap) s = .next t ∧
      t.lane l = { s.lane l with bits := [], gap := 0, red := (s.lane l).config.releaseTime * 10 } ∧
      (∀ m, m ≠ l → t.lane m = s.lane m) ∧
      t =
        { appendEntry
            { kind := .denied, lane := some l, time := s.time.clock, slot := none, badge := some (frameBadge (s.lane l).bits)
              flags := {}, extra := .none
              kindWord :=
                if ∃ p ∈ s.roster.records, p.2.key.site = (frameBadge (s.lane l).bits).key.site then 2 else 1 } s with
          lanes := t.lanes }

/-! ## Punches -/

/-- A timed punch that agrees with the record's presence, read at a LOCKED door whose lane has a sensor, is granted: an in-punch
as IN with its shift's instance or as IN-UNSCHEDULED (R67, R70), an out-punch by its attendance's kind (R72); the lane, the record
and the door take the grant (R52, R120). Every valid frame at an empty context is classified by the checks in their order (R60),
with the grants at RELEASED and PASSING doors (R120; log 8) and those counted at once (R52, R54). -/
def Obligations.GrantMakesPending : Prop :=
  (∀ (s : State) (l : Lane) (a : Slot) (r : Record), frameFinds s l a r → s.gate.emergency = false →
    s.gate.lockdown = false → r.pendingLane = none → s.time.clockUnset = false → (s.lane l).config.sensor ≠ .none →
    (s.door l).status = .locked →
    ((s.lane l).config.mode ≠ .exit → r.presence = .out →
      ∃ sd, choosesInstance s r.shift s.time.clock.day (s.time.clock.day * 1440 + s.time.clock.minute) sd ∧
        grantedAt s l a r (if sd.isSome then .inPunch else .inUnscheduled) false .inward sd) ∧
    ((s.lane l).config.mode ≠ .entry → r.presence = .inside → (s.attendance.map Attendance.slot).Nodup →
      ∀ e ∈ s.attendance, e.slot = a →
        grantedAt s l a r (if e.schedule.isSome then .outPunch else .outUnscheduled) false .outward none)) ∧
  ∀ (s : State) (l : Lane), running s = true → (s.lane l).config.mode ≠ .disabled → frameValid (s.lane l).bits = true →
    (s.lane l).pending = none → (s.lane l).waiting = none → RosterLaw s.roster → PresenceLaw s →
    ∃ t, exec (.frameArrival l .gap) s = .next t ∧
      classified l ⟨frameBadge (s.lane l).bits, s.time.clock, s.time.clockUnset⟩
        (s.setLane l { s.lane l with bits := [], gap := 0 }) t

/-- An untimed frame is granted as UNTIMED-GRANT; a passback case goes by the re-entry window, the exemption and the lane's policy, and
at a HARD lane it is refused (R66, R68, R69). -/
def Obligations.PassbackAndUntimed : Prop :=
  ∀ (s : State) (l : Lane) (a : Slot) (r : Record), frameFinds s l a r → s.gate.emergency = false →
    s.gate.lockdown = false → r.pendingLane = none → (s.lane l).config.sensor ≠ .none → (s.door l).status = .locked →
    (s.time.clockUnset = true → grantedAt s l a r .untimedGrant false .none none) ∧
    (s.time.clockUnset = false → (s.lane l).config.mode = .entry → r.presence = .inside →
      if 0 < s.gate.windowCountdown ∨ r.exempt = true ∨ (s.lane l).config.passback = .off then
        grantedAt s l a r .reEntry false .inward none
      else if (s.lane l).config.passback = .soft then grantedAt s l a r .reEntry true .inward none
      else refusedAt s l a 8) ∧
    (s.time.clockUnset = false → (s.lane l).config.mode = .exit → r.presence = .out →
      if r.exempt = true ∨ (s.lane l).config.passback = .off then grantedAt s l a r .exitAgain false .outward none
      else if (s.lane l).config.passback = .soft then grantedAt s l a r .exitAgain true .outward none
      else refusedAt s l a 8)

/-- Checks 3 to 8 in their order (R62–R65): the first that fails refuses the frame with its reason, and an active emergency makes a
frame that passed checks 1 to 5 a muster, even in lockdown: neither moves a door or makes a pending passage. -/
def Obligations.RefusalsAndMuster : Prop :=
  ∀ (s : State) (l : Lane) (a : Slot) (r : Record), running s = true → (s.lane l).config.mode ≠ .disabled →
    frameValid (s.lane l).bits = true → (s.lane l).pending = none → RosterLaw s.roster → s.record a = some r →
    (frameBadge (s.lane l).bits).key = r.key →
    if (frameBadge (s.lane l).bits).issue ≠ r.issue then refusedAt s l a 3
    else if r.suspended = true then refusedAt s l a 4
    else if r.permissions.getLsbD l.val = false then refusedAt s l a 5
    else if s.gate.emergency = true then
      ∃ t, exec (.frameArrival l .gap) s = .next t ∧ t.lane l = { s.lane l with bits := [], gap := 0 } ∧
        (∀ m, m ≠ l → t.lane m = s.lane m) ∧ t.record a = some { r with muster := true } ∧
        (∀ b, b ≠ a → t.record b = s.record b) ∧
        t =
          { appendEntry (laneEntry .muster l a (frameBadge (s.lane l).bits) s.time.clock {} 0) s with
            lanes := t.lanes, roster := { s.roster with records := t.roster.records } }
    else if s.gate.lockdown = true then refusedAt s l a 6
    else r.pendingLane ≠ none → refusedAt s l a 7

/-- A rotation pulse at a RELEASED door with an IN or IN-UNSCHEDULED punch pending and no waiting read (R54, R74, R104–R106, R121): the
door locks, the attendance is opened in its place in the list, the record is IN and no longer pending, and the entry is appended. -/
def Obligations.PassageOpensAttendance : Prop :=
  ∀ (s : State) (l : Lane) (p : PendingPassage) (r : Record) (e : Attendance), running s = true →
    (s.lane l).config.sensor = .rotation → (s.door l).status = .released → (s.lane l).pending = some p →
    (s.lane l).waiting = none → s.record p.slot = some r →
    ((p.kind = .inPunch ∧ p.shiftDay ≠ none ∧ e = s.pay.opens p.slot p.shiftDay p.readTime) ∨
      (p.kind = .inUnscheduled ∧ e = s.pay.opens p.slot none p.readTime)) →
    ∃ t u, exec (.rotationPulse l) s = .next t ∧
      u =
        appendEntry
          (laneEntry (if p.kind = .inPunch then .inPunch else .inUnscheduled) l p.slot p.badge p.readTime
            { softPassback := p.softPassback } 0) s ∧
      t.lane l = { s.lane l with pending := none } ∧
      (∀ m, m ≠ l → t.lane m = s.lane m) ∧
      t.door l = { s.door l with status := .locked, release := 0, heldCount := 0 } ∧ sameGateBut l s t ∧
      insertedIn e s.attendance t.attendance ∧
      t.record p.slot = some
        { (if p.kind = .inPunch then r else r.excepted s.pay.period) with
          presence := .inside, pendingLane := none, lastPassage := some ⟨l, p.readTime⟩ } ∧
      (∀ b, b ≠ p.slot → t.record b = s.record b) ∧
      t =
        { u with
          lanes := t.lanes, gate := t.gate, attendance := t.attendance
          roster := { s.roster with records := t.roster.records }
          control := { u.control with presentMirror := s.attendance.length + 1 } }

/-- A contact opening at a RELEASED door with an OUT punch pending and no waiting read (R54, R75, R89, R98, R121): the door is PASSING,
the closing's figures are added to the rolled-over totals and journalled in a long entry, the attendance is removed, the record is
OUT. -/
def Obligations.PassageClosesAttendance : Prop :=
  ∀ (s : State) (l : Lane) (p : PendingPassage) (r : Record) (e : Attendance) (f : Figures), running s = true →
    (s.lane l).config.sensor = .contact → (s.door l).status = .released → (s.lane l).pending = some p →
    (s.lane l).waiting = none → p.kind = .outPunch → s.record p.slot = some r →
    (s.attendance.map Attendance.slot).Nodup → e ∈ s.attendance → e.slot = p.slot →
    f = closingFigures s.pay r.payClass e (some (p.readTime.day * 1440 + p.readTime.minute)) →
    ∃ t u, exec (.contactOpening l) s = .next t ∧
      u =
        appendEntry
          { kind := .outPunch, lane := some l, time := p.readTime, slot := some p.slot, badge := some p.badge
            flags := { softPassback := p.softPassback, missedOut := f.missedOut, capped := f.capped, holiday := f.holiday }
            kindWord := 0, extra := .closing f } s ∧
      t.lane l = { s.lane l with pending := none } ∧
      (∀ m, m ≠ l → t.lane m = s.lane m) ∧
      t.door l =
        { s.door l with
          status := .passing, release := 0, heldCount := (s.lane l).config.heldLimit * 100, heldBell := false
          contactOpen := true } ∧
      sameGateBut l s t ∧ t.attendance = s.attendance.filter (fun x => decide (x.slot ≠ p.slot)) ∧
      t.record p.slot = some
        { r.rolled s.pay.period with
          current := (r.rolled s.pay.period).current.addClosing f, presence := .out, muster := false
          pendingLane := none, lastPassage := some ⟨l, p.readTime⟩ } ∧
      (∀ b, b ≠ p.slot → t.record b = s.record b) ∧
      t =
        { u with
          pins := { s.pins with contactOpen := vset s.pins.contactOpen l true }
          lanes := t.lanes, gate := t.gate, attendance := t.attendance
          roster := { s.roster with records := t.roster.records }
          control := { u.control with presentMirror := t.attendance.length } }

/-- A pending passage ends by the expiry of its release countdown, which lapses it (R55, R77, R121), or by passage, which resolves
it kind by kind, OUT-UNSCHEDULED, RE-ENTRY and EXIT-AGAIN with the soft-passback exception among them (R54, R74–R76, R99): by a
rotation pulse, a contact opening, or the report that follows a grant at a PASSING door (R120; log 8). Then the waiting read is
classified against the state left (R57). -/
def Obligations.PendingPassageEnds : Prop :=
  ∀ (s : State) (l : Lane) (p : PendingPassage) (r : Record), running s = true → (s.lane l).pending = some p →
    s.record p.slot = some r →
    ((s.lane l).waiting = none →
      ((s.door l).status = .released → 0 < (s.door l).release →
        ∃ t, exec (.releaseExpiry l) s = .next t ∧ t.lane l = { s.lane l with pending := none } ∧
          (∀ m, m ≠ l → t.lane m = s.lane m) ∧
          t.door l = { s.door l with status := .locked, release := 0, heldCount := 0 } ∧ sameGateBut l s t ∧
          t.record p.slot = some { r with pendingLane := none } ∧ (∀ b, b ≠ p.slot → t.record b = s.record b) ∧
          t =
            { appendEntry
                (laneEntry .lapsed l p.slot p.badge p.readTime { softPassback := p.softPassback } (punchKindCode p.kind)) s with
              lanes := t.lanes, gate := t.gate, roster := { s.roster with records := t.roster.records } }) ∧
      (p.reportDue = true → p.kind = .untimedGrant →
        ∃ t, exec (.grantPassageReport l) s = .next t ∧ t.lane l = { s.lane l with pending := none } ∧
          (∀ m, m ≠ l → t.lane m = s.lane m) ∧
          t.record p.slot = some { r with pendingLane := none, lastPassage := some ⟨l, p.readTime⟩ } ∧
          (∀ b, b ≠ p.slot → t.record b = s.record b) ∧
          t =
            { appendEntry (laneEntry .untimedGrant l p.slot p.badge p.readTime { softPassback := p.softPassback } 0) s with
              lanes := t.lanes, roster := { s.roster with records := t.roster.records } })) ∧
    ((s.lane l).config.mode ≠ .disabled → RosterLaw s.roster → PresenceLaw s →
      (p.reportDue = true →
        ∃ v t, exec (.grantPassageReport l) s = .next t ∧ resolves l p r (s.withoutWaiting l) v ∧
          thenWaiting l (s.lane l).waiting v t) ∧
      ((s.lane l).config.sensor = .rotation → (s.door l).status = .released →
        ∃ v t, exec (.rotationPulse l) s = .next t ∧
          resolves l p r
            ((s.withoutWaiting l).setDoor l { s.door l with status := .locked, release := 0, heldCount := 0 }) v ∧
          thenWaiting l (s.lane l).waiting v t) ∧
      ((s.lane l).config.sensor = .contact → (s.door l).status = .released →
        ∃ v t, exec (.contactOpening l) s = .next t ∧
          resolves l p r
            (({ s with pins := { s.pins with contactOpen := vset s.pins.contactOpen l true } } : State).withoutWaiting
                l |>.setDoor l
              { s.door l with
                status := .passing, release := 0, heldCount := (s.lane l).config.heldLimit * 100, heldBell := false
                contactOpen := true }) v ∧
          thenWaiting l (s.lane l).waiting v t) ∧
      ((s.door l).status = .released → 0 < (s.door l).release →
        ∃ v t, exec (.releaseExpiry l) s = .next t ∧
          lapses l p r false
            ((s.withoutWaiting l).setDoor l { s.door l with status := .locked, release := 0, heldCount := 0 }) v ∧
          thenWaiting l (s.lane l).waiting v t))

/-! ## Doors -/

/-- The red lamp's and the re-entry window's expiry leave their countdown at 0 (R53, R132); a zone player whose counter runs out goes on
to its next stroke, its gap, its next group or IDLE (R144). Nothing else changes. Each row is taken at its word (log 7). -/
def Obligations.ExpiryRows : Prop :=
  ∀ s : State, running s = true →
    (∀ l : Lane, exec (.redLampExpiry l) s = .next (s.setLane l { s.lane l with red := 0 })) ∧
    exec .reentryWindowExpiry s = .next { s with gate := { s.gate with windowCountdown := 0 } } ∧
    (∀ z : Zone,
      exec (.strokeCounterExpiry z) s = .next
        { s with
          bells :=
            { s.bells with zones := vset s.bells.zones z ((vget s.bells.zones z).bind Playing.afterCount) } })

/-- A rotation pulse or a contact opening in LOCKED or LOCKDOWN is a forced passage (R123, TABLE 7-2) and the held countdown's end a
held alarm (R122): the door stays, an entry is appended; with the latch clear it sets, the alarm pattern is requested and DOOR-ALARM
raised on both ports. A pulse in PASSING or FREE is ignored, an opening there changes the contact state only, and a lane without the
sensor takes neither (R119). In RELEASED without a pending passage, after RELEASE DOOR or a grant at a lane with sensor NONE, a
pulse and the expiry of the countdown lock the door, an opening makes it PASSING with a full held countdown, and nothing else
changes (R120, R121, R126). A pulse is a falling edge of its pin, and a contact shows open while its pin is high (R186). -/
def Obligations.DoorAlarms : Prop :=
  ∀ (s : State) (l : Lane), running s = true →
    ((s.lane l).config.sensor = .rotation → ((s.door l).status = .locked ∨ (s.door l).status = .lockdown) →
      ∃ u, u = appendEntry (gateEntry .doorForced (some l) s.time.clock {}) s ∧
        ((s.door l).forced = true → exec (.rotationPulse l) s = .next u) ∧
        ((s.door l).forced = false →
          ∃ t, exec (.rotationPulse l) s = .next t ∧ t.door l = { s.door l with forced := true } ∧ sameGateBut l s t ∧
            requested (s.lane l).config.alarmZones (s.lane l).config.alarmPattern (.forced l) s.bells t.bells ∧
            (∀ p, (t.portState p).eventSummary = (u.portState p).eventSummary ||| 2) ∧
            t = { u with
                  gate := t.gate, bells := t.bells
                  control := { u.control with bus := t.control.bus, link := t.control.link } })) ∧
    ((s.door l).status = .passing → 0 < (s.door l).heldCount →
      ∃ u, u = appendEntry (gateEntry .doorHeld (some l) s.time.clock {}) s ∧
        ((s.door l).held = true →
          exec (.heldCountdownExpiry l) s = .next (u.setDoor l { s.door l with heldCount := 0 })) ∧
        ((s.door l).held = false →
          ∃ t, exec (.heldCountdownExpiry l) s = .next t ∧
            t.door l =
              { s.door l with
                held := true, heldCount := 0
                heldBell := if (s.lane l).config.alarmZones = 0 then (s.door l).heldBell else true } ∧
            sameGateBut l s t ∧
            requested (s.lane l).config.alarmZones (s.lane l).config.alarmPattern (.held l) s.bells t.bells ∧
            (∀ p, (t.portState p).eventSummary = (u.portState p).eventSummary ||| 2) ∧
            t = { u with
                  gate := t.gate, bells := t.bells
                  control := { u.control with bus := t.control.bus, link := t.control.link } })) ∧
    ((s.lane l).config.sensor ≠ .rotation ∨ (s.door l).status = .passing ∨ (s.door l).status = .free →
      exec (.rotationPulse l) s = .next s) ∧
    (∃ o u : State,
      o = State.setDoor { s with pins := { s.pins with contactOpen := vset s.pins.contactOpen l true } } l
        { s.door l with contactOpen := true } ∧
      u = appendEntry (gateEntry .doorForced (some l) s.time.clock {}) o ∧
      ((s.lane l).config.sensor ≠ .contact →
        exec (.contactOpening l) s = .next { s with pins := { s.pins with contactOpen := vset s.pins.contactOpen l true } }) ∧
      ((s.lane l).config.sensor = .contact →
        (((s.door l).status = .passing ∨ (s.door l).status = .free) → exec (.contactOpening l) s = .next o) ∧
        (((s.door l).status = .locked ∨ (s.door l).status = .lockdown) →
          ((s.door l).forced = true → exec (.contactOpening l) s = .next u) ∧
          ((s.door l).forced = false →
            ∃ t, exec (.contactOpening l) s = .next t ∧
              t.door l = { s.door l with contactOpen := true, forced := true } ∧ sameGateBut l s t ∧
              requested (s.lane l).config.alarmZones (s.lane l).config.alarmPattern (.forced l) s.bells t.bells ∧
              (∀ p, (t.portState p).eventSummary = (u.portState p).eventSummary ||| 2) ∧
              t = { u with
                    gate := t.gate, bells := t.bells
                    control := { u.control with bus := t.control.bus, link := t.control.link } })))) ∧
    ((s.door l).status = .released → (s.lane l).pending = none →
      ((s.lane l).config.sensor = .rotation →
        exec (.rotationPulse l) s = .next (s.setDoor l { s.door l with status := .locked, release := 0, heldCount := 0 })) ∧
      ((s.lane l).config.sensor = .contact →
        exec (.contactOpening l) s = .next
          (State.setDoor { s with pins := { s.pins with contactOpen := vset s.pins.contactOpen l true } } l
            { s.door l with
              status := .passing, release := 0, heldCount := (s.lane l).config.heldLimit * 100, heldBell := false
              contactOpen := true })) ∧
      (0 < (s.door l).release →
        exec (.releaseExpiry l) s = .next (s.setDoor l { s.door l with status := .locked, release := 0, heldCount := 0 }))) ∧
    passageRows l .high .low = [.rotationPulse l] ∧ passageRows l .low .high = [] ∧
      contactRows l .low .high = [.contactOpening l] ∧ contactRows l .high .low = [.contactClosing l] ∧
      ∀ x, passageRows l x x = [] ∧ contactRows l x x = []

/-- A contact closing ends PASSING: the door locks, the held countdown stops, a held alarm that rings ends; in any other state it
changes the contact state only (R119, R122). -/
def Obligations.ContactClosingLocks : Prop :=
  ∀ (s : State) (l : Lane), running s = true → (s.lane l).config.sensor = .contact →
    ∃ t, exec (.contactClosing l) s = .next t ∧ sameGateBut l s t ∧
      ((s.door l).status ≠ .passing → t.door l = { s.door l with contactOpen := false } ∧ t.bells = s.bells) ∧
      ((s.door l).status = .passing →
        t.door l =
          { s.door l with status := .locked, release := 0, heldCount := 0, heldBell := false, contactOpen := false } ∧
        if (s.door l).heldBell = true then stopped (fun _ q => q.source = .held l) s.bells t.bells
        else t.bells = s.bells) ∧
      t = { s with
            pins := { s.pins with contactOpen := vset s.pins.contactOpen l false }, gate := t.gate, bells := t.bells }

/-- RELEASE DOOR (R126): refused in lockdown and over a pending passage; else it acts as a grant does, writes DOOR-MANUAL and
returns the door state. SET DOOR MODE (R127): FREE opens a door in LOCKED, RELEASED or PASSING, resolves a pending passage as
passed and then has the waiting read classified (R54, R57), and waits in LOCKDOWN; NORMAL shuts a FREE door that the emergency has
not freed. RESET ALARM clears both latches of a lane and returns them (R125); READ DOORS returns seven words and changes nothing
(R133); SET REENTRY WINDOW replaces the length, 0 to 60, and returns the old one (R132). An operand out of range is BAD-OPERAND; of
lane and mode the lane is named (log 35, DESIGN CHOICE). Each command is carried out from its own
row (log 4). -/
def Obligations.DoorCommands : Prop :=
  ∀ s : State, engineOpen s = true →
    (∀ l : Lane,
      (∀ origin : Port,
        (s.gate.lockdown = true → exec (.releaseDoor origin (word l.val)) s = .next (s.answering (.refuse .lockdown))) ∧
        (s.gate.lockdown = false → (s.lane l).pending ≠ none →
          exec (.releaseDoor origin (word l.val)) s = .next (s.answering (.refuse .laneBusy))) ∧
        (s.gate.lockdown = false → (s.lane l).pending = none → (s.door l).status ≠ .lockdown →
          ∃ t, exec (.releaseDoor origin (word l.val)) s = .next t ∧ sameGateBut l s t ∧
            ((s.door l).status = .locked →
              t.door l =
                { s.door l with status := .released, release := (s.lane l).config.releaseTime * 10, heldCount := 0 }) ∧
            ((s.door l).status = .released →
              t.door l = { s.door l with release := (s.lane l).config.releaseTime * 10 }) ∧
            ((s.door l).status = .passing →
              t.door l = { s.door l with heldCount := (s.lane l).config.heldLimit * 100 }) ∧
            ((s.door l).status = .free → t.door l = s.door l) ∧
            t = State.answering
              { appendEntry (gateEntry .doorManual (some l) s.time.clock (originOf origin)) s with gate := t.gate }
              (.done [word (doorStatusCode (t.door l).status)]))) ∧
      ((s.lane l).pending = none →
        ∃ t, exec (.setDoorMode (word l.val) 1) s = .next t ∧ sameGateBut l s t ∧
          (((s.door l).status = .free ∨ (s.door l).status = .lockdown) →
            t.door l = { s.door l with mode := .free } ∧ t.bells = s.bells) ∧
          ((s.door l).status ≠ .free → (s.door l).status ≠ .lockdown →
            t.door l =
              { s.door l with mode := .free, status := .free, release := 0, heldCount := 0, heldBell := false } ∧
            if (s.door l).heldBell = true then stopped (fun _ q => q.source = .held l) s.bells t.bells
            else t.bells = s.bells) ∧
          t = State.answering { s with gate := t.gate, bells := t.bells }
            (.done [word (doorStatusCode (t.door l).status)])) ∧
      (∀ (p : PendingPassage) (r : Record), (s.lane l).pending = some p → s.record p.slot = some r →
        ((s.door l).status = .free ∨ (s.door l).status = .lockdown →
          exec (.setDoorMode (word l.val) 1) s = .next
            ((s.setDoor l { s.door l with mode := .free }).answering
              (.done [word (doorStatusCode (s.door l).status)]))) ∧
        ((s.door l).status ≠ .free → (s.door l).status ≠ .lockdown → (s.lane l).config.mode ≠ .disabled →
          RosterLaw s.roster → PresenceLaw s →
          ∃ u v t,
            exec (.setDoorMode (word l.val) 1) s =
              .next (t.answering (.done [word (doorStatusCode (t.door l).status)])) ∧
            u = { s with gate := u.gate, bells := u.bells } ∧ sameGateBut l s u ∧
            u.door l =
              { s.door l with mode := .free, status := .free, release := 0, heldCount := 0, heldBell := false } ∧
            (if (s.door l).heldBell = true then stopped (fun _ q => q.source = .held l) s.bells u.bells
             else u.bells = s.bells) ∧
            resolves l p r (u.withoutWaiting l) v ∧ thenWaiting l (s.lane l).waiting v t)) ∧
      ∃ t, exec (.setDoorMode (word l.val) 0) s = .next t ∧ sameGateBut l s t ∧
        ((s.door l).status = .free → (s.door l).freed = false →
          t.door l = { (s.door l).shut (s.lane l).config with mode := .normal }) ∧
        (¬ ((s.door l).status = .free ∧ (s.door l).freed = false) → t.door l = { s.door l with mode := .normal }) ∧
        t = State.answering { s with gate := t.gate } (.done [word (doorStatusCode (t.door l).status)])) ∧
    (∀ (origin : Port) (l : Lane),
      exec (.resetAlarm origin (word l.val)) s = .next
        (((appendEntry (gateEntry .alarmReset (some l) s.time.clock (originOf origin)) s).setDoor l
            { s.door l with forced := false, held := false }).answering
          (.done [word (bit (s.door l).forced + 2 * bit (s.door l).held)]))) ∧
    exec .readDoors s = .next (s.answering (.done
      ([word (bit s.gate.lockdown + 2 * bit s.gate.emergency + 4 * bit (decide (0 < s.gate.windowCountdown))),
          word s.gate.windowCountdown, word s.gate.windowLength] ++
        (List.finRange 4).map (fun l =>
          word (doorStatusCode (s.door l).status + 8 * bit (decide ((s.door l).mode = .free)) +
            16 * bit (s.door l).freed + 32 * bit (s.door l).forced + 64 * bit (s.door l).held +
            128 * bit (s.door l).contactOpen))))) ∧
    (∀ w : Word,
      (w.toNat ≤ 60 →
        exec (.setReentryWindow w) s = .next
          ({ s with gate := { s.gate with windowLength := w.toNat } }.answering (.done [word s.gate.windowLength]))) ∧
      (60 < w.toNat → exec (.setReentryWindow w) s = .next (s.answering (.badOperand 0)))) ∧
    ∀ (origin : Port) (lane mode : Word),
      (3 < lane.toNat → exec (.releaseDoor origin lane) s = .next (s.answering (.badOperand 0)) ∧
        exec (.resetAlarm origin lane) s = .next (s.answering (.badOperand 0))) ∧
      ∀ n, firstOut [lane.toNat ≤ 3, mode.toNat ≤ 1] n →
        exec (.setDoorMode lane mode) s = .next (s.answering (.badOperand n))

/-- LOCKDOWN (R128): the flag sets, LOCKDOWN-ON is appended, and lane by lane in the order 0 to 3 every lane the emergency has not
freed goes to LOCKDOWN, its pending passage lapses with its LAPSED entry, and its waiting read is classified (R57): LOCKDOWN where
no earlier check refuses it (log 34, DEDUCED). No presence and no attendance changes; with the flag set it changes nothing. CLEAR
LOCKDOWN (R129): the flag clears and each lane in LOCKDOWN goes to FREE by its mode, else to LOCKED or PASSING; the other lanes
stay. Each command is carried out from its own row (log 4). -/
def Obligations.LockdownAndItsClearing : Prop :=
  ∀ (s : State) (origin : Port), engineOpen s = true → (∀ l, LaneLaw (s.lane l)) →
    (s.gate.lockdown = true → exec (.lockdown origin) s = .next (s.answering (.done [1]))) ∧
    (s.gate.lockdown = false →
      ∃ t, exec (.lockdown origin) s = .next t ∧ t.gate = { s.gate with lockdown := true, doors := t.gate.doors } ∧
        (∀ l, (s.door l).freed = true → t.door l = s.door l ∧ t.lane l = s.lane l) ∧
        (∀ l, (s.door l).freed = false →
          t.door l = { s.door l with status := .lockdown, release := 0, heldCount := 0, heldBell := false } ∧
          (t.lane l).pending = none ∧ (t.lane l).waiting = none ∧ (t.lane l).bits = (s.lane l).bits ∧
          (t.lane l).config = (s.lane l).config) ∧
        (∀ a, (t.record a).map Record.presence = (s.record a).map Record.presence ∧
          (t.record a).map Record.current = (s.record a).map Record.current) ∧
        t.attendance = s.attendance ∧ t.reply = some (.done [0]) ∧
        t = { s with
              lanes := t.lanes, gate := t.gate, roster := { s.roster with records := t.roster.records }
              bells := { s.bells with zones := t.bells.zones }, journal := t.journal
              control := { s.control with bus := t.control.bus, link := t.control.link }, reply := t.reply }) ∧
    (s.gate.lockdown = false → RosterLaw s.roster → PresenceLaw s →
      ∃ c : Fin 5 → State,
        c 0 =
          appendEntry (gateEntry .lockdownOn none s.time.clock (originOf origin))
            { s with gate := { s.gate with lockdown := true } } ∧
        (∀ l : Lane, goesDown l (c l.castSucc) (c l.succ)) ∧
        exec (.lockdown origin) s = .next ((c 4).answering (.done [0]))) ∧
    (s.gate.lockdown = false → exec (.clearLockdown origin) s = .next (s.answering (.done [1]))) ∧
    (s.gate.lockdown = true →
      ∃ t, exec (.clearLockdown origin) s = .next t ∧
        t.gate = { s.gate with lockdown := false, doors := t.gate.doors } ∧
        (∀ l,
          ((s.door l).status = .lockdown → (s.door l).mode = .free →
            t.door l = { s.door l with status := .free, release := 0, heldCount := 0 }) ∧
          ((s.door l).status = .lockdown → (s.door l).mode = .normal →
            t.door l = (s.door l).shut (s.lane l).config) ∧
          ((s.door l).status ≠ .lockdown → t.door l = s.door l)) ∧
        t = State.answering
          { appendEntry (gateEntry .lockdownOff none s.time.clock (originOf origin)) s with gate := t.gate } (.done [0]))

/-- The emergency line's assertion (R56, R130, R149): the state is active, the window stops, every muster flag clears, EMERGENCY-ON
is appended, every pending passage lapses, lane by lane, with the EMERGENCY flag, and every waiting read goes; the FAIL-FREE doors
alone go to FREE, each ending the held alarm that its held-bell mark names, the emergency zones are locked to pattern 7 and every
other zone plays on, the cause is raised, and no presence changes. The line asserts as its pin leaves the high level, to low or to
an open circuit (R186). -/
def Obligations.EmergencyAssertFreesDoors : Prop :=
  ∀ s : State, running s = true → s.gate.emergency = false →
    ∃ t, exec .emergencyAssert s = .next t ∧
      t.gate = { s.gate with emergency := true, windowCountdown := 0, doors := t.gate.doors } ∧
      t.pins = { s.pins with emergencyLine := true } ∧
      (∀ l, t.lane l = { s.lane l with pending := none, waiting := none }) ∧
      (∀ l, t.door l =
        if (s.lane l).config.failState = .failFree then
          { s.door l with status := .free, freed := true, release := 0, heldCount := 0, heldBell := false }
        else s.door l) ∧
      (∀ a, t.record a = (s.record a).map (fun r =>
        { r with
          muster := false
          pendingLane := if ∃ l, ∃ p ∈ (s.lane l).pending, p.slot = a then none else r.pendingLane })) ∧
      (∀ z, s.bells.emergencyMask.getLsbD z.val = true → (vget s.bells.patterns 7).priority = 4 →
        (vget s.bells.patterns 7).period ≠ 0 → (∀ q ∈ vget s.bells.zones z, q.copy.priority ≤ 4) →
        vget t.bells.zones z = some (s.bells.started 7 .evacuation)) ∧
      t.bells = { s.bells with locked := s.bells.emergencyMask, zones := t.bells.zones } ∧
      (∃ b : Bells,
        stopped
          (fun _ q => ∃ l, (s.lane l).config.failState = .failFree ∧ (s.door l).heldBell = true ∧ q.source = .held l)
          s.bells b ∧
        requested s.bells.emergencyMask 7 .evacuation { b with locked := s.bells.emergencyMask } t.bells) ∧
      (∀ x y : PinLevel, emergencyRows x y = [.emergencyAssert] ↔ x = .high ∧ y ≠ .high) ∧
      (∀ p, (t.portState p).eventSummary.getLsbD 2 = true) ∧
      (∃ (lapsed : List (Lane × PendingPassage)) (u : State),
        lapsed.Pairwise (fun x y => x.1 < y.1) ∧ (∀ l p, (l, p) ∈ lapsed ↔ (s.lane l).pending = some p) ∧
        u =
          lapsed.foldl
            (fun v x =>
              appendEntry
                (laneEntry .lapsed x.1 x.2.slot x.2.badge x.2.readTime
                  { softPassback := x.2.softPassback, emergency := true } (punchKindCode x.2.kind)) v)
            (appendEntry (gateEntry .emergencyOn none s.time.clock {}) s) ∧
        t.journal = u.journal ∧ ∀ p, (t.portState p).eventSummary = (u.portState p).eventSummary ||| 4) ∧
      t = { s with
            pins := t.pins, lanes := t.lanes, gate := t.gate, bells := t.bells, journal := t.journal
            roster := { s.roster with records := t.roster.records }
            control := { s.control with bus := t.control.bus, link := t.control.link } }

/-- The emergency line's release (R131, R132, R149): the state ends, freed lanes return, the re-entry window is loaded, pattern 7 stops
on the locked zones, EMERGENCY-OFF is appended and the cause raised. -/
def Obligations.EmergencyReleaseReturnsDoors : Prop :=
  ∀ s : State, running s = true → s.gate.emergency = true →
    ∃ t u, exec .emergencyRelease s = .next t ∧ u = appendEntry (gateEntry .emergencyOff none s.time.clock {}) s ∧
      t.gate =
        { s.gate with emergency := false, windowCountdown := s.gate.windowLength * 60, doors := t.gate.doors } ∧
      (∀ l,
        ((s.door l).freed = false → t.door l = s.door l) ∧
        ((s.door l).freed = true →
          t.door l =
            if s.gate.lockdown = true then
              { s.door l with freed := false, status := .lockdown, release := 0, heldCount := 0 }
            else if (s.door l).mode = .free then
              { s.door l with freed := false, status := .free, release := 0, heldCount := 0 }
            else { (s.door l).shut (s.lane l).config with freed := false })) ∧
      stopped (fun z q => s.bells.locked.getLsbD z.val = true ∧ q.pattern = 7) { s.bells with locked := 0 } t.bells ∧
      (∀ p, (t.portState p).eventSummary = (u.portState p).eventSummary ||| 4) ∧
      t = { u with
            pins := { s.pins with emergencyLine := false }, gate := t.gate, bells := t.bells
            control := { u.control with bus := t.control.bus, link := t.control.link } }

/-! ## Pay tables -/

/-- WRITE SHIFT with an image in range replaces the one definition, which then reads as the image (R82); READ SHIFT writes the fifteen
words of a definition to its buffer and changes nothing (R83). A refused buffer and the first image word out of range, or the shift
number and then the buffer, are answered so and nothing changes; in R83 BAD-BUFFER before BUFFER-SHORT is log 38 (DESIGN CHOICE). Each
command is carried out from its own row (log 4). -/
def Obligations.ShiftTableCommands : Prop :=
  (∀ (s : State) (number : Word) (buf : Buffer), engineOpen s = true →
    (∀ r, bufferRefused buf 15 r →
      exec (.writeShift buf) s = .next (s.answering (.refuse r)) ∧
        (number.toNat ≤ 15 → exec (.readShift number buf) s = .next (s.answering (.refuse r)))) ∧
    (bufferFits buf 15 → ∀ n, firstOut (shiftRanges (bufferWords s.memory buf 15)) n →
      exec (.writeShift buf) s = .next (s.answering (.badOperand n))) ∧
    (15 < number.toNat → exec (.readShift number buf) s = .next (s.answering (.badOperand 0)))) ∧
  ∀ (s : State) (buf : Buffer) (k : ShiftNumber), engineOpen s = true → bufferFits buf 15 →
    (shiftInRange (bufferWords s.memory buf 15) → k.val = ((bufferWords s.memory buf 15).getD 0 0).toNat →
      ∃ t, exec (.writeShift buf) s = .next t ∧
        (vget t.pay.shifts k).words (word k.val) = bufferWords s.memory buf 15 ∧
        (∀ j, j ≠ k → vget t.pay.shifts j = vget s.pay.shifts j) ∧
        t = State.answering { s with pay := { s.pay with shifts := t.pay.shifts } }
          { code := .done, results := [(8, word k.val)], used := some 15, out := [] }) ∧
    exec (.readShift (word k.val) buf) s = .next
      (s.writing buf (.doneOut ((vget s.pay.shifts k).words (word k.val)) [word k.val]))

/-- READ PAY CLASS returns the class number and its four figures, or names the number out of range (R85). Each command is carried
out from its own row (log 4). -/
def Obligations.ReadPayClassReturnsClass : Prop :=
  commandOf 0x0043 = some .readPayClass ∧
    ∀ (s : State) (origin : Port) (op : Operands) (buf : Buffer) (number : Word),
      (15 < number.toNat →
        cmdReadPayClass number s = (s, .badOperand 0) ∧
        (engineOpen s = true → exec (.readPayClass number) s = .next (s.answering (.badOperand 0)))) ∧
      (∀ k : ClassNumber, number = word k.val →
        cmdReadPayClass number s =
          (s,
            .done
              [word k.val, word (vget s.pay.classes k).base, word (vget s.pay.classes k).overtime,
               word (vget s.pay.classes k).holiday, word (vget s.pay.classes k).night]) ∧
        (engineOpen s = true →
          exec (.readPayClass number) s = .next (s.answering (cmdReadPayClass number s).2))) ∧
      Command.run origin op buf s .readPayClass = cmdReadPayClass (op 0) s

/-- READ HOLIDAYS copies as many days as the buffer holds, from the first, with the number of days and the number copied (R87).
Each command is carried out from its own row (log 4). -/
def Obligations.ReadHolidaysCopiesList : Prop :=
  commandOf 0x0045 = some .readHolidays ∧
    ∀ (s : State) (origin : Port) (op : Operands) (buf : Buffer),
      Command.run origin op buf s .readHolidays = cmdReadHolidays buf s ∧
      ((buf.addr.toNat < 0x100 ∨ 0x2000 ≤ buf.addr.toNat) →
        cmdReadHolidays buf s = (s, .refuse .badBuffer) ∧
        (engineOpen s = true → exec (.readHolidays buf) s = .next (s.answering (.refuse .badBuffer)))) ∧
      (0x100 ≤ buf.addr.toNat → buf.addr.toNat < 0x2000 →
        ∃ copied, copied = s.pay.holidays.take (min buf.len.toNat 256) ∧
          (s.pay.holidays.Pairwise (· < ·) → copied.Pairwise (· < ·)) ∧
          cmdReadHolidays buf s =
            (s,
              { code := .done
                results := [(8, word s.pay.holidays.length), (9, word copied.length)]
                used := some (word copied.length)
                out := copied.map word }) ∧
          (engineOpen s = true → exec (.readHolidays buf) s = .next (s.writing buf (cmdReadHolidays buf s).2)))

/-- WRITE PAY CLASS (R84), WRITE HOLIDAYS (R86) and CLOSE PERIOD (R100). A class number above 15 is BAD-OPERAND with index 0 whatever
follows it, a holiday count above 32 likewise, before its buffer is refused, BAD-BUFFER before BUFFER-SHORT (log 38, DESIGN CHOICE).
Each command is carried out from its own row (log 4). -/
def Obligations.PayTableWrites : Prop :=
  ∀ s : State, engineOpen s = true →
    (∀ (k : ClassNumber) (base overtime holiday night : Word),
      exec (.writePayClass (word k.val) base overtime holiday night) s = .next
        (if overtime.toNat < 8 ∨ 24 < overtime.toNat then s.answering (.badOperand 2)
         else if holiday.toNat < 8 ∨ 24 < holiday.toNat then s.answering (.badOperand 3)
         else if 4095 < night.toNat then s.answering (.badOperand 4)
         else
           State.answering
             { s with
               pay :=
                 { s.pay with
                   classes := vset s.pay.classes k ⟨base.toNat, overtime.toNat, holiday.toNat, night.toNat⟩ } }
             (.done [word k.val]))) ∧
    (∀ number base overtime holiday night : Word, 15 < number.toNat →
      exec (.writePayClass number base overtime holiday night) s = .next (s.answering (.badOperand 0))) ∧
    (∀ (count : Word) (buf : Buffer),
      (32 < count.toNat → exec (.writeHolidays count buf) s = .next (s.answering (.badOperand 0))) ∧
      (count.toNat ≤ 32 → count ≠ 0 → ∀ r, bufferRefused buf count.toNat r →
        exec (.writeHolidays count buf) s = .next (s.answering (.refuse r)))) ∧
    (∀ (count : Word) (buf : Buffer), count.toNat ≤ 32 → (count = 0 ∨ bufferFits buf count.toNat) →
      ∃ t, exec (.writeHolidays count buf) s = .next t ∧ t.pay.holidays.Pairwise (· < ·) ∧
        (∀ d ∈ t.pay.holidays, ∃ w ∈ bufferWords s.memory buf count.toNat, w.toNat = d) ∧
        (∀ w ∈ bufferWords s.memory buf count.toNat, w.toNat ∈ t.pay.holidays) ∧
        t = State.answering { s with pay := { s.pay with holidays := t.pay.holidays } }
          { code := .done, results := [(8, count), (9, word t.pay.holidays.length)], used := some count, out := [] }) ∧
    (∀ (origin : Port) (period : Word),
      exec (.closePeriod origin period) s = .next
        (if period.toNat = s.pay.period then
          State.answering
            { appendEntry
                { kind := .periodClose, lane := none, time := s.time.clock, slot := none, badge := none
                  flags := originOf origin, kindWord := 0
                  extra := .periods s.pay.period ((s.pay.period + 1) % 65536) } s with
              pay := { s.pay with period := (s.pay.period + 1) % 65536 } }
            (.done [word s.pay.period, word ((s.pay.period + 1) % 65536)])
         else
          s.answering
            { code := .range, results := [(9, word s.pay.period)], used := none, out := [] }))

/-- The figures of a scheduled closing (R90–R96): the effective times, span, meal, overtime, holiday and pay, each by its own
rule, and the bounds that R96 states; those of an unscheduled one, all 0 (R97; its period is log 18, DEDUCED); and a totals set
with a closing added, each field held at its limit (R98). -/
def Obligations.ClosingFigures : Prop :=
  (∀ (sh : ShiftDef) (c : PayClass) (holidays : List Nat) (period : Nat) (sc : Schedule) (tIn : Nat) (tOut : Option Nat)
      (f : Figures), 0 < sh.unit → f = scheduledFigures sh c holidays period sc tIn tOut →
    (tIn ≤ sc.startMinute + sh.graceIn → f.ein = sc.startMinute) ∧
    (sc.startMinute + sh.graceIn < tIn →
      tIn ≤ f.ein ∧ f.ein < tIn + sh.unit ∧ (sh.unit : Int) ∣ f.ein - sc.startMinute) ∧
    (tOut = none → f.eout = sc.endMinute ∧ f.missedOut = true) ∧
    (∀ t ∈ tOut, f.missedOut = false ∧
      (sc.endMinute ≤ t + sh.graceOut → t ≤ sc.endMinute + sh.graceOut → f.eout = sc.endMinute) ∧
      (t + sh.graceOut < sc.endMinute →
        f.eout ≤ t ∧ (t : Int) < f.eout + sh.unit ∧ (sh.unit : Int) ∣ f.eout - sc.startMinute) ∧
      (sc.endMinute + sh.graceOut < t →
        f.eout ≤ t ∧ (t : Int) < f.eout + sh.unit ∧ (sh.unit : Int) ∣ f.eout - sc.endMinute)) ∧
    (f.capped = true ↔ 960 < f.eout - f.ein) ∧ (f.holiday = true ↔ sc.day ∈ holidays) ∧
    f.shiftDay = some ⟨sc.shift, sc.day⟩ ∧ f.period = period ∧
    (∃ span paid N : Nat,
      (span : Int) = max 0 (min 960 (f.eout - f.ein)) ∧
      paid = (if 0 < sh.meal ∧ sh.mealThreshold ≤ span then span - sh.meal else span) ∧
      f.regular = min paid sh.overtimeThreshold ∧ f.regular + f.overtime = paid ∧ f.night ≤ paid ∧
      f.holidayMinutes = (if f.holiday = true then f.regular else 0) ∧
      N = (if f.holiday = true then c.holiday else 8) * f.regular * c.base + c.overtime * f.overtime * c.base +
        8 * f.night * c.night ∧
      480 * f.pay ≤ N + 240 ∧ N + 240 < 480 * (f.pay + 1))) ∧
  (∀ (pt : PayTables) (k : ClassNumber) (e : Attendance) (tOut : Option Nat), e.schedule = none →
    closingFigures pt k e tOut = ⟨none, 0, 0, 0, 0, 0, 0, 0, pt.period, false, false, false⟩) ∧
  (∀ (pt : PayTables) (k : ClassNumber) (e : Attendance) (sc : Schedule) (tOut : Option Nat), e.schedule = some sc →
    closingFigures pt k e tOut =
      scheduledFigures (vget pt.shifts sc.shift) (vget pt.classes k) pt.holidays pt.period sc
        (e.tIn.day * 1440 + e.tIn.minute) tOut) ∧
  ∀ (o : Totals) (f : Figures), ∃ n marks, n = o.addClosing f ∧
    marks = (if f.missedOut = true then 1 else 0) + (if f.capped = true then 1 else 0) ∧ n.period = o.period ∧
    n.regular = min (o.regular + f.regular) 65535 ∧ n.overtime = min (o.overtime + f.overtime) 65535 ∧
    n.night = min (o.night + f.night) 65535 ∧ n.holiday = min (o.holiday + f.holidayMinutes) 65535 ∧
    n.pay = min (o.pay + f.pay) 4294967295 ∧ n.closed = min (o.closed + 1) 65535 ∧
    n.exceptions = min (o.exceptions + marks) 65535 ∧
    (n.saturated = true ↔
      o.saturated = true ∨ 65535 < o.regular + f.regular ∨ 65535 < o.overtime + f.overtime ∨
        65535 < o.night + f.night ∨ 65535 < o.holiday + f.holidayMinutes ∨ 4294967295 < o.pay + f.pay ∨
        65535 < o.closed + 1 ∨ 65535 < o.exceptions + marks)

/-- The night minutes of a scheduled closing: 0 where night start equals night end; else the overlaps of [ein, ein + span) with
the windows of the days day(ein) − 1 through day(ein + span), no two of which overlap, summed and held to the paid minutes (R94).
They are the minutes of the interval that lie in the window by the minute of the day. -/
def Obligations.NightMinutesCounted : Prop :=
  (∀ (sh : ShiftDef) (ein : Int) (span paid : Nat), sh.nightStart ≤ 1439 → sh.nightEnd ≤ 1439 → 0 ≤ ein →
    ∃ inside : List Nat, inside.Nodup ∧
      (∀ m, m ∈ inside ↔ m < span ∧ sh.inNight ((ein.toNat + m) % 1440)) ∧ nightOf sh ein span paid = min inside.length paid) ∧
  ∀ (sh : ShiftDef) (c : PayClass) (holidays : List Nat) (period : Nat) (sc : Schedule) (tIn : Nat) (tOut : Option Nat)
      (f : Figures) (first last : Int) (span : Nat),
    f = scheduledFigures sh c holidays period sc tIn tOut → (span : Int) = max 0 (min 960 (f.eout - f.ein)) →
    first = f.ein / 1440 - 1 → last = (f.ein + span) / 1440 →
    (sh.nightStart = sh.nightEnd → f.night = 0) ∧
    (sh.nightStart ≠ sh.nightEnd →
      f.night =
        min
          (((List.range (last - first + 1).toNat).map
            (fun i => meetOf (f.ein, f.ein + span) (sh.windowOf (first + i)))).sum)
          (f.regular + f.overtime)) ∧
    ∀ i j : Int, i < j → sh.nightStart ≤ 1439 → sh.nightEnd ≤ 1439 → (sh.windowOf i).2 ≤ (sh.windowOf j).1

/-! ## Attendance -/

/-- FORCE IN, FORCE OUT and CANCEL on a record that is not pending (R112–R115): the attendance opened in its place, closed with its
figures, or removed without any; presence, totals, muster flag and the CORRECTION entry follow. The refusals in their order (R112),
each of which changes nothing: BAD-OPERAND, CLOCK-UNSET but for CANCEL, NOT-FOUND with 0 in word 9, BUSY-RECORD, then NOT-FOUND with
1 in word 9 or RECORD-PRESENT. Of several words out of range the first is named (log 35, DESIGN CHOICE). Each command is carried out
from its own row (log 4). -/
def Obligations.CorrectionsOfPresence : Prop :=
  (∀ (s : State) (origin : Port) (selector x y z day minute second : Word), engineOpen s = true →
    (∀ i, badReference 1 selector x y = some i →
      bothForced s origin selector x y z day minute second (.badOperand i) ∧
        exec (.cancel origin selector x y z) s = .next (s.answering (.badOperand i))) ∧
    (badReference 1 selector x y = none →
      (∀ n, firstOut [True, minute.toNat ≤ 1439, second.toNat ≤ 59] n →
        bothForced s origin selector x y z day minute second (.badOperand (5 + n))) ∧
      (minute.toNat ≤ 1439 → second.toNat ≤ 59 → s.time.clockUnset = true →
        bothForced s origin selector x y z day minute second (.refuse .clockUnset)) ∧
      (RosterLaw s.roster → refersNowhere s selector x y z →
        (minute.toNat ≤ 1439 → second.toNat ≤ 59 → s.time.clockUnset = false →
          bothForced s origin selector x y z day minute second (.refuseWord9 .notFound 0)) ∧
        exec (.cancel origin selector x y z) s = .next (s.answering (.refuseWord9 .notFound 0))) ∧
      ∀ (a : Slot) (r : Record), RosterLaw s.roster → s.record a = some r → refersTo selector x y z a r →
        (r.pendingLane ≠ none →
          (minute.toNat ≤ 1439 → second.toNat ≤ 59 → s.time.clockUnset = false →
            bothForced s origin selector x y z day minute second (.refuse .busyRecord)) ∧
          exec (.cancel origin selector x y z) s = .next (s.answering (.refuse .busyRecord))) ∧
        (r.pendingLane = none → r.presence = .out →
          (minute.toNat ≤ 1439 → second.toNat ≤ 59 → s.time.clockUnset = false →
            exec (.forceOut origin selector x y z day minute second) s =
              .next (s.answering (.refuseWord9 .notFound 1))) ∧
          exec (.cancel origin selector x y z) s = .next (s.answering (.refuseWord9 .notFound 1))) ∧
        (r.pendingLane = none → r.presence = .inside → minute.toNat ≤ 1439 → second.toNat ≤ 59 →
          s.time.clockUnset = false →
          exec (.forceIn origin selector x y z day minute second) s = .next (s.answering (.refuse .recordPresent))))) ∧
  ∀ (s : State) (origin : Port) (a : Slot) (r : Record) (selector x y z day minute second : Word) (time : Time),
    engineOpen s = true → RosterLaw s.roster → refersTo selector x y z a r → s.time.clockUnset = false →
    minute.toNat ≤ 1439 → second.toNat ≤ 59 → s.record a = some r →
    r.pendingLane = none → time = ⟨day.toNat, minute.toNat, second.toNat⟩ →
    (r.presence = .out →
      ∃ sd, choosesInstance s r.shift time.day (time.day * 1440 + time.minute) sd ∧
        ∃ t u, exec (.forceIn origin selector x y z day minute second) s = .next t ∧
          u = appendEntry (correctionEntry origin 1 a r sd.isSome time {} .none) s ∧
          insertedIn (s.pay.opens a sd time) s.attendance t.attendance ∧
          t.record a = some { (if sd.isSome then r else r.excepted s.pay.period) with presence := .inside } ∧
          (∀ b, b ≠ a → t.record b = s.record b) ∧
          t = State.answering
            { u with
              attendance := t.attendance, roster := { s.roster with records := t.roster.records }
              control := { u.control with presentMirror := t.attendance.length } }
            (.done
              [word a.val, if sd.isSome then 0 else 1, word ((sd.map ShiftDay.day).getD 0),
               word ((sd.map (fun d => d.shift.val)).getD 0), word t.attendance.length])) ∧
    (r.presence = .inside → (s.attendance.map Attendance.slot).Nodup → ∀ e ∈ s.attendance, e.slot = a →
      (∃ t u f, exec (.forceOut origin selector x y z day minute second) s = .next t ∧
        f = closingFigures s.pay r.payClass e (some (time.day * 1440 + time.minute)) ∧
        u = appendEntry
          (correctionEntry origin 0 a r e.schedule.isSome time
            { missedOut := f.missedOut, capped := f.capped, holiday := f.holiday } (.closing f)) s ∧
        t.attendance = s.attendance.filter (fun x => decide (x.slot ≠ a)) ∧
        t.record a = some
          { r.rolled s.pay.period with
            current := (r.rolled s.pay.period).current.addClosing f, presence := .out, muster := false } ∧
        (∀ b, b ≠ a → t.record b = s.record b) ∧
        t = State.answering
          { u with
            attendance := t.attendance, roster := { s.roster with records := t.roster.records }
            control := { u.control with presentMirror := t.attendance.length } }
          (.done
            [word a.val, if e.schedule.isSome then 0 else 1, word (f.pay / 65536), word f.pay,
             word t.attendance.length])) ∧
      ∃ t u, exec (.cancel origin selector x y z) s = .next t ∧
        u = appendEntry (correctionEntry origin 2 a r e.schedule.isSome s.time.clock {} .none) s ∧
        t.attendance = s.attendance.filter (fun x => decide (x.slot ≠ a)) ∧
        t.record a = some { r with presence := .out, muster := false } ∧ (∀ b, b ≠ a → t.record b = s.record b) ∧
        t = State.answering
          { u with
            attendance := t.attendance, roster := { s.roster with records := t.roster.records }
            control := { u.control with presentMirror := t.attendance.length } }
          (.done [word a.val, if e.schedule.isSome then 0 else 1, 0, 0, word t.attendance.length]))

/-- LIST PRESENT (R111) copies, in list order and after the entries skipped, as many whole matching entries as the buffer holds, and
changes nothing. The first operand out of range (log 35, DESIGN CHOICE) is BAD-OPERAND, then the buffer is checked, BAD-BUFFER before
BUFFER-SHORT (log 38, DESIGN CHOICE). Each command is carried out from its own row (log 4). -/
def Obligations.ListPresentCopiesEntries : Prop :=
  (∀ (s : State) (filter skip : Word) (buf : Buffer), engineOpen s = true →
    (∀ n, firstOut [filter.toNat ≤ 1, skip.toNat ≤ 2047] n →
      exec (.listPresent filter skip buf) s = .next (s.answering (.badOperand n))) ∧
    (filter.toNat ≤ 1 → skip.toNat ≤ 2047 → ∀ r, bufferRefused buf 10 r →
      exec (.listPresent filter skip buf) s = .next (s.answering (.refuse r)))) ∧
  ∀ (s : State) (filter skip : Word) (buf : Buffer), engineOpen s = true → filter.toNat ≤ 1 → skip.toNat ≤ 2047 →
    bufferFits buf 10 → (∀ e ∈ s.attendance, (s.record e.slot).isSome = true) →
    ∃ matching,
      matching =
        s.attendance.filter (fun e => decide (filter = 0 ∨ (s.record e.slot).map Record.muster = some false)) ∧
      ∃ copied, copied = (matching.drop skip.toNat).take (min buf.len.toNat 256 / 10) ∧
        exec (.listPresent filter skip buf) s = .next
          (s.writing buf
            (.doneOut (copied.flatMap (fun e => (s.record e.slot).toList.flatMap e.words))
              [word matching.length, word copied.length]))

/-! ## Bells -/

/-- WRITE BELL ENTRY and WRITE PATTERN replace the one entry or pattern, and READ BELL ENTRY and READ PATTERN return it (R137, R138,
R143). The first operand out of range is BAD-OPERAND and nothing changes; for pattern 7 any bit of the last word above its zones is
out of range (log 39, DESIGN CHOICE). Each command is carried out from its own row (log 4). -/
def Obligations.BellTableCommands : Prop :=
  ∀ s : State, engineOpen s = true →
    (∀ index flags moment offset dayMask zones pattern : Word,
      (∀ n, firstOut
          [index.toNat ≤ 63, (flags.toNat / 2) % 4 ≤ 2, moment.toNat ≤ (if (flags.toNat / 2) % 4 = 0 then 1439 else 15),
           (flags.toNat / 2) % 4 ≠ 0 → -120 ≤ offset.toInt ∧ offset.toInt ≤ 120,
           (flags.toNat / 2) % 4 = 0 → dayMask.toNat ≤ 127, zones.toNat ≤ 255, pattern.toNat ≤ 6] n →
        exec (.writeBellEntry index flags moment offset dayMask zones pattern) s = .next (s.answering (.badOperand n))) ∧
      (63 < index.toNat → exec (.readBellEntry index) s = .next (s.answering (.badOperand 0)))) ∧
    (∀ number on period strokes gap groups last : Word,
      (∀ n, firstOut
          [number.toNat ≤ 7, 1 ≤ on.toNat ∧ on.toNat ≤ 255,
           period.toNat ≤ 255 ∧ (number = 7 → period ≠ 0), 1 ≤ strokes.toNat ∧ strokes.toNat ≤ 15, gap.toNat ≤ 255,
           groups.toNat ≤ 255, last.toNat ≤ (if number = 7 then 255 else 3)] n →
        exec (.writePattern number on period strokes gap groups last) s = .next (s.answering (.badOperand n))) ∧
      (7 < number.toNat → exec (.readPattern number) s = .next (s.answering (.badOperand 0)))) ∧
    (∀ (i : BellIndex) (flags moment offset dayMask zones pattern : Word),
      (flags.toNat / 2) % 4 ≤ 2 → zones.toNat ≤ 255 → pattern.toNat ≤ 6 →
      ((flags.toNat / 2) % 4 = 0 → moment.toNat ≤ 1439 ∧ dayMask.toNat ≤ 127) →
      ((flags.toNat / 2) % 4 ≠ 0 → moment.toNat ≤ 15 ∧ -120 ≤ offset.toInt ∧ offset.toInt ≤ 120) →
      ∃ t, exec (.writeBellEntry (word i.val) flags moment offset dayMask zones pattern) s = .next t ∧
        (∀ j, j ≠ i → vget t.bells.schedule j = vget s.bells.schedule j) ∧
        (vget t.bells.schedule i).enabled = flags.getLsbD 0 ∧
        (vget t.bells.schedule i).trigger =
          (if (flags.toNat / 2) % 4 = 0 then .clock else if (flags.toNat / 2) % 4 = 1 then .shiftStart else .shiftEnd) ∧
        (vget t.bells.schedule i).holidayRule = (if flags.getLsbD 3 then .ring else .skip) ∧
        (vget t.bells.schedule i).zones.toNat = zones.toNat ∧
        (vget t.bells.schedule i).pattern.val = pattern.toNat ∧
        ((flags.toNat / 2) % 4 = 0 →
          (vget t.bells.schedule i).minute = moment.toNat ∧ (vget t.bells.schedule i).dayMask.toNat = dayMask.toNat) ∧
        ((flags.toNat / 2) % 4 ≠ 0 →
          (vget t.bells.schedule i).shift.val = moment.toNat ∧ (vget t.bells.schedule i).offset = offset.toInt) ∧
        t = State.answering { s with bells := { s.bells with schedule := t.bells.schedule } } (.done [word i.val])) ∧
    (∀ i : BellIndex, ∃ e, e = vget s.bells.schedule i ∧
      exec (.readBellEntry (word i.val)) s = .next (s.answering (.done
        [word i.val, word (bit e.enabled + 2 * triggerCode e.trigger + 8 * holidayRuleCode e.holidayRule),
         if e.trigger = .clock then word e.minute else word e.shift.val, BitVec.ofInt 16 e.offset, word e.dayMask.toNat,
         word e.zones.toNat, word e.pattern.val]))) ∧
    (∀ (n : PatternNumber) (on period strokes gap groups last : Word),
      1 ≤ on.toNat → on.toNat ≤ 255 → period.toNat ≤ 255 → (n = 7 → period ≠ 0) → 1 ≤ strokes.toNat →
      strokes.toNat ≤ 15 → gap.toNat ≤ 255 → groups.toNat ≤ 255 → last.toNat ≤ (if n = 7 then 255 else 3) →
      ∃ p : Pattern,
        p = ⟨on.toNat, period.toNat, strokes.toNat, gap.toNat, groups.toNat, if n = 7 then 4 else last.toNat⟩ ∧
        exec (.writePattern (word n.val) on period strokes gap groups last) s = .next
          (State.answering
            { s with
              bells :=
                { s.bells with
                  patterns := vset s.bells.patterns n p
                  emergencyMask := if n = 7 then last.setWidth 8 else s.bells.emergencyMask } }
            (.done [word n.val]))) ∧
    (∀ n : PatternNumber, ∃ p, p = vget s.bells.patterns n ∧
      exec (.readPattern (word n.val)) s = .next (s.answering (.done
        [word n.val, word p.on, word p.period, word p.strokes, word p.gap, word p.groups,
         if n = 7 then word (s.bells.emergencyMask.toNat + 256 * p.priority) else word p.priority])))

/-- RING ZONES, SILENCE ZONES and READ BELLS (R145, R147, R148, R150): each zone of the mask takes the request or plays on, and the
two results say which; a mask that names a locked zone in an emergency silences nothing. The fields of an IDLE zone read 0 (log 30,
DESIGN CHOICE). SILENCE ZONES returns the zones of its mask that were PLAYING, and no zone outside it (log 40, DESIGN CHOICE). A
mask that names a zone above 7 is BAD-OPERAND, before a pattern above 6 (log 35) and before EMERGENCY-ACTIVE (log 38); READ BELLS
checks its buffer, BAD-BUFFER before BUFFER-SHORT (log 38; DESIGN CHOICE all). Each command is carried out from its own row (log 4). -/
def Obligations.ZoneCommands : Prop :=
  ∀ s : State, engineOpen s = true →
    (∀ (origin : Port) (zones pattern : Word),
      (∀ n, firstOut [zones.toNat ≤ 255, pattern.toNat ≤ 6] n →
        exec (.ringZones origin zones pattern) s = .next (s.answering (.badOperand n))) ∧
      (255 < zones.toNat → exec (.silenceZones zones) s = .next (s.answering (.badOperand 0)))) ∧
    (∀ (buf : Buffer) (r : Response), bufferRefused buf 24 r →
      exec (.readBells buf) s = .next (s.answering (.refuse r))) ∧
    (∀ (origin : Port) (zones : Word) (n : PatternNumber), zones.toNat ≤ 255 → n.val ≤ 6 →
      ∃ t took left, exec (.ringZones origin zones (word n.val)) s = .next t ∧
        requested (zones.setWidth 8) n (.manual origin) s.bells t.bells ∧
        (∀ z : Zone, took.getLsbD z.val = true ↔ zones.getLsbD z.val = true ∧ s.bells.accepts z n) ∧
        took + left = zones ∧ took &&& left = 0 ∧
        t = State.answering { s with bells := t.bells } (.done [took, left])) ∧
    (∀ zones : Word, zones.toNat ≤ 255 →
      (s.gate.emergency = true → zones.setWidth 8 &&& s.bells.locked ≠ 0 →
        exec (.silenceZones zones) s = .next (s.answering (.refuse .emergencyActive))) ∧
      ((s.gate.emergency = false ∨ zones.setWidth 8 &&& s.bells.locked = 0) →
        ∃ t played, exec (.silenceZones zones) s = .next t ∧
          stopped (fun z _ => zones.getLsbD z.val = true) s.bells t.bells ∧
          (∀ z : Zone, played.getLsbD z.val = (zones.getLsbD z.val && (vget s.bells.zones z).isSome)) ∧
          (∀ i, 8 ≤ i → played.getLsbD i = false) ∧
          t = State.answering { s with bells := t.bells } (.done [played]))) ∧
    (∀ buf : Buffer, bufferFits buf 24 →
      (∀ z, vget s.bells.zones z = none →
        zoneWords s z = [word (128 * bit (s.bells.locked.getLsbD z.val)), 0, 0]) ∧
      (∀ z, ∀ q ∈ vget s.bells.zones z,
        zoneWords s z =
          [word (1 + 2 * q.pattern.val + 16 * q.copy.priority + 128 * bit (s.bells.locked.getLsbD z.val) +
              256 * bit q.output),
           sourceWord q.source, if q.copy.groups = 0 then 0 else word q.groupsLeft]) ∧
      exec (.readBells buf) s = .next
        (s.writing buf
          (.doneOut ((List.finRange 8).flatMap (zoneWords s))
            [word s.bells.locked.toNat, word s.bells.emergencyMask.toNat])))

/-- A zone player (R144): its copied pattern and counters at the start of a pattern, its output, what each tick does in STROKE and
GAP, each zone by itself; a finite pattern plays for groups × strokes × period + (groups − 1) × gap ticks and then its zone is
IDLE, its first stroke on for the first min(on, period) ticks, and the continuous pattern never ends. -/
def Obligations.PatternPlaysItsTicks : Prop :=
  (∀ (b : Bells) (n : PatternNumber) (source : ZoneSource), 0 < (vget b.patterns n).period →
    0 < (vget b.patterns n).strokes →
    (0 < (vget b.patterns n).groups →
      ∀ total, total = (vget b.patterns n).groups * (vget b.patterns n).strokes * (vget b.patterns n).period +
          ((vget b.patterns n).groups - 1) * (vget b.patterns n).gap →
        ticksOf total (some (b.started n source)) = none ∧
        ∀ k, k < total → (ticksOf k (some (b.started n source))).isSome = true) ∧
    ((vget b.patterns n).groups = 0 → ∀ k, (ticksOf k (some (b.started n source))).isSome = true) ∧
    ∀ k, k < (vget b.patterns n).period →
      (ticksOf k (some (b.started n source))).map Playing.output =
        some (decide (k < min (vget b.patterns n).on (vget b.patterns n).period))) ∧
  (∀ (b : Bells) (n : PatternNumber) (source : ZoneSource) (q : Playing), q = b.started n source →
    q.copy = vget b.patterns n ∧ q.phase = .stroke ∧ q.counter = q.copy.period ∧ q.strokesLeft = q.copy.strokes ∧
      q.groupsLeft = q.copy.groups ∧
      ∀ z, b.accepts z n → vget (b.request z n source).zones z = some q) ∧
  (∀ (s : State) (z : Zone), running s = true →
    (vget s.bells.zones z = none → zoneOutput s z = false) ∧
    ∀ q, vget s.bells.zones z = some q →
      (zoneOutput s z = true ↔ q.phase = .stroke ∧ q.copy.period - min q.copy.on q.copy.period < q.counter)) ∧
  (∀ q : Playing,
    (1 < q.counter → q.tick = some { q with counter := q.counter - 1 }) ∧
    (q.counter = 1 →
      (q.phase = .gap → q.tick = some { q with phase := .stroke, counter := q.copy.period }) ∧
      (q.phase = .stroke →
        (1 < q.strokesLeft → q.tick = some { q with counter := q.copy.period, strokesLeft := q.strokesLeft - 1 }) ∧
        (q.strokesLeft ≤ 1 → (q.copy.groups = 0 ∨ 1 < q.groupsLeft) →
          q.tick = some
            { q with
              strokesLeft := q.copy.strokes
              groupsLeft := if q.copy.groups = 0 then q.groupsLeft else q.groupsLeft - 1
              phase := if 0 < q.copy.gap then .gap else .stroke
              counter := if 0 < q.copy.gap then q.copy.gap else q.copy.period }) ∧
        (q.strokesLeft ≤ 1 → q.copy.groups ≠ 0 → q.groupsLeft ≤ 1 → q.tick = none)))) ∧
  ∀ (s : State) (z : Zone), vget (tickZones s).bells.zones z = (vget s.bells.zones z).bind Playing.tick

/-! ## Journal -/

/-- An append to a journal that some consumer reads (R153, R156, R158, R159): with L + 8 words free the entry is stored at W,
whatever the span (log 22, DEDUCED); else it is dropped, into the open GAP or into a new one in the reserve, and W rises by 1;
where the span would pass 2,147,483,647 the drop leaves no trace, also where it would open a new GAP (log 22). In a started part
both thresholds are examined at a stored entry (R161): a clear mark sets, and JOURNAL-HIGH is raised on the consumer's port,
exactly where the unread words reach a threshold above 0; a drop into the open GAP raises nothing, whatever the unread words are then
(log 31, DEDUCED). -/
def Obligations.AppendStoresOrDrops : Prop :=
  (∀ (j : Journal) (clock : Time) (body : EntryBody), JournalLaw j → (j.bus.enabled = true ∨ j.link.enabled = true) →
      (∀ n, body.extra ≠ .gapCount n) →
      ∃ k, k = j.append clock body ∧
        (k = j ∨ ∃ es gap, k =
          { j with
            entries := es, writePoint := j.writePoint + 1, openGap := gap
            bus := if j.bus.enabled = true then j.bus else { j.bus with cursor := j.writePoint + 1 }
            link := if j.link.enabled = true then j.link else { j.link with cursor := j.writePoint + 1 } }) ∧
        (body.length + 8 + j.occupied ≤ 65536 → k.entries = j.entries ++ [⟨j.writePoint, body⟩] ∧ k.openGap = false) ∧
        (65536 < body.length + 8 + j.occupied →
          ((j.writePoint - j.freePoint).toNat < 2147483647 → j.openGap = true →
            k.openGap = true ∧
              ∃ es e n, j.entries = es ++ [e] ∧ e.body.extra = .gapCount n ∧
                k.entries = es ++ [{ e with body := { e.body with extra := .gapCount (n + 1) } }]) ∧
          ((j.writePoint - j.freePoint).toNat < 2147483647 → j.openGap = false →
            k.openGap = true ∧
              k.entries = j.entries ++
                [{ seq := j.writePoint
                   body :=
                     { kind := .gap, lane := none, time := clock, slot := none, badge := none, flags := {}, kindWord := 0
                       extra := .gapCount 1 } }]) ∧
          (2147483647 ≤ (j.writePoint - j.freePoint).toNat → k = j))) ∧
  ∀ (s : State) (body : EntryBody) (p : Port), running s = true → JournalLaw s.journal →
    ∃ t j c, t = appendEntry body s ∧ j = s.journal.append s.time.clock body ∧ c = j.consumer p ∧
      c.highMark = (s.journal.consumer p).highMark ∧
      (if c.highMark = false ∧ 0 < c.threshold ∧ c.threshold ≤ j.unread c ∧
          ¬ (65536 < body.length + 8 + s.journal.occupied ∧ s.journal.openGap = true) ∧ j ≠ s.journal then
        t.journal.consumer p = { c with highMark := true } ∧
          (t.portState p).eventSummary = (s.portState p).eventSummary ||| 1
      else t.journal.consumer p = c ∧ (t.portState p).eventSummary = (s.portState p).eventSummary) ∧
      (t.portState p).channelSummary = (s.portState p).channelSummary ∧ t.journal.entries = j.entries ∧
      t.journal.writePoint = j.writePoint ∧ t.journal.freePoint = j.freePoint ∧
      t = { s with journal := t.journal, control := { s.control with bus := t.control.bus, link := t.control.link } }

/-- READ JOURNAL (R162, R163) checks buffer, range and room in that order, then copies whole entries from the one that covers the
start until the next would not fit, and changes nothing else; JOURNAL STATUS (R166) writes its sixteen words. Consumer and start
mode out of range are BAD-OPERAND, the first of them named, before the numbered checks (logs 35, 38, DESIGN CHOICE), the consumer
for EXPLICIT too (log 19, DEDUCED); JOURNAL STATUS checks its buffer, BAD-BUFFER before BUFFER-SHORT (log 38, DESIGN CHOICE). Each
command is carried out from its own row (log 4). -/
def Obligations.JournalReading : Prop :=
  ∀ s : State, engineOpen s = true →
    (∀ (consumer mode high low : Word) (buf : Buffer),
      (∀ n, firstOut [consumer.toNat ≤ 1, mode.toNat ≤ 1] n →
        exec (.readJournal consumer mode high low buf) s = .next (s.answering (.badOperand n))) ∧
      ∀ r, bufferRefused buf 16 r → exec (.journalStatus buf) s = .next (s.answering (.refuse r))) ∧
    (∀ (p : Port) (mode high low : Word) (buf : Buffer), mode.toNat ≤ 1 →
      ∃ start : Seq, start = (if mode = 0 then (s.journal.consumer p).cursor else high ++ low) ∧
        if buf.addr.toNat < 0x100 ∨ 0x2000 ≤ buf.addr.toNat then
          exec (.readJournal (if p = .bus then 0 else 1) mode high low buf) s = .next (s.answering (.refuse .badBuffer))
        else if (s.journal.writePoint - s.journal.freePoint).toNat < (start - s.journal.freePoint).toNat then
          exec (.readJournal (if p = .bus then 0 else 1) mode high low buf) s = .next (s.answering (.refuse .range))
        else
          ∃ past avail, s.journal.entries = past ++ avail ∧
            (∀ e ∈ past, e.liesBefore s.journal.writePoint start) ∧
            (∀ e ∈ avail.head?, ¬ e.liesBefore s.journal.writePoint start) ∧
            ((∃ e ∈ avail.head?, min buf.len.toNat 256 < e.length) →
              exec (.readJournal (if p = .bus then 0 else 1) mode high low buf) s =
                .next (s.answering (.refuse .bufferShort))) ∧
            ((∀ e ∈ avail.head?, e.length ≤ min buf.len.toNat 256) →
              ∃ copied rest, avail = copied ++ rest ∧ wordsOf copied ≤ min buf.len.toNat 256 ∧
                (∀ e ∈ rest.head?, min buf.len.toNat 256 < wordsOf copied + e.length) ∧
                exec (.readJournal (if p = .bus then 0 else 1) mode high low buf) s = .next
                  (s.writing buf
                    (.doneOut (copied.flatMap Entry.words)
                      (word copied.length ::
                        seqWords
                          (match copied.getLast? with
                            | some e => e.seq + BitVec.ofNat 32 e.covers
                            | none => start) ++
                        seqWords s.journal.writePoint))))) ∧
    (∀ buf : Buffer, bufferFits buf 16 →
      exec (.journalStatus buf) s = .next
        (s.writing buf
          (.doneOut
            (seqWords s.journal.writePoint ++ seqWords s.journal.freePoint ++ seqWords s.journal.bus.cursor ++
              seqWords s.journal.link.cursor ++ twoWords (wordsOf s.journal.entries) ++
              [word s.journal.bus.threshold, word s.journal.link.threshold,
               word (bit s.journal.bus.enabled + 2 * bit s.journal.bus.highMark + 4 * bit s.journal.link.enabled +
                 8 * bit s.journal.link.highMark + 16 * bit s.journal.openGap)] ++
              (match s.journal.openGap, s.journal.entries.getLast? with
                | true, some e => twoWords e.covers
                | _, _ => [0, 0]) ++ [0])
            [])))

/-- RELEASE JOURNAL (R164): beyond W it is refused, behind the cursor it changes nothing; else the cursor becomes q, or the end of the
GAP that q lies inside, what both cursors have passed is freed, and the high mark clears below the threshold. SET CONSUMER (R160,
R161) writes the threshold, enables at the free point or disables at W, frees likewise, and examines the named consumer alone (log 32,
DEDUCED). An operand out of range is BAD-OPERAND, before RANGE (log 38), the consumer before the action (log 35; DESIGN CHOICE both).
Each command is carried out from its own row (log 4). -/
def Obligations.ConsumersMoveAndFree : Prop :=
  (∀ (s : State) (consumer action threshold high low : Word), engineOpen s = true →
    (1 < consumer.toNat → exec (.releaseJournal consumer high low) s = .next (s.answering (.badOperand 0))) ∧
    ∀ n, firstOut [consumer.toNat ≤ 1, action.toNat ≤ 1] n →
      exec (.setConsumer consumer action threshold) s = .next (s.answering (.badOperand n))) ∧
  ∀ (s : State) (p : Port), engineOpen s = true → JournalLaw s.journal →
    (∀ high low : Word, ∃ q : Seq, q = high ++ low ∧
      (1 ≤ (q - s.journal.writePoint).toNat ∧ (q - s.journal.writePoint).toNat ≤ 2147483647 →
        exec (.releaseJournal (if p = .bus then 0 else 1) high low) s = .next (s.answering (.refuse .range))) ∧
      (¬ (1 ≤ (q - s.journal.writePoint).toNat ∧ (q - s.journal.writePoint).toNat ≤ 2147483647) →
        ∃ t c, exec (.releaseJournal (if p = .bus then 0 else 1) high low) s = .next t ∧ c = s.journal.consumer p ∧
          ((s.journal.writePoint - c.cursor).toNat ≤ (s.journal.writePoint - q).toNat → t.journal = s.journal) ∧
          ((s.journal.writePoint - q).toNat < (s.journal.writePoint - c.cursor).toNat →
            s.journal.freedTo t.journal ∧
            (∀ e ∈ s.journal.entries, ∀ n, e.body.extra = .gapCount n → 0 < (q - e.seq).toNat → (q - e.seq).toNat < n →
              (t.journal.consumer p).cursor = e.seq + BitVec.ofNat 32 n) ∧
            ((∀ e ∈ s.journal.entries, ∀ n, e.body.extra = .gapCount n → (q - e.seq).toNat = 0 ∨ n ≤ (q - e.seq).toNat) →
              (t.journal.consumer p).cursor = q) ∧
            t.journal.consumer p =
              { c with
                cursor := (t.journal.consumer p).cursor
                highMark := c.highMark &&
                  decide (0 < c.threshold ∧ c.threshold ≤ t.journal.unread (t.journal.consumer p)) } ∧
            ∀ o, o ≠ p → t.journal.consumer o = s.journal.consumer o) ∧
          t = State.answering { s with journal := t.journal }
            (.done (seqWords (t.journal.consumer p).cursor ++
              twoWords (t.journal.unread (t.journal.consumer p)))))) ∧
    (∀ action threshold : Word, action.toNat ≤ 1 →
      ∃ t c, exec (.setConsumer (if p = .bus then 0 else 1) action threshold) s = .next t ∧ c = s.journal.consumer p ∧
        t.journal.consumer p =
          { enabled := decide (action = 1)
            cursor :=
              if action = 0 then s.journal.writePoint else if c.enabled = true then c.cursor else s.journal.freePoint
            threshold := threshold.toNat
            highMark := decide (0 < threshold.toNat ∧ threshold.toNat ≤ t.journal.unread (t.journal.consumer p)) } ∧
        (∀ o, o ≠ p → t.journal.consumer o = s.journal.consumer o) ∧ s.journal.freedTo t.journal ∧
        (t.portState p).eventSummary =
          (if c.highMark = false ∧ (t.journal.consumer p).highMark = true then (s.portState p).eventSummary ||| 1
           else (s.portState p).eventSummary) ∧
        (∀ o, o ≠ p → t.portState o = s.portState o) ∧
        t = State.answering
          { s with
            journal := t.journal, control := { s.control with bus := t.control.bus, link := t.control.link } }
          (.done (word (bit c.enabled) :: seqWords (t.journal.consumer p).cursor)))

/-! ## Ports -/

/-- A write from a port with mains on, by the word it names (R169, R170, R175, R176, R181, R182): a request is refused or taken,
the fault cell clears, ones clear summary bits, the rearm cell arms, a pointer cell and a word of pages 1–31 store, every other
word of the control page ignores it. In FAILED a written word stands in memory as written (log 5, DESIGN CHOICE); the pulses are
the model's own count (log 10, DESIGN CHOICE). A bus cycle with the write strobe is that write, one with the read strobe drives
the word, a word of the control page as TABLE 11-2 gives it (R11, R165, R169), one with both takes no access (R171); a requester
waits for at most two others (R170). -/
def Obligations.PortWrites : Prop :=
  ∀ (s u : State) (w : Port), s.time.power = .mainsRun → Memory.wf s.memory →
    u = { s with control := { s.control with arbiter := if w = .bus then .bus else .link } } →
    (∀ (c : Channel) (v : Word),
      (v ≠ 1 → exec (.requestCellWrite w c v) s = .next u) ∧
      (s.time.selfTest ≠ .passed →
        exec (.requestCellWrite w c 1) s = .next (u.setChannel c { s.channel c with request := 0xFE })) ∧
      (s.time.selfTest = .passed → 4 ≤ (s.channel c).queue.length →
        exec (.requestCellWrite w c 1) s = .next (u.setChannel c { s.channel c with request := 0xFF })) ∧
      (s.time.selfTest = .passed → (s.channel c).queue.length < 4 →
        ∃ t, exec (.requestCellWrite w c 1) s = .next t ∧
          t.channel c =
            { s.channel c with request := 0, queue := (s.channel c).queue ++ [⟨(s.channel c).pointer, w⟩] } ∧
          (∀ d, d ≠ c → t.channel d = s.channel d) ∧
          (∀ p, t.portState p =
            if (s.channel c).ackPorts.names p = true ∧ (s.portState p).channelSummary.getLsbD c.val = false then
              { channelSummary := (s.portState p).channelSummary ||| (1 <<< c.val)
                eventSummary := (s.portState p).eventSummary, armed := false
                pulses := (s.portState p).pulses + if (s.portState p).armed = true then 1 else 0 }
            else s.portState p) ∧
          t = { u with
                control :=
                  { u.control with channels := t.control.channels, bus := t.control.bus, link := t.control.link } }) ∧
      exec (.faultCellWrite w c v) s = .next (if v = 0 then u.setChannel c { s.channel c with fault := .none } else u)) ∧
    (∀ (owner : Port) (v : Word),
      exec (.summaryWrite w owner .channelWord v) s = .next
        (u.setPortState owner
          { s.portState owner with channelSummary := (s.portState owner).channelSummary &&& ~~~v }) ∧
      exec (.summaryWrite w owner .eventWord v) s = .next
        (u.setPortState owner { s.portState owner with eventSummary := (s.portState owner).eventSummary &&& ~~~v }) ∧
      exec (.rearmCellWrite w owner v) s = .next
        (u.setPortState owner
          (if (s.portState owner).channelSummary = 0 ∧ (s.portState owner).eventSummary = 0 then
            { s.portState owner with armed := true }
          else { s.portState owner with armed := false, pulses := (s.portState owner).pulses + 1 }))) ∧
    (∀ (a : BitVec 13) (v : Word), (Instr.portWordWrite w a v).wellFormed = true →
      (a.toNat < 0x100 → (∀ c : Channel, a.toNat ≠ 0x30 + c.val) → exec (.portWordWrite w a v) s = .next u) ∧
      (∀ c : Channel, a.toNat = 0x30 + c.val →
        exec (.portWordWrite w a v) s = .next (u.setChannel c { s.channel c with pointer := v })) ∧
      (0x100 ≤ a.toNat →
        if s.time.selfTest = .passed ∨ s.time.selfTest = .failed then
          ∃ t, exec (.portWordWrite w a v) s = .next t ∧
            (∀ b, memRead t.memory b = if b = a.toNat then v else memRead s.memory b) ∧ t = { u with memory := t.memory }
        else exec (.portWordWrite w a v) s = .next u)) ∧
    (∀ (a : BitVec 13) (v : Word),
      exec (.portWordWrite .bus a v) s = .next (busCycle ⟨false, true, a, v⟩ s).2 ∧
      busCycle ⟨true, true, a, v⟩ s = (none, s) ∧
      (s.time.selfTest ≠ .failed →
        busCycle ⟨true, false, a, v⟩ s = (some (portRead a s).1, { s with control := { s.control with arbiter := .bus } })) ∧
      (a.toNat < 0x100 →
        busCycle ⟨true, false, a, v⟩ s =
          (some (s.pageWord a.toNat), { s with control := { s.control with arbiter := .bus } })) ∧
      (0x100 ≤ a.toNat → (s.time.selfTest = .testing ∨ s.time.selfTest = .notTested) →
        (busCycle ⟨true, false, a, v⟩ s).1 = some 0) ∧
      (0x100 ≤ a.toNat → s.time.selfTest = .passed →
        (busCycle ⟨true, false, a, v⟩ s).1 = some (memRead s.memory a.toNat))) ∧
    ∀ (last x : Requester) (asks : Requester → Bool), asks x = true →
      ∃ g ∈ arbiterGrant last asks, g = x ∨ ∃ h ∈ arbiterGrant g asks, h = x ∨ arbiterGrant h asks = some x

/-- SET CHANNEL NOTICE replaces a channel's two port sets and returns the old ones, or names the operand out of range; READ CHANNELS
returns a word for each channel and changes nothing (R180). Of several operands out of range the first is named (log 35, DESIGN
CHOICE). Each command is carried out from its own row (log 4). -/
def Obligations.ChannelCommands : Prop :=
  ∀ s : State, engineOpen s = true →
    (∀ channel ack fault : Word,
      (7 < channel.toNat → exec (.setChannelNotice channel ack fault) s = .next (s.answering (.badOperand 0))) ∧
      (channel.toNat ≤ 7 → 3 < ack.toNat →
        exec (.setChannelNotice channel ack fault) s = .next (s.answering (.badOperand 1))) ∧
      (channel.toNat ≤ 7 → ack.toNat ≤ 3 → 3 < fault.toNat →
        exec (.setChannelNotice channel ack fault) s = .next (s.answering (.badOperand 2)))) ∧
    (∀ (c : Channel) (ack fault : PortSet),
      exec (.setChannelNotice (word c.val) (word ack.toNat) (word fault.toNat)) s = .next
        ((s.setChannel c { s.channel c with ackPorts := ack, faultPorts := fault }).answering
          (.done [word (s.channel c).ackPorts.toNat, word (s.channel c).faultPorts.toNat]))) ∧
    exec .readChannels s = .next (s.answering (.done ((List.finRange 8).map (fun c =>
      word ((s.channel c).queue.length + 8 * bit (s.channel c).chain.isSome + 16 * (s.channel c).ackPorts.toNat +
        64 * (s.channel c).faultPorts.toNat)))))

/-! ## The command engine -/

/-- A turn of the engine (R177, R178, R179): with no channel waiting nothing happens; the channel next in the round gives its
chain's block or its oldest request; a bad address is a BAD-POINTER fault, takes no access, and its channel counts as served last
(log 25, DEDUCED); a READ CLOCK block gets its results, response 0 and flag 0 and its chain goes on, ends, or meets CHAIN-LIMIT; an
unknown code is answered BAD-COMMAND. A block of any command, in mode INLINE or with a buffer of its own, is carried out as the
command's row is on words 8–15 with the chain's origin, and the row's reply answers it (R178); in mode BUFFER the operands are the
first eight words of the buffer, and word 7 returns 8 where the command is carried out (R179; log 15, DEDUCED), or the buffer is
refused, BAD-BUFFER before BUFFER-SHORT (log 38, DESIGN CHOICE); any other mode is BAD-COMMAND. The turn is whole, the engine the
last granted after it (log 9, DESIGN CHOICE): it is the turn word by word with no port asking. -/
def Obligations.EngineTurnServesOneBlock : Prop :=
  ∀ s : State, engineOpen s = true → Memory.wf s.memory →
    exec .engineTurn s = .next (engineTurnAmong [] s) ∧
    ((∀ c, ¬ (s.channel c).waits) → exec .engineTurn s = .next s) ∧
    (∀ (c : Channel) (chain : Chain) (left : List Request) (a : Nat), servedNext s c →
      takesBlock (s.channel c) chain left → a = chain.next.toNat →
      ((a < 0x100 ∨ 0x2000 ≤ a ∨ 240 < a % 256) →
        ∃ t, exec .engineTurn s = .next t ∧
          t.channel c = { s.channel c with fault := .badPointer, chain := none, queue := left } ∧
          (∀ d, d ≠ c → t.channel d = s.channel d) ∧
          (∀ p, (t.portState p).channelSummary = (s.portState p).channelSummary ∧
            (t.portState p).eventSummary =
              (s.portState p).eventSummary ||| (if (s.channel c).faultPorts.names p = true then 0x20 else 0)) ∧
          t = { s with
                control :=
                  { s.control with
                    channels := t.control.channels, lastServed := c, bus := t.control.bus, link := t.control.link } }) ∧
      (0x100 ≤ a → a < 0x2000 → a % 256 ≤ 240 →
        (memRead s.memory a = 0x12 → memRead s.memory (a + 5) = 0 →
          ∃ t, exec .engineTurn s = .next t ∧
            (∀ x, memRead t.memory x =
              if x = a + 1 ∨ x = a + 3 then 0
              else if a + 8 ≤ x ∧ x < a + 15 then
                [word s.time.clock.day, word s.time.clock.minute, word s.time.clock.second, word s.time.epochWeekday,
                 word ((s.time.clock.day + s.time.epochWeekday) % 7),
                 word (bit s.time.clockUnset + 2 * bit s.time.dayLimit), BitVec.ofInt 16 s.time.slew].getD (x - (a + 8)) 0
              else memRead s.memory x) ∧
            t.channel c =
              { s.channel c with
                queue := left
                chain :=
                  if memRead s.memory (a + 4) = 0 ∨ 256 ≤ chain.count then none
                  else some { chain with next := memRead s.memory (a + 4) }
                fault :=
                  if memRead s.memory (a + 4) ≠ 0 ∧ 256 ≤ chain.count then .chainLimit else (s.channel c).fault } ∧
            (∀ d, d ≠ c → t.channel d = s.channel d) ∧
            (∀ p,
              (t.portState p).channelSummary = (s.portState p).channelSummary |||
                (if (memRead s.memory (a + 2)).getLsbD (if p = .bus then 0 else 1) = true then 1 <<< (c.val + 8) else 0) ∧
              (t.portState p).eventSummary = (s.portState p).eventSummary |||
                (if memRead s.memory (a + 4) ≠ 0 ∧ 256 ≤ chain.count ∧ (s.channel c).faultPorts.names p = true then 0x20
                 else 0)) ∧
            t = { s with
                  memory := t.memory
                  control :=
                    { s.control with
                      channels := t.control.channels, lastServed := c, arbiter := .engine, bus := t.control.bus
                      link := t.control.link } }) ∧
        ((memRead s.memory a).toNat ∉ commandCodes →
          ∃ t, exec .engineTurn s = .next t ∧
            (∀ x, memRead t.memory x = if x = a + 1 then 1 else if x = a + 3 then 0 else memRead s.memory x) ∧
            t.channel c = { s.channel c with queue := left, chain := none } ∧
            (∀ d, d ≠ c → t.channel d = s.channel d) ∧
            (∀ p, (t.portState p).eventSummary = (s.portState p).eventSummary ∧
              (t.portState p).channelSummary = (s.portState p).channelSummary |||
                (if (memRead s.memory (a + 2)).getLsbD (if p = .bus then 0 else 1) = true then 1 <<< (c.val + 8)
                 else 0)) ∧
            t = { s with
                  memory := t.memory
                  control :=
                    { s.control with
                      channels := t.control.channels, lastServed := c, arbiter := .engine, bus := t.control.bus
                      link := t.control.link } }) ∧
        ((memRead s.memory a).toNat ∈ commandCodes →
          (((memRead s.memory a).toNat ∈ bufferCodes ∨ memRead s.memory (a + 5) = 0) →
            turnRuns s c chain left (fun n => memRead s.memory (a + 8 + n)) Reply.used) ∧
          ((memRead s.memory a).toNat ∉ bufferCodes →
            ∃ buf : Buffer, buf = ⟨memRead s.memory (a + 6), memRead s.memory (a + 7)⟩ ∧
              (memRead s.memory (a + 5) = 1 → bufferFits buf 8 →
                turnRuns s c chain left (bufferWord s.memory buf) (fun r => if r.code = .done then some 8 else none)) ∧
              (memRead s.memory (a + 5) = 1 → ∀ r, bufferRefused buf 8 r →
                turnAnswers s c chain (s.serving c chain left) (.refuse r)) ∧
              (2 ≤ (memRead s.memory (a + 5)).toNat →
                turnAnswers s c chain (s.serving c chain left) (.refuse .badCommand))))))

/-! ## The link port -/

/-- The link port's framing (R172–R174) with mains on: starts, lead bytes, pointers, data bytes, and the end of a transfer; a completed
word is written as a bus port word is, and the pointer rises, staying at 1FFFh. Each row is given where the framing expects it (log
14). In a read transfer (R174) the first byte is the holding byte; then each high byte comes from one fetch of the word at the
pointer and its low byte from the same fetch; in FAILED the fetched word is free (R18, log 5). -/
def Obligations.LinkPortBytes : Prop :=
  ∀ s : State, s.time.power = .mainsRun →
    (∀ (address : BitVec 7) (read : Bool),
      exec (.linkTransferStart address read) s = .next
        { s with
          link :=
            { s.link with
              heldHigh := none, keptLow := none, ack := decide (address = s.link.address)
              phase :=
                if address = s.link.address then (if read = true then .reading true else .lead) else .idle } }) ∧
    (s.link.phase = .lead → ∀ b : Byte,
      exec (.linkLeadByte b) s = .next
        { s with
          link :=
            { s.link with
              ack := true
              phase :=
                if b.getLsbD 6 = true then .data (b.getLsbD 7)
                else .pointer (BitVec.ofNat 5 (b.toNat % 32)) (b.getLsbD 7) } }) ∧
    (∀ (high : BitVec 5) (more : Bool) (b : Byte), s.link.phase = .pointer high more →
      exec (.linkPointerSet b) s = .next
        { s with
          link :=
            { s.link with
              pointer := BitVec.ofNat 13 (high.toNat * 256 + b.toNat), heldHigh := none, keptLow := none, ack := true
              phase := if more = true then .lead else .ignore } }) ∧
    (s.link.phase = .ignore → ∀ b : Byte,
      exec (.linkPointerSet b) s = .next { s with link := { s.link with ack := true } }) ∧
    (∀ (more : Bool) (b : Byte), s.link.phase = .data more →
      (s.link.heldHigh = none →
        exec (.linkDataHighByte b) s = .next
          { s with
            link := { s.link with heldHigh := some b, ack := true, phase := if more = true then .lead else .data false } }) ∧
      (∀ high ∈ s.link.heldHigh, ∃ w u : State,
        exec (.portWordWrite .link s.link.pointer (high ++ b)) s = .next w ∧
        (∀ c : Channel, s.link.pointer.toNat = 0x20 + c.val →
          exec (.requestCellWrite .link c (high ++ b)) s = .next w) ∧
        exec (.linkDataWord b) s = .next u ∧
        u = { w with
              link :=
                { s.link with
                  pointer := if s.link.pointer = 0x1FFF then 0x1FFF else s.link.pointer + 1
                  heldHigh := none, ack := true, phase := if more = true then .lead else .data false } })) ∧
    exec .linkTransferEnd s = .next
      { s with link := { s.link with phase := .idle, heldHigh := none, keptLow := none } } ∧
    (s.link.phase = .reading true → exec .linkReadByte s = .next { s with link := { s.link with phase := .reading false } }) ∧
    (s.link.phase = .reading false → s.link.keptLow = none →
      ∃ (t : State) (w : Word), exec .linkReadByte s = .next t ∧
        (0x100 ≤ s.link.pointer.toNat → s.time.selfTest = .passed → w = memRead s.memory s.link.pointer.toNat) ∧
        (0x100 ≤ s.link.pointer.toNat → s.time.selfTest = .testing → w = 0) ∧
        (s.link.pointer.toNat < 0x100 → w = s.pageWord s.link.pointer.toNat) ∧
        (∀ c : Channel, s.link.pointer.toNat = 0x20 + c.val → w = (s.channel c).request) ∧
        (∀ c : Channel, s.link.pointer.toNat = 0x30 + c.val → w = (s.channel c).pointer) ∧
        (∀ p : Port, s.link.pointer.toNat = (if p = .bus then 0x40 else 0x44) → w = (s.portState p).channelSummary) ∧
        (0x47 ≤ s.link.pointer.toNat → s.link.pointer.toNat < 0x100 → w = 0) ∧
        t.link.holding = BitVec.ofNat 8 (w.toNat / 256) ∧ t.link.keptLow = some (BitVec.ofNat 8 w.toNat) ∧
        t.link = { s.link with holding := t.link.holding, keptLow := t.link.keptLow } ∧
        t = { s with
              link := t.link, control := { s.control with arbiter := .link }
              freeCount :=
                s.freeCount + if 0x100 ≤ s.link.pointer.toNat ∧ s.time.selfTest = .failed then 1 else 0 }) ∧
    (∀ low ∈ s.link.keptLow, s.link.phase = .reading false →
      exec .linkReadByte s = .next
        { s with
          link :=
            { s.link with
              holding := low, keptLow := none
              pointer := if s.link.pointer = 0x1FFF then 0x1FFF else s.link.pointer + 1 } })

/-! ## Laws that every step keeps -/

/-- The laws hold after reset. -/
def Obligations.LawsHoldAtReset : Prop :=
  Memory.wf State.reset.memory ∧ ClockLaw State.reset.time ∧ ArmedLaw State.reset ∧ ChannelLaw State.reset ∧
    WindowLaw State.reset ∧ HolidayLaw State.reset ∧ (∀ l, LaneLaw (State.reset.lane l)) ∧ LockdownLaw State.reset ∧
    RosterLaw State.reset.roster ∧ AllTotalsLaw State.reset ∧ OrderLaw State.reset ∧ PresenceLaw State.reset ∧
    MirrorLaw State.reset ∧ JournalLaw State.reset.journal

/-- Every step keeps the ranges of the clock (R5, R9, R13), an armed port's empty summary (R182), the queues' and chains' limits (R178),
the window's (R132), the holiday list's order (R86) and the exchange memory's canonical form. -/
def Obligations.StepKeepsDeviceLaws : Prop :=
  ∀ s t : State, Memory.wf s.memory → ClockLaw s.time → ArmedLaw s → ChannelLaw s → WindowLaw s → HolidayLaw s →
    step s = .next t →
    Memory.wf t.memory ∧ ClockLaw t.time ∧ ArmedLaw t ∧ ChannelLaw t ∧ WindowLaw t ∧ HolidayLaw t

/-- Every step keeps each lane's assembly and context in shape (R47, R50), and no lane RELEASED in lockdown (R118). -/
def Obligations.StepKeepsLanesAndDoors : Prop :=
  ∀ s t : State, (∀ l, LaneLaw (s.lane l)) → LockdownLaw s → step s = .next t →
    (∀ l, LaneLaw (t.lane l)) ∧ LockdownLaw t

/-- Every step keeps roster, index and census in agreement (R22–R25), the totals in their limits (R98), the attendance list in deadline
order (R106), a record IN exactly when the list holds it (R28), each pending passage at its record (R29) and the mirror (R106). -/
def Obligations.StepKeepsRosterAndPresence : Prop :=
  ∀ s t : State, RosterLaw s.roster → AllTotalsLaw s → OrderLaw s → PresenceLaw s → MirrorLaw s → step s = .next t →
    RosterLaw t.roster ∧ AllTotalsLaw t ∧ OrderLaw t ∧ PresenceLaw t ∧ MirrorLaw t

/-- Every step keeps the journal's law: the retained entries cover the numbers from F to W without a hole in at most 65,536 words, with
8 words free while no GAP is open, and each enabled cursor lies from F to W (R153, R156, R157, R158, R159). -/
def Obligations.StepKeepsJournal : Prop :=
  ∀ s t : State, JournalLaw s.journal → step s = .next t → JournalLaw t.journal
end

