-- ==== Sys2Proof/Laws/State.lean ====
section
/-! SUPPORT. One lemma for each field and each update of one field of State, true by definition, and the get-and-set lemmas of lanes,
doors, ports, channels and numbered things, so that no proof unfolds a record update. -/

namespace Sys2Proof.Machine

/-! ## Fields after an update of one field -/

@[simp] theorem State.setTime_time (s v) : (State.setTime s v).time = v := rfl
@[simp] theorem State.setTime_pins (s v) : (State.setTime s v).pins = s.pins := rfl
@[simp] theorem State.setTime_roster (s v) : (State.setTime s v).roster = s.roster := rfl
@[simp] theorem State.setTime_lanes (s v) : (State.setTime s v).lanes = s.lanes := rfl
@[simp] theorem State.setTime_gate (s v) : (State.setTime s v).gate = s.gate := rfl
@[simp] theorem State.setTime_pay (s v) : (State.setTime s v).pay = s.pay := rfl
@[simp] theorem State.setTime_attendance (s v) : (State.setTime s v).attendance = s.attendance := rfl
@[simp] theorem State.setTime_bells (s v) : (State.setTime s v).bells = s.bells := rfl
@[simp] theorem State.setTime_journal (s v) : (State.setTime s v).journal = s.journal := rfl
@[simp] theorem State.setTime_memory (s v) : (State.setTime s v).memory = s.memory := rfl
@[simp] theorem State.setTime_control (s v) : (State.setTime s v).control = s.control := rfl
@[simp] theorem State.setTime_link (s v) : (State.setTime s v).link = s.link := rfl
@[simp] theorem State.setTime_freeCount (s v) : (State.setTime s v).freeCount = s.freeCount := rfl
@[simp] theorem State.setTime_reply (s v) : (State.setTime s v).reply = s.reply := rfl
@[simp] theorem State.setTime_pending (s v) : (State.setTime s v).pending = s.pending := rfl
@[simp] theorem State.setPins_time (s v) : (State.setPins s v).time = s.time := rfl
@[simp] theorem State.setPins_pins (s v) : (State.setPins s v).pins = v := rfl
@[simp] theorem State.setPins_roster (s v) : (State.setPins s v).roster = s.roster := rfl
@[simp] theorem State.setPins_lanes (s v) : (State.setPins s v).lanes = s.lanes := rfl
@[simp] theorem State.setPins_gate (s v) : (State.setPins s v).gate = s.gate := rfl
@[simp] theorem State.setPins_pay (s v) : (State.setPins s v).pay = s.pay := rfl
@[simp] theorem State.setPins_attendance (s v) : (State.setPins s v).attendance = s.attendance := rfl
@[simp] theorem State.setPins_bells (s v) : (State.setPins s v).bells = s.bells := rfl
@[simp] theorem State.setPins_journal (s v) : (State.setPins s v).journal = s.journal := rfl
@[simp] theorem State.setPins_memory (s v) : (State.setPins s v).memory = s.memory := rfl
@[simp] theorem State.setPins_control (s v) : (State.setPins s v).control = s.control := rfl
@[simp] theorem State.setPins_link (s v) : (State.setPins s v).link = s.link := rfl
@[simp] theorem State.setPins_freeCount (s v) : (State.setPins s v).freeCount = s.freeCount := rfl
@[simp] theorem State.setPins_reply (s v) : (State.setPins s v).reply = s.reply := rfl
@[simp] theorem State.setPins_pending (s v) : (State.setPins s v).pending = s.pending := rfl
@[simp] theorem State.setRoster_time (s v) : (State.setRoster s v).time = s.time := rfl
@[simp] theorem State.setRoster_pins (s v) : (State.setRoster s v).pins = s.pins := rfl
@[simp] theorem State.setRoster_roster (s v) : (State.setRoster s v).roster = v := rfl
@[simp] theorem State.setRoster_lanes (s v) : (State.setRoster s v).lanes = s.lanes := rfl
@[simp] theorem State.setRoster_gate (s v) : (State.setRoster s v).gate = s.gate := rfl
@[simp] theorem State.setRoster_pay (s v) : (State.setRoster s v).pay = s.pay := rfl
@[simp] theorem State.setRoster_attendance (s v) : (State.setRoster s v).attendance = s.attendance := rfl
@[simp] theorem State.setRoster_bells (s v) : (State.setRoster s v).bells = s.bells := rfl
@[simp] theorem State.setRoster_journal (s v) : (State.setRoster s v).journal = s.journal := rfl
@[simp] theorem State.setRoster_memory (s v) : (State.setRoster s v).memory = s.memory := rfl
@[simp] theorem State.setRoster_control (s v) : (State.setRoster s v).control = s.control := rfl
@[simp] theorem State.setRoster_link (s v) : (State.setRoster s v).link = s.link := rfl
@[simp] theorem State.setRoster_freeCount (s v) : (State.setRoster s v).freeCount = s.freeCount := rfl
@[simp] theorem State.setRoster_reply (s v) : (State.setRoster s v).reply = s.reply := rfl
@[simp] theorem State.setRoster_pending (s v) : (State.setRoster s v).pending = s.pending := rfl
@[simp] theorem State.setLanes_time (s v) : (State.setLanes s v).time = s.time := rfl
@[simp] theorem State.setLanes_pins (s v) : (State.setLanes s v).pins = s.pins := rfl
@[simp] theorem State.setLanes_roster (s v) : (State.setLanes s v).roster = s.roster := rfl
@[simp] theorem State.setLanes_lanes (s v) : (State.setLanes s v).lanes = v := rfl
@[simp] theorem State.setLanes_gate (s v) : (State.setLanes s v).gate = s.gate := rfl
@[simp] theorem State.setLanes_pay (s v) : (State.setLanes s v).pay = s.pay := rfl
@[simp] theorem State.setLanes_attendance (s v) : (State.setLanes s v).attendance = s.attendance := rfl
@[simp] theorem State.setLanes_bells (s v) : (State.setLanes s v).bells = s.bells := rfl
@[simp] theorem State.setLanes_journal (s v) : (State.setLanes s v).journal = s.journal := rfl
@[simp] theorem State.setLanes_memory (s v) : (State.setLanes s v).memory = s.memory := rfl
@[simp] theorem State.setLanes_control (s v) : (State.setLanes s v).control = s.control := rfl
@[simp] theorem State.setLanes_link (s v) : (State.setLanes s v).link = s.link := rfl
@[simp] theorem State.setLanes_freeCount (s v) : (State.setLanes s v).freeCount = s.freeCount := rfl
@[simp] theorem State.setLanes_reply (s v) : (State.setLanes s v).reply = s.reply := rfl
@[simp] theorem State.setLanes_pending (s v) : (State.setLanes s v).pending = s.pending := rfl
@[simp] theorem State.setGate_time (s v) : (State.setGate s v).time = s.time := rfl
@[simp] theorem State.setGate_pins (s v) : (State.setGate s v).pins = s.pins := rfl
@[simp] theorem State.setGate_roster (s v) : (State.setGate s v).roster = s.roster := rfl
@[simp] theorem State.setGate_lanes (s v) : (State.setGate s v).lanes = s.lanes := rfl
@[simp] theorem State.setGate_gate (s v) : (State.setGate s v).gate = v := rfl
@[simp] theorem State.setGate_pay (s v) : (State.setGate s v).pay = s.pay := rfl
@[simp] theorem State.setGate_attendance (s v) : (State.setGate s v).attendance = s.attendance := rfl
@[simp] theorem State.setGate_bells (s v) : (State.setGate s v).bells = s.bells := rfl
@[simp] theorem State.setGate_journal (s v) : (State.setGate s v).journal = s.journal := rfl
@[simp] theorem State.setGate_memory (s v) : (State.setGate s v).memory = s.memory := rfl
@[simp] theorem State.setGate_control (s v) : (State.setGate s v).control = s.control := rfl
@[simp] theorem State.setGate_link (s v) : (State.setGate s v).link = s.link := rfl
@[simp] theorem State.setGate_freeCount (s v) : (State.setGate s v).freeCount = s.freeCount := rfl
@[simp] theorem State.setGate_reply (s v) : (State.setGate s v).reply = s.reply := rfl
@[simp] theorem State.setGate_pending (s v) : (State.setGate s v).pending = s.pending := rfl
@[simp] theorem State.setPay_time (s v) : (State.setPay s v).time = s.time := rfl
@[simp] theorem State.setPay_pins (s v) : (State.setPay s v).pins = s.pins := rfl
@[simp] theorem State.setPay_roster (s v) : (State.setPay s v).roster = s.roster := rfl
@[simp] theorem State.setPay_lanes (s v) : (State.setPay s v).lanes = s.lanes := rfl
@[simp] theorem State.setPay_gate (s v) : (State.setPay s v).gate = s.gate := rfl
@[simp] theorem State.setPay_pay (s v) : (State.setPay s v).pay = v := rfl
@[simp] theorem State.setPay_attendance (s v) : (State.setPay s v).attendance = s.attendance := rfl
@[simp] theorem State.setPay_bells (s v) : (State.setPay s v).bells = s.bells := rfl
@[simp] theorem State.setPay_journal (s v) : (State.setPay s v).journal = s.journal := rfl
@[simp] theorem State.setPay_memory (s v) : (State.setPay s v).memory = s.memory := rfl
@[simp] theorem State.setPay_control (s v) : (State.setPay s v).control = s.control := rfl
@[simp] theorem State.setPay_link (s v) : (State.setPay s v).link = s.link := rfl
@[simp] theorem State.setPay_freeCount (s v) : (State.setPay s v).freeCount = s.freeCount := rfl
@[simp] theorem State.setPay_reply (s v) : (State.setPay s v).reply = s.reply := rfl
@[simp] theorem State.setPay_pending (s v) : (State.setPay s v).pending = s.pending := rfl
@[simp] theorem State.setAttendance_time (s v) : (State.setAttendance s v).time = s.time := rfl
@[simp] theorem State.setAttendance_pins (s v) : (State.setAttendance s v).pins = s.pins := rfl
@[simp] theorem State.setAttendance_roster (s v) : (State.setAttendance s v).roster = s.roster := rfl
@[simp] theorem State.setAttendance_lanes (s v) : (State.setAttendance s v).lanes = s.lanes := rfl
@[simp] theorem State.setAttendance_gate (s v) : (State.setAttendance s v).gate = s.gate := rfl
@[simp] theorem State.setAttendance_pay (s v) : (State.setAttendance s v).pay = s.pay := rfl
@[simp] theorem State.setAttendance_attendance (s v) : (State.setAttendance s v).attendance = v := rfl
@[simp] theorem State.setAttendance_bells (s v) : (State.setAttendance s v).bells = s.bells := rfl
@[simp] theorem State.setAttendance_journal (s v) : (State.setAttendance s v).journal = s.journal := rfl
@[simp] theorem State.setAttendance_memory (s v) : (State.setAttendance s v).memory = s.memory := rfl
@[simp] theorem State.setAttendance_control (s v) : (State.setAttendance s v).control = s.control := rfl
@[simp] theorem State.setAttendance_link (s v) : (State.setAttendance s v).link = s.link := rfl
@[simp] theorem State.setAttendance_freeCount (s v) : (State.setAttendance s v).freeCount = s.freeCount := rfl
@[simp] theorem State.setAttendance_reply (s v) : (State.setAttendance s v).reply = s.reply := rfl
@[simp] theorem State.setAttendance_pending (s v) : (State.setAttendance s v).pending = s.pending := rfl
@[simp] theorem State.setBells_time (s v) : (State.setBells s v).time = s.time := rfl
@[simp] theorem State.setBells_pins (s v) : (State.setBells s v).pins = s.pins := rfl
@[simp] theorem State.setBells_roster (s v) : (State.setBells s v).roster = s.roster := rfl
@[simp] theorem State.setBells_lanes (s v) : (State.setBells s v).lanes = s.lanes := rfl
@[simp] theorem State.setBells_gate (s v) : (State.setBells s v).gate = s.gate := rfl
@[simp] theorem State.setBells_pay (s v) : (State.setBells s v).pay = s.pay := rfl
@[simp] theorem State.setBells_attendance (s v) : (State.setBells s v).attendance = s.attendance := rfl
@[simp] theorem State.setBells_bells (s v) : (State.setBells s v).bells = v := rfl
@[simp] theorem State.setBells_journal (s v) : (State.setBells s v).journal = s.journal := rfl
@[simp] theorem State.setBells_memory (s v) : (State.setBells s v).memory = s.memory := rfl
@[simp] theorem State.setBells_control (s v) : (State.setBells s v).control = s.control := rfl
@[simp] theorem State.setBells_link (s v) : (State.setBells s v).link = s.link := rfl
@[simp] theorem State.setBells_freeCount (s v) : (State.setBells s v).freeCount = s.freeCount := rfl
@[simp] theorem State.setBells_reply (s v) : (State.setBells s v).reply = s.reply := rfl
@[simp] theorem State.setBells_pending (s v) : (State.setBells s v).pending = s.pending := rfl
@[simp] theorem State.setJournal_time (s v) : (State.setJournal s v).time = s.time := rfl
@[simp] theorem State.setJournal_pins (s v) : (State.setJournal s v).pins = s.pins := rfl
@[simp] theorem State.setJournal_roster (s v) : (State.setJournal s v).roster = s.roster := rfl
@[simp] theorem State.setJournal_lanes (s v) : (State.setJournal s v).lanes = s.lanes := rfl
@[simp] theorem State.setJournal_gate (s v) : (State.setJournal s v).gate = s.gate := rfl
@[simp] theorem State.setJournal_pay (s v) : (State.setJournal s v).pay = s.pay := rfl
@[simp] theorem State.setJournal_attendance (s v) : (State.setJournal s v).attendance = s.attendance := rfl
@[simp] theorem State.setJournal_bells (s v) : (State.setJournal s v).bells = s.bells := rfl
@[simp] theorem State.setJournal_journal (s v) : (State.setJournal s v).journal = v := rfl
@[simp] theorem State.setJournal_memory (s v) : (State.setJournal s v).memory = s.memory := rfl
@[simp] theorem State.setJournal_control (s v) : (State.setJournal s v).control = s.control := rfl
@[simp] theorem State.setJournal_link (s v) : (State.setJournal s v).link = s.link := rfl
@[simp] theorem State.setJournal_freeCount (s v) : (State.setJournal s v).freeCount = s.freeCount := rfl
@[simp] theorem State.setJournal_reply (s v) : (State.setJournal s v).reply = s.reply := rfl
@[simp] theorem State.setJournal_pending (s v) : (State.setJournal s v).pending = s.pending := rfl
@[simp] theorem State.setMemory_time (s v) : (State.setMemory s v).time = s.time := rfl
@[simp] theorem State.setMemory_pins (s v) : (State.setMemory s v).pins = s.pins := rfl
@[simp] theorem State.setMemory_roster (s v) : (State.setMemory s v).roster = s.roster := rfl
@[simp] theorem State.setMemory_lanes (s v) : (State.setMemory s v).lanes = s.lanes := rfl
@[simp] theorem State.setMemory_gate (s v) : (State.setMemory s v).gate = s.gate := rfl
@[simp] theorem State.setMemory_pay (s v) : (State.setMemory s v).pay = s.pay := rfl
@[simp] theorem State.setMemory_attendance (s v) : (State.setMemory s v).attendance = s.attendance := rfl
@[simp] theorem State.setMemory_bells (s v) : (State.setMemory s v).bells = s.bells := rfl
@[simp] theorem State.setMemory_journal (s v) : (State.setMemory s v).journal = s.journal := rfl
@[simp] theorem State.setMemory_memory (s v) : (State.setMemory s v).memory = v := rfl
@[simp] theorem State.setMemory_control (s v) : (State.setMemory s v).control = s.control := rfl
@[simp] theorem State.setMemory_link (s v) : (State.setMemory s v).link = s.link := rfl
@[simp] theorem State.setMemory_freeCount (s v) : (State.setMemory s v).freeCount = s.freeCount := rfl
@[simp] theorem State.setMemory_reply (s v) : (State.setMemory s v).reply = s.reply := rfl
@[simp] theorem State.setMemory_pending (s v) : (State.setMemory s v).pending = s.pending := rfl
@[simp] theorem State.setControl_time (s v) : (State.setControl s v).time = s.time := rfl
@[simp] theorem State.setControl_pins (s v) : (State.setControl s v).pins = s.pins := rfl
@[simp] theorem State.setControl_roster (s v) : (State.setControl s v).roster = s.roster := rfl
@[simp] theorem State.setControl_lanes (s v) : (State.setControl s v).lanes = s.lanes := rfl
@[simp] theorem State.setControl_gate (s v) : (State.setControl s v).gate = s.gate := rfl
@[simp] theorem State.setControl_pay (s v) : (State.setControl s v).pay = s.pay := rfl
@[simp] theorem State.setControl_attendance (s v) : (State.setControl s v).attendance = s.attendance := rfl
@[simp] theorem State.setControl_bells (s v) : (State.setControl s v).bells = s.bells := rfl
@[simp] theorem State.setControl_journal (s v) : (State.setControl s v).journal = s.journal := rfl
@[simp] theorem State.setControl_memory (s v) : (State.setControl s v).memory = s.memory := rfl
@[simp] theorem State.setControl_control (s v) : (State.setControl s v).control = v := rfl
@[simp] theorem State.setControl_link (s v) : (State.setControl s v).link = s.link := rfl
@[simp] theorem State.setControl_freeCount (s v) : (State.setControl s v).freeCount = s.freeCount := rfl
@[simp] theorem State.setControl_reply (s v) : (State.setControl s v).reply = s.reply := rfl
@[simp] theorem State.setControl_pending (s v) : (State.setControl s v).pending = s.pending := rfl
@[simp] theorem State.setLink_time (s v) : (State.setLink s v).time = s.time := rfl
@[simp] theorem State.setLink_pins (s v) : (State.setLink s v).pins = s.pins := rfl
@[simp] theorem State.setLink_roster (s v) : (State.setLink s v).roster = s.roster := rfl
@[simp] theorem State.setLink_lanes (s v) : (State.setLink s v).lanes = s.lanes := rfl
@[simp] theorem State.setLink_gate (s v) : (State.setLink s v).gate = s.gate := rfl
@[simp] theorem State.setLink_pay (s v) : (State.setLink s v).pay = s.pay := rfl
@[simp] theorem State.setLink_attendance (s v) : (State.setLink s v).attendance = s.attendance := rfl
@[simp] theorem State.setLink_bells (s v) : (State.setLink s v).bells = s.bells := rfl
@[simp] theorem State.setLink_journal (s v) : (State.setLink s v).journal = s.journal := rfl
@[simp] theorem State.setLink_memory (s v) : (State.setLink s v).memory = s.memory := rfl
@[simp] theorem State.setLink_control (s v) : (State.setLink s v).control = s.control := rfl
@[simp] theorem State.setLink_link (s v) : (State.setLink s v).link = v := rfl
@[simp] theorem State.setLink_freeCount (s v) : (State.setLink s v).freeCount = s.freeCount := rfl
@[simp] theorem State.setLink_reply (s v) : (State.setLink s v).reply = s.reply := rfl
@[simp] theorem State.setLink_pending (s v) : (State.setLink s v).pending = s.pending := rfl
@[simp] theorem State.setFreeCount_time (s v) : (State.setFreeCount s v).time = s.time := rfl
@[simp] theorem State.setFreeCount_pins (s v) : (State.setFreeCount s v).pins = s.pins := rfl
@[simp] theorem State.setFreeCount_roster (s v) : (State.setFreeCount s v).roster = s.roster := rfl
@[simp] theorem State.setFreeCount_lanes (s v) : (State.setFreeCount s v).lanes = s.lanes := rfl
@[simp] theorem State.setFreeCount_gate (s v) : (State.setFreeCount s v).gate = s.gate := rfl
@[simp] theorem State.setFreeCount_pay (s v) : (State.setFreeCount s v).pay = s.pay := rfl
@[simp] theorem State.setFreeCount_attendance (s v) : (State.setFreeCount s v).attendance = s.attendance := rfl
@[simp] theorem State.setFreeCount_bells (s v) : (State.setFreeCount s v).bells = s.bells := rfl
@[simp] theorem State.setFreeCount_journal (s v) : (State.setFreeCount s v).journal = s.journal := rfl
@[simp] theorem State.setFreeCount_memory (s v) : (State.setFreeCount s v).memory = s.memory := rfl
@[simp] theorem State.setFreeCount_control (s v) : (State.setFreeCount s v).control = s.control := rfl
@[simp] theorem State.setFreeCount_link (s v) : (State.setFreeCount s v).link = s.link := rfl
@[simp] theorem State.setFreeCount_freeCount (s v) : (State.setFreeCount s v).freeCount = v := rfl
@[simp] theorem State.setFreeCount_reply (s v) : (State.setFreeCount s v).reply = s.reply := rfl
@[simp] theorem State.setFreeCount_pending (s v) : (State.setFreeCount s v).pending = s.pending := rfl
@[simp] theorem State.setReply_time (s v) : (State.setReply s v).time = s.time := rfl
@[simp] theorem State.setReply_pins (s v) : (State.setReply s v).pins = s.pins := rfl
@[simp] theorem State.setReply_roster (s v) : (State.setReply s v).roster = s.roster := rfl
@[simp] theorem State.setReply_lanes (s v) : (State.setReply s v).lanes = s.lanes := rfl
@[simp] theorem State.setReply_gate (s v) : (State.setReply s v).gate = s.gate := rfl
@[simp] theorem State.setReply_pay (s v) : (State.setReply s v).pay = s.pay := rfl
@[simp] theorem State.setReply_attendance (s v) : (State.setReply s v).attendance = s.attendance := rfl
@[simp] theorem State.setReply_bells (s v) : (State.setReply s v).bells = s.bells := rfl
@[simp] theorem State.setReply_journal (s v) : (State.setReply s v).journal = s.journal := rfl
@[simp] theorem State.setReply_memory (s v) : (State.setReply s v).memory = s.memory := rfl
@[simp] theorem State.setReply_control (s v) : (State.setReply s v).control = s.control := rfl
@[simp] theorem State.setReply_link (s v) : (State.setReply s v).link = s.link := rfl
@[simp] theorem State.setReply_freeCount (s v) : (State.setReply s v).freeCount = s.freeCount := rfl
@[simp] theorem State.setReply_reply (s v) : (State.setReply s v).reply = v := rfl
@[simp] theorem State.setReply_pending (s v) : (State.setReply s v).pending = s.pending := rfl
@[simp] theorem State.setPending_time (s v) : (State.setPending s v).time = s.time := rfl
@[simp] theorem State.setPending_pins (s v) : (State.setPending s v).pins = s.pins := rfl
@[simp] theorem State.setPending_roster (s v) : (State.setPending s v).roster = s.roster := rfl
@[simp] theorem State.setPending_lanes (s v) : (State.setPending s v).lanes = s.lanes := rfl
@[simp] theorem State.setPending_gate (s v) : (State.setPending s v).gate = s.gate := rfl
@[simp] theorem State.setPending_pay (s v) : (State.setPending s v).pay = s.pay := rfl
@[simp] theorem State.setPending_attendance (s v) : (State.setPending s v).attendance = s.attendance := rfl
@[simp] theorem State.setPending_bells (s v) : (State.setPending s v).bells = s.bells := rfl
@[simp] theorem State.setPending_journal (s v) : (State.setPending s v).journal = s.journal := rfl
@[simp] theorem State.setPending_memory (s v) : (State.setPending s v).memory = s.memory := rfl
@[simp] theorem State.setPending_control (s v) : (State.setPending s v).control = s.control := rfl
@[simp] theorem State.setPending_link (s v) : (State.setPending s v).link = s.link := rfl
@[simp] theorem State.setPending_freeCount (s v) : (State.setPending s v).freeCount = s.freeCount := rfl
@[simp] theorem State.setPending_reply (s v) : (State.setPending s v).reply = s.reply := rfl
@[simp] theorem State.setPending_pending (s v) : (State.setPending s v).pending = v := rfl

/-! ## Numbered things -/

@[simp] theorem vget_vset_self {α : Type} {n : Nat} (v : Vector α n) (i : Fin n) (a : α) : vget (vset v i a) i = a := by
  simp [vget, vset]

@[simp] theorem vget_vset_other {α : Type} {n : Nat} (v : Vector α n) (i j : Fin n) (a : α) (h : j ≠ i) :
    vget (vset v i a) j = vget v j := by
  have h' : i.val ≠ j.val := fun e => h (Fin.ext e.symm)
  simp [vget, vset, h']

/-- Reading back after a replacement, in one equation. -/
theorem vget_vset {α : Type} {n : Nat} (v : Vector α n) (i j : Fin n) (a : α) :
    vget (vset v i a) j = if j = i then a else vget v j := by
  by_cases h : j = i
  · subst h; simp
  · simp [h]

@[simp] theorem vget_replicate {α : Type} {n : Nat} (a : α) (i : Fin n) : vget (Vector.replicate n a) i = a := by
  simp [vget]

@[simp] theorem vget_map {α β : Type} {n : Nat} (f : α → β) (v : Vector α n) (i : Fin n) :
    vget (v.map f) i = f (vget v i) := by
  simp [vget]

@[simp] theorem vget_vmap {α β : Type} {n : Nat} (f : Fin n → α → β) (v : Vector α n) (i : Fin n) :
    vget (vmap f v) i = f i (vget v i) := by
  simp [vget, vmap]

/-- Two vectors that read alike everywhere are equal. -/
theorem vector_ext_vget {α : Type} {n : Nat} {v w : Vector α n} (h : ∀ i, vget v i = vget w i) : v = w := by
  apply Vector.ext
  intro i hi
  exact h ⟨i, hi⟩

@[simp] theorem vset_vget_self {α : Type} {n : Nat} (v : Vector α n) (i : Fin n) : vset v i (vget v i) = v := by
  apply vector_ext_vget
  intro j
  rw [vget_vset]
  split <;> simp_all

/-! ## Lanes, doors, channels, ports -/

@[simp] theorem State.setLane_time (s : State) (l v) : (s.setLane l v).time = s.time := rfl
@[simp] theorem State.setLane_pins (s : State) (l v) : (s.setLane l v).pins = s.pins := rfl
@[simp] theorem State.setLane_roster (s : State) (l v) : (s.setLane l v).roster = s.roster := rfl
@[simp] theorem State.setLane_gate (s : State) (l v) : (s.setLane l v).gate = s.gate := rfl
@[simp] theorem State.setLane_pay (s : State) (l v) : (s.setLane l v).pay = s.pay := rfl
@[simp] theorem State.setLane_attendance (s : State) (l v) : (s.setLane l v).attendance = s.attendance := rfl
@[simp] theorem State.setLane_bells (s : State) (l v) : (s.setLane l v).bells = s.bells := rfl
@[simp] theorem State.setLane_journal (s : State) (l v) : (s.setLane l v).journal = s.journal := rfl
@[simp] theorem State.setLane_memory (s : State) (l v) : (s.setLane l v).memory = s.memory := rfl
@[simp] theorem State.setLane_control (s : State) (l v) : (s.setLane l v).control = s.control := rfl
@[simp] theorem State.setLane_link (s : State) (l v) : (s.setLane l v).link = s.link := rfl
@[simp] theorem State.setLane_freeCount (s : State) (l v) : (s.setLane l v).freeCount = s.freeCount := rfl
@[simp] theorem State.setLane_reply (s : State) (l v) : (s.setLane l v).reply = s.reply := rfl
@[simp] theorem State.setLane_pending (s : State) (l v) : (s.setLane l v).pending = s.pending := rfl
@[simp] theorem State.setDoor_time (s : State) (l v) : (s.setDoor l v).time = s.time := rfl
@[simp] theorem State.setDoor_pins (s : State) (l v) : (s.setDoor l v).pins = s.pins := rfl
@[simp] theorem State.setDoor_roster (s : State) (l v) : (s.setDoor l v).roster = s.roster := rfl
@[simp] theorem State.setDoor_lanes (s : State) (l v) : (s.setDoor l v).lanes = s.lanes := rfl
@[simp] theorem State.setDoor_pay (s : State) (l v) : (s.setDoor l v).pay = s.pay := rfl
@[simp] theorem State.setDoor_attendance (s : State) (l v) : (s.setDoor l v).attendance = s.attendance := rfl
@[simp] theorem State.setDoor_bells (s : State) (l v) : (s.setDoor l v).bells = s.bells := rfl
@[simp] theorem State.setDoor_journal (s : State) (l v) : (s.setDoor l v).journal = s.journal := rfl
@[simp] theorem State.setDoor_memory (s : State) (l v) : (s.setDoor l v).memory = s.memory := rfl
@[simp] theorem State.setDoor_control (s : State) (l v) : (s.setDoor l v).control = s.control := rfl
@[simp] theorem State.setDoor_link (s : State) (l v) : (s.setDoor l v).link = s.link := rfl
@[simp] theorem State.setDoor_freeCount (s : State) (l v) : (s.setDoor l v).freeCount = s.freeCount := rfl
@[simp] theorem State.setDoor_reply (s : State) (l v) : (s.setDoor l v).reply = s.reply := rfl
@[simp] theorem State.setDoor_pending (s : State) (l v) : (s.setDoor l v).pending = s.pending := rfl
@[simp] theorem State.setChannel_time (s : State) (c v) : (s.setChannel c v).time = s.time := rfl
@[simp] theorem State.setChannel_pins (s : State) (c v) : (s.setChannel c v).pins = s.pins := rfl
@[simp] theorem State.setChannel_roster (s : State) (c v) : (s.setChannel c v).roster = s.roster := rfl
@[simp] theorem State.setChannel_lanes (s : State) (c v) : (s.setChannel c v).lanes = s.lanes := rfl
@[simp] theorem State.setChannel_gate (s : State) (c v) : (s.setChannel c v).gate = s.gate := rfl
@[simp] theorem State.setChannel_pay (s : State) (c v) : (s.setChannel c v).pay = s.pay := rfl
@[simp] theorem State.setChannel_attendance (s : State) (c v) : (s.setChannel c v).attendance = s.attendance := rfl
@[simp] theorem State.setChannel_bells (s : State) (c v) : (s.setChannel c v).bells = s.bells := rfl
@[simp] theorem State.setChannel_journal (s : State) (c v) : (s.setChannel c v).journal = s.journal := rfl
@[simp] theorem State.setChannel_memory (s : State) (c v) : (s.setChannel c v).memory = s.memory := rfl
@[simp] theorem State.setChannel_link (s : State) (c v) : (s.setChannel c v).link = s.link := rfl
@[simp] theorem State.setChannel_freeCount (s : State) (c v) : (s.setChannel c v).freeCount = s.freeCount := rfl
@[simp] theorem State.setChannel_reply (s : State) (c v) : (s.setChannel c v).reply = s.reply := rfl
@[simp] theorem State.setChannel_pending (s : State) (c v) : (s.setChannel c v).pending = s.pending := rfl
@[simp] theorem State.setPortState_time (s : State) (p v) : (s.setPortState p v).time = s.time := by cases p <;> rfl
@[simp] theorem State.setPortState_pins (s : State) (p v) : (s.setPortState p v).pins = s.pins := by cases p <;> rfl
@[simp] theorem State.setPortState_roster (s : State) (p v) : (s.setPortState p v).roster = s.roster := by cases p <;> rfl
@[simp] theorem State.setPortState_lanes (s : State) (p v) : (s.setPortState p v).lanes = s.lanes := by cases p <;> rfl
@[simp] theorem State.setPortState_gate (s : State) (p v) : (s.setPortState p v).gate = s.gate := by cases p <;> rfl
@[simp] theorem State.setPortState_pay (s : State) (p v) : (s.setPortState p v).pay = s.pay := by cases p <;> rfl
@[simp] theorem State.setPortState_attendance (s : State) (p v) : (s.setPortState p v).attendance = s.attendance := by cases p <;> rfl
@[simp] theorem State.setPortState_bells (s : State) (p v) : (s.setPortState p v).bells = s.bells := by cases p <;> rfl
@[simp] theorem State.setPortState_journal (s : State) (p v) : (s.setPortState p v).journal = s.journal := by cases p <;> rfl
@[simp] theorem State.setPortState_memory (s : State) (p v) : (s.setPortState p v).memory = s.memory := by cases p <;> rfl
@[simp] theorem State.setPortState_link (s : State) (p v) : (s.setPortState p v).link = s.link := by cases p <;> rfl
@[simp] theorem State.setPortState_freeCount (s : State) (p v) : (s.setPortState p v).freeCount = s.freeCount := by cases p <;> rfl
@[simp] theorem State.setPortState_reply (s : State) (p v) : (s.setPortState p v).reply = s.reply := by cases p <;> rfl
@[simp] theorem State.setPortState_pending (s : State) (p v) : (s.setPortState p v).pending = s.pending := by cases p <;> rfl

@[simp] theorem State.lane_setLane_self (s : State) (l v) : (s.setLane l v).lane l = v := by
  simp [State.lane, State.setLane]

@[simp] theorem State.lane_setLane_other (s : State) (l m v) (h : m ≠ l) : (s.setLane l v).lane m = s.lane m := by
  simp [State.lane, State.setLane, h]

@[simp] theorem State.door_setDoor_self (s : State) (l v) : (s.setDoor l v).door l = v := by
  simp [State.door, State.setDoor]

@[simp] theorem State.door_setDoor_other (s : State) (l m v) (h : m ≠ l) : (s.setDoor l v).door m = s.door m := by
  simp [State.door, State.setDoor, h]

@[simp] theorem State.channel_setChannel_self (s : State) (c v) : (s.setChannel c v).channel c = v := by
  simp [State.channel, State.setChannel]

@[simp] theorem State.channel_setChannel_other (s : State) (c d v) (h : d ≠ c) :
    (s.setChannel c v).channel d = s.channel d := by
  simp [State.channel, State.setChannel, h]

@[simp] theorem State.portState_setPortState_self (s : State) (p v) : (s.setPortState p v).portState p = v := by
  cases p <;> rfl

@[simp] theorem State.portState_setPortState_other (s : State) (p q v) (h : q ≠ p) :
    (s.setPortState p v).portState q = s.portState q := by
  cases p <;> cases q <;> first | rfl | exact absurd rfl h

@[simp] theorem State.channel_setPortState (s : State) (p v c) : (s.setPortState p v).channel c = s.channel c := by
  cases p <;> rfl

@[simp] theorem State.portState_setChannel (s : State) (c v p) : (s.setChannel c v).portState p = s.portState p := by
  cases p <;> rfl

@[simp] theorem State.door_setLane (s : State) (l v m) : (s.setLane l v).door m = s.door m := rfl
@[simp] theorem State.lane_setDoor (s : State) (l v m) : (s.setDoor l v).lane m = s.lane m := rfl

/-- The gate's flags do not stand in a door. -/
@[simp] theorem State.setDoor_lockdown (s : State) (l v) : (s.setDoor l v).gate.lockdown = s.gate.lockdown := rfl
@[simp] theorem State.setDoor_emergency (s : State) (l v) : (s.setDoor l v).gate.emergency = s.gate.emergency := rfl
@[simp] theorem State.setDoor_windowLength (s : State) (l v) : (s.setDoor l v).gate.windowLength = s.gate.windowLength := rfl
@[simp] theorem State.setDoor_windowCountdown (s : State) (l v) :
    (s.setDoor l v).gate.windowCountdown = s.gate.windowCountdown := rfl

@[simp] theorem State.lane_setTime (s : State) (v l) : (s.setTime v).lane l = s.lane l := by rfl
@[simp] theorem State.lane_setPins (s : State) (v l) : (s.setPins v).lane l = s.lane l := by rfl
@[simp] theorem State.lane_setRoster (s : State) (v l) : (s.setRoster v).lane l = s.lane l := by rfl
@[simp] theorem State.lane_setGate (s : State) (v l) : (s.setGate v).lane l = s.lane l := by rfl
@[simp] theorem State.lane_setPay (s : State) (v l) : (s.setPay v).lane l = s.lane l := by rfl
@[simp] theorem State.lane_setAttendance (s : State) (v l) : (s.setAttendance v).lane l = s.lane l := by rfl
@[simp] theorem State.lane_setBells (s : State) (v l) : (s.setBells v).lane l = s.lane l := by rfl
@[simp] theorem State.lane_setJournal (s : State) (v l) : (s.setJournal v).lane l = s.lane l := by rfl
@[simp] theorem State.lane_setMemory (s : State) (v l) : (s.setMemory v).lane l = s.lane l := by rfl
@[simp] theorem State.lane_setControl (s : State) (v l) : (s.setControl v).lane l = s.lane l := by rfl
@[simp] theorem State.lane_setLink (s : State) (v l) : (s.setLink v).lane l = s.lane l := by rfl
@[simp] theorem State.lane_setFreeCount (s : State) (v l) : (s.setFreeCount v).lane l = s.lane l := by rfl
@[simp] theorem State.lane_setReply (s : State) (v l) : (s.setReply v).lane l = s.lane l := by rfl
@[simp] theorem State.lane_setPending (s : State) (v l) : (s.setPending v).lane l = s.lane l := by rfl
@[simp] theorem State.door_setTime (s : State) (v l) : (s.setTime v).door l = s.door l := by rfl
@[simp] theorem State.door_setPins (s : State) (v l) : (s.setPins v).door l = s.door l := by rfl
@[simp] theorem State.door_setRoster (s : State) (v l) : (s.setRoster v).door l = s.door l := by rfl
@[simp] theorem State.door_setLanes (s : State) (v l) : (s.setLanes v).door l = s.door l := by rfl
@[simp] theorem State.door_setPay (s : State) (v l) : (s.setPay v).door l = s.door l := by rfl
@[simp] theorem State.door_setAttendance (s : State) (v l) : (s.setAttendance v).door l = s.door l := by rfl
@[simp] theorem State.door_setBells (s : State) (v l) : (s.setBells v).door l = s.door l := by rfl
@[simp] theorem State.door_setJournal (s : State) (v l) : (s.setJournal v).door l = s.door l := by rfl
@[simp] theorem State.door_setMemory (s : State) (v l) : (s.setMemory v).door l = s.door l := by rfl
@[simp] theorem State.door_setControl (s : State) (v l) : (s.setControl v).door l = s.door l := by rfl
@[simp] theorem State.door_setLink (s : State) (v l) : (s.setLink v).door l = s.door l := by rfl
@[simp] theorem State.door_setFreeCount (s : State) (v l) : (s.setFreeCount v).door l = s.door l := by rfl
@[simp] theorem State.door_setReply (s : State) (v l) : (s.setReply v).door l = s.door l := by rfl
@[simp] theorem State.door_setPending (s : State) (v l) : (s.setPending v).door l = s.door l := by rfl
@[simp] theorem State.channel_setTime (s : State) (v c) : (s.setTime v).channel c = s.channel c := by rfl
@[simp] theorem State.channel_setPins (s : State) (v c) : (s.setPins v).channel c = s.channel c := by rfl
@[simp] theorem State.channel_setRoster (s : State) (v c) : (s.setRoster v).channel c = s.channel c := by rfl
@[simp] theorem State.channel_setLanes (s : State) (v c) : (s.setLanes v).channel c = s.channel c := by rfl
@[simp] theorem State.channel_setGate (s : State) (v c) : (s.setGate v).channel c = s.channel c := by rfl
@[simp] theorem State.channel_setPay (s : State) (v c) : (s.setPay v).channel c = s.channel c := by rfl
@[simp] theorem State.channel_setAttendance (s : State) (v c) : (s.setAttendance v).channel c = s.channel c := by rfl
@[simp] theorem State.channel_setBells (s : State) (v c) : (s.setBells v).channel c = s.channel c := by rfl
@[simp] theorem State.channel_setJournal (s : State) (v c) : (s.setJournal v).channel c = s.channel c := by rfl
@[simp] theorem State.channel_setMemory (s : State) (v c) : (s.setMemory v).channel c = s.channel c := by rfl
@[simp] theorem State.channel_setLink (s : State) (v c) : (s.setLink v).channel c = s.channel c := by rfl
@[simp] theorem State.channel_setFreeCount (s : State) (v c) : (s.setFreeCount v).channel c = s.channel c := by rfl
@[simp] theorem State.channel_setReply (s : State) (v c) : (s.setReply v).channel c = s.channel c := by rfl
@[simp] theorem State.channel_setPending (s : State) (v c) : (s.setPending v).channel c = s.channel c := by rfl
@[simp] theorem State.portState_setTime (s : State) (v p) : (s.setTime v).portState p = s.portState p := by cases p <;> rfl
@[simp] theorem State.portState_setPins (s : State) (v p) : (s.setPins v).portState p = s.portState p := by cases p <;> rfl
@[simp] theorem State.portState_setRoster (s : State) (v p) : (s.setRoster v).portState p = s.portState p := by cases p <;> rfl
@[simp] theorem State.portState_setLanes (s : State) (v p) : (s.setLanes v).portState p = s.portState p := by cases p <;> rfl
@[simp] theorem State.portState_setGate (s : State) (v p) : (s.setGate v).portState p = s.portState p := by cases p <;> rfl
@[simp] theorem State.portState_setPay (s : State) (v p) : (s.setPay v).portState p = s.portState p := by cases p <;> rfl
@[simp] theorem State.portState_setAttendance (s : State) (v p) : (s.setAttendance v).portState p = s.portState p := by cases p <;> rfl
@[simp] theorem State.portState_setBells (s : State) (v p) : (s.setBells v).portState p = s.portState p := by cases p <;> rfl
@[simp] theorem State.portState_setJournal (s : State) (v p) : (s.setJournal v).portState p = s.portState p := by cases p <;> rfl
@[simp] theorem State.portState_setMemory (s : State) (v p) : (s.setMemory v).portState p = s.portState p := by cases p <;> rfl
@[simp] theorem State.portState_setLink (s : State) (v p) : (s.setLink v).portState p = s.portState p := by cases p <;> rfl
@[simp] theorem State.portState_setFreeCount (s : State) (v p) : (s.setFreeCount v).portState p = s.portState p := by cases p <;> rfl
@[simp] theorem State.portState_setReply (s : State) (v p) : (s.setReply v).portState p = s.portState p := by cases p <;> rfl
@[simp] theorem State.portState_setPending (s : State) (v p) : (s.setPending v).portState p = s.portState p := by cases p <;> rfl
@[simp] theorem State.record_setTime (s : State) (v a) : (s.setTime v).record a = s.record a := by rfl
@[simp] theorem State.record_setPins (s : State) (v a) : (s.setPins v).record a = s.record a := by rfl
@[simp] theorem State.record_setLanes (s : State) (v a) : (s.setLanes v).record a = s.record a := by rfl
@[simp] theorem State.record_setGate (s : State) (v a) : (s.setGate v).record a = s.record a := by rfl
@[simp] theorem State.record_setPay (s : State) (v a) : (s.setPay v).record a = s.record a := by rfl
@[simp] theorem State.record_setAttendance (s : State) (v a) : (s.setAttendance v).record a = s.record a := by rfl
@[simp] theorem State.record_setBells (s : State) (v a) : (s.setBells v).record a = s.record a := by rfl
@[simp] theorem State.record_setJournal (s : State) (v a) : (s.setJournal v).record a = s.record a := by rfl
@[simp] theorem State.record_setMemory (s : State) (v a) : (s.setMemory v).record a = s.record a := by rfl
@[simp] theorem State.record_setControl (s : State) (v a) : (s.setControl v).record a = s.record a := by rfl
@[simp] theorem State.record_setLink (s : State) (v a) : (s.setLink v).record a = s.record a := by rfl
@[simp] theorem State.record_setFreeCount (s : State) (v a) : (s.setFreeCount v).record a = s.record a := by rfl
@[simp] theorem State.record_setReply (s : State) (v a) : (s.setReply v).record a = s.record a := by rfl
@[simp] theorem State.record_setPending (s : State) (v a) : (s.setPending v).record a = s.record a := by rfl
@[simp] theorem running_setPins (s : State) (v) : running (s.setPins v) = running s := rfl
@[simp] theorem running_setRoster (s : State) (v) : running (s.setRoster v) = running s := rfl
@[simp] theorem running_setLanes (s : State) (v) : running (s.setLanes v) = running s := rfl
@[simp] theorem running_setGate (s : State) (v) : running (s.setGate v) = running s := rfl
@[simp] theorem running_setPay (s : State) (v) : running (s.setPay v) = running s := rfl
@[simp] theorem running_setAttendance (s : State) (v) : running (s.setAttendance v) = running s := rfl
@[simp] theorem running_setBells (s : State) (v) : running (s.setBells v) = running s := rfl
@[simp] theorem running_setJournal (s : State) (v) : running (s.setJournal v) = running s := rfl
@[simp] theorem running_setMemory (s : State) (v) : running (s.setMemory v) = running s := rfl
@[simp] theorem running_setControl (s : State) (v) : running (s.setControl v) = running s := rfl
@[simp] theorem running_setLink (s : State) (v) : running (s.setLink v) = running s := rfl
@[simp] theorem running_setFreeCount (s : State) (v) : running (s.setFreeCount v) = running s := rfl
@[simp] theorem running_setReply (s : State) (v) : running (s.setReply v) = running s := rfl
@[simp] theorem running_setPending (s : State) (v) : running (s.setPending v) = running s := rfl
@[simp] theorem engineOpen_setPins (s : State) (v) : engineOpen (s.setPins v) = engineOpen s := rfl
@[simp] theorem engineOpen_setRoster (s : State) (v) : engineOpen (s.setRoster v) = engineOpen s := rfl
@[simp] theorem engineOpen_setLanes (s : State) (v) : engineOpen (s.setLanes v) = engineOpen s := rfl
@[simp] theorem engineOpen_setGate (s : State) (v) : engineOpen (s.setGate v) = engineOpen s := rfl
@[simp] theorem engineOpen_setPay (s : State) (v) : engineOpen (s.setPay v) = engineOpen s := rfl
@[simp] theorem engineOpen_setAttendance (s : State) (v) : engineOpen (s.setAttendance v) = engineOpen s := rfl
@[simp] theorem engineOpen_setBells (s : State) (v) : engineOpen (s.setBells v) = engineOpen s := rfl
@[simp] theorem engineOpen_setJournal (s : State) (v) : engineOpen (s.setJournal v) = engineOpen s := rfl
@[simp] theorem engineOpen_setMemory (s : State) (v) : engineOpen (s.setMemory v) = engineOpen s := rfl
@[simp] theorem engineOpen_setControl (s : State) (v) : engineOpen (s.setControl v) = engineOpen s := rfl
@[simp] theorem engineOpen_setLink (s : State) (v) : engineOpen (s.setLink v) = engineOpen s := rfl
@[simp] theorem engineOpen_setFreeCount (s : State) (v) : engineOpen (s.setFreeCount v) = engineOpen s := rfl
@[simp] theorem engineOpen_setReply (s : State) (v) : engineOpen (s.setReply v) = engineOpen s := rfl
@[simp] theorem engineOpen_setPending (s : State) (v) : engineOpen (s.setPending v) = engineOpen s := rfl
@[simp] theorem State.setPortState_clockMirror (s : State) (p v) : (s.setPortState p v).control.clockMirror = s.control.clockMirror := by cases p <;> rfl
@[simp] theorem State.setPortState_presentMirror (s : State) (p v) : (s.setPortState p v).control.presentMirror = s.control.presentMirror := by cases p <;> rfl
@[simp] theorem State.setPortState_channels (s : State) (p v) : (s.setPortState p v).control.channels = s.control.channels := by cases p <;> rfl
@[simp] theorem State.setPortState_lastServed (s : State) (p v) : (s.setPortState p v).control.lastServed = s.control.lastServed := by cases p <;> rfl
@[simp] theorem State.setPortState_arbiter (s : State) (p v) : (s.setPortState p v).control.arbiter = s.control.arbiter := by cases p <;> rfl
@[simp] theorem State.setChannel_clockMirror (s : State) (c v) : (s.setChannel c v).control.clockMirror = s.control.clockMirror := rfl
@[simp] theorem State.setChannel_presentMirror (s : State) (c v) : (s.setChannel c v).control.presentMirror = s.control.presentMirror := rfl
@[simp] theorem State.setChannel_lastServed (s : State) (c v) : (s.setChannel c v).control.lastServed = s.control.lastServed := rfl
@[simp] theorem State.setChannel_arbiter (s : State) (c v) : (s.setChannel c v).control.arbiter = s.control.arbiter := rfl

end Sys2Proof.Machine
end

