-- ==== Sys2Proof/Laws/Frames.lean ====
section
/-! SUPPORT. What each shared operation leaves alone: one lemma for each field outside those it may change, and one for each part of a
field that it changes only elsewhere. -/

namespace Sys2Proof.Machine

@[simp] theorem Bells.request_schedule (b : Bells) (z n src) : (b.request z n src).schedule = b.schedule := by
  simp only [Bells.request]; split <;> rfl
@[simp] theorem Bells.request_patterns (b : Bells) (z n src) : (b.request z n src).patterns = b.patterns := by
  simp only [Bells.request]; split <;> rfl
@[simp] theorem Bells.request_emergencyMask (b : Bells) (z n src) :
    (b.request z n src).emergencyMask = b.emergencyMask := by
  simp only [Bells.request]; split <;> rfl
@[simp] theorem Bells.request_locked (b : Bells) (z n src) : (b.request z n src).locked = b.locked := by
  simp only [Bells.request]; split <;> rfl

/-- Requests in a row touch the zone players only. -/
theorem Bells.foldl_request (zs : List Zone) (n src) (b : Bells) :
    let c := zs.foldl (fun acc z => acc.request z n src) b
    c.schedule = b.schedule ∧ c.patterns = b.patterns ∧ c.emergencyMask = b.emergencyMask ∧ c.locked = b.locked := by
  induction zs generalizing b with
  | nil => simp
  | cons z zs ih => simpa using ih (b.request z n src)

@[simp] theorem Bells.requestAll_schedule (b : Bells) (m n src) : (b.requestAll m n src).schedule = b.schedule :=
  (Bells.foldl_request _ n src b).1
@[simp] theorem Bells.requestAll_patterns (b : Bells) (m n src) : (b.requestAll m n src).patterns = b.patterns :=
  (Bells.foldl_request _ n src b).2.1
@[simp] theorem Bells.requestAll_emergencyMask (b : Bells) (m n src) :
    (b.requestAll m n src).emergencyMask = b.emergencyMask := (Bells.foldl_request _ n src b).2.2.1
@[simp] theorem Bells.requestAll_locked (b : Bells) (m n src) : (b.requestAll m n src).locked = b.locked :=
  (Bells.foldl_request _ n src b).2.2.2

/-- The requests of an evaluation touch the zone players only. -/
theorem Bells.foldl_evaluate (zs : List Zone) (f : Zone → Option BellIndex) (s : State) (b : Bells) :
    let c := zs.foldl (fun acc z => match f z with
      | some i => acc.request z (vget s.bells.schedule i).pattern (.schedule i)
      | none => acc) b
    c.schedule = b.schedule ∧ c.patterns = b.patterns ∧ c.emergencyMask = b.emergencyMask ∧ c.locked = b.locked := by
  induction zs generalizing b with
  | nil => simp
  | cons z zs ih =>
    simp only [List.foldl_cons]
    split
    · simpa using ih (b.request z _ _)
    · exact ih b

@[simp] theorem Bells.silenceWhere_schedule (b : Bells) (f) : (b.silenceWhere f).schedule = b.schedule := rfl
@[simp] theorem Bells.silenceWhere_patterns (b : Bells) (f) : (b.silenceWhere f).patterns = b.patterns := rfl
@[simp] theorem Bells.silenceWhere_emergencyMask (b : Bells) (f) : (b.silenceWhere f).emergencyMask = b.emergencyMask := rfl
@[simp] theorem Bells.silenceWhere_locked (b : Bells) (f) : (b.silenceWhere f).locked = b.locked := rfl

@[simp] theorem notice_time (p : Port) (w : SummaryWord) (b : Nat) (s : State) : (notice p w b s).time = s.time := by
  simp [notice]
@[simp] theorem notice_pins (p : Port) (w : SummaryWord) (b : Nat) (s : State) : (notice p w b s).pins = s.pins := by
  simp [notice]
@[simp] theorem notice_roster (p : Port) (w : SummaryWord) (b : Nat) (s : State) : (notice p w b s).roster = s.roster := by
  simp [notice]
@[simp] theorem notice_lanes (p : Port) (w : SummaryWord) (b : Nat) (s : State) : (notice p w b s).lanes = s.lanes := by
  simp [notice]
@[simp] theorem notice_gate (p : Port) (w : SummaryWord) (b : Nat) (s : State) : (notice p w b s).gate = s.gate := by
  simp [notice]
@[simp] theorem notice_pay (p : Port) (w : SummaryWord) (b : Nat) (s : State) : (notice p w b s).pay = s.pay := by
  simp [notice]
@[simp] theorem notice_attendance (p : Port) (w : SummaryWord) (b : Nat) (s : State) : (notice p w b s).attendance = s.attendance := by
  simp [notice]
@[simp] theorem notice_bells (p : Port) (w : SummaryWord) (b : Nat) (s : State) : (notice p w b s).bells = s.bells := by
  simp [notice]
@[simp] theorem notice_journal (p : Port) (w : SummaryWord) (b : Nat) (s : State) : (notice p w b s).journal = s.journal := by
  simp [notice]
@[simp] theorem notice_memory (p : Port) (w : SummaryWord) (b : Nat) (s : State) : (notice p w b s).memory = s.memory := by
  simp [notice]
@[simp] theorem notice_link (p : Port) (w : SummaryWord) (b : Nat) (s : State) : (notice p w b s).link = s.link := by
  simp [notice]
@[simp] theorem notice_freeCount (p : Port) (w : SummaryWord) (b : Nat) (s : State) : (notice p w b s).freeCount = s.freeCount := by
  simp [notice]
@[simp] theorem notice_reply (p : Port) (w : SummaryWord) (b : Nat) (s : State) : (notice p w b s).reply = s.reply := by
  simp [notice]
@[simp] theorem notice_pending (p : Port) (w : SummaryWord) (b : Nat) (s : State) : (notice p w b s).pending = s.pending := by
  simp [notice]
@[simp] theorem notice_running (p : Port) (w : SummaryWord) (b : Nat) (s : State) : running (notice p w b s) = running s := by
  simp [running]
@[simp] theorem notice_laneAt (p : Port) (w : SummaryWord) (b : Nat) (s : State) (i : Lane) : (notice p w b s).lane i = s.lane i := by
  simp [State.lane]
@[simp] theorem notice_doorAt (p : Port) (w : SummaryWord) (b : Nat) (s : State) (i : Lane) : (notice p w b s).door i = s.door i := by
  simp [State.door]
@[simp] theorem notice_recordAt (p : Port) (w : SummaryWord) (b : Nat) (s : State) (i : Slot) : (notice p w b s).record i = s.record i := by
  simp [State.record]
@[simp] theorem notice_clockMirror (p : Port) (w : SummaryWord) (b : Nat) (s : State) :
    (notice p w b s).control.clockMirror = s.control.clockMirror := by
  simp [notice]
@[simp] theorem notice_channels (p : Port) (w : SummaryWord) (b : Nat) (s : State) :
    (notice p w b s).control.channels = s.control.channels := by
  simp [notice]
@[simp] theorem notice_lastServed (p : Port) (w : SummaryWord) (b : Nat) (s : State) :
    (notice p w b s).control.lastServed = s.control.lastServed := by
  simp [notice]
@[simp] theorem notice_arbiter (p : Port) (w : SummaryWord) (b : Nat) (s : State) :
    (notice p w b s).control.arbiter = s.control.arbiter := by
  simp [notice]
@[simp] theorem notice_presentMirror (p : Port) (w : SummaryWord) (b : Nat) (s : State) :
    (notice p w b s).control.presentMirror = s.control.presentMirror := by
  simp [notice]

@[simp] theorem raiseCause_time (p : Port) (c : Cause) (s : State) : (raiseCause p c s).time = s.time := by
  simp [raiseCause]
@[simp] theorem raiseCause_pins (p : Port) (c : Cause) (s : State) : (raiseCause p c s).pins = s.pins := by
  simp [raiseCause]
@[simp] theorem raiseCause_roster (p : Port) (c : Cause) (s : State) : (raiseCause p c s).roster = s.roster := by
  simp [raiseCause]
@[simp] theorem raiseCause_lanes (p : Port) (c : Cause) (s : State) : (raiseCause p c s).lanes = s.lanes := by
  simp [raiseCause]
@[simp] theorem raiseCause_gate (p : Port) (c : Cause) (s : State) : (raiseCause p c s).gate = s.gate := by
  simp [raiseCause]
@[simp] theorem raiseCause_pay (p : Port) (c : Cause) (s : State) : (raiseCause p c s).pay = s.pay := by
  simp [raiseCause]
@[simp] theorem raiseCause_attendance (p : Port) (c : Cause) (s : State) : (raiseCause p c s).attendance = s.attendance := by
  simp [raiseCause]
@[simp] theorem raiseCause_bells (p : Port) (c : Cause) (s : State) : (raiseCause p c s).bells = s.bells := by
  simp [raiseCause]
@[simp] theorem raiseCause_journal (p : Port) (c : Cause) (s : State) : (raiseCause p c s).journal = s.journal := by
  simp [raiseCause]
@[simp] theorem raiseCause_memory (p : Port) (c : Cause) (s : State) : (raiseCause p c s).memory = s.memory := by
  simp [raiseCause]
@[simp] theorem raiseCause_link (p : Port) (c : Cause) (s : State) : (raiseCause p c s).link = s.link := by
  simp [raiseCause]
@[simp] theorem raiseCause_freeCount (p : Port) (c : Cause) (s : State) : (raiseCause p c s).freeCount = s.freeCount := by
  simp [raiseCause]
@[simp] theorem raiseCause_reply (p : Port) (c : Cause) (s : State) : (raiseCause p c s).reply = s.reply := by
  simp [raiseCause]
@[simp] theorem raiseCause_pending (p : Port) (c : Cause) (s : State) : (raiseCause p c s).pending = s.pending := by
  simp [raiseCause]
@[simp] theorem raiseCause_running (p : Port) (c : Cause) (s : State) : running (raiseCause p c s) = running s := by
  simp [running]
@[simp] theorem raiseCause_laneAt (p : Port) (c : Cause) (s : State) (i : Lane) : (raiseCause p c s).lane i = s.lane i := by
  simp [State.lane]
@[simp] theorem raiseCause_doorAt (p : Port) (c : Cause) (s : State) (i : Lane) : (raiseCause p c s).door i = s.door i := by
  simp [State.door]
@[simp] theorem raiseCause_recordAt (p : Port) (c : Cause) (s : State) (i : Slot) : (raiseCause p c s).record i = s.record i := by
  simp [State.record]
@[simp] theorem raiseCause_clockMirror (p : Port) (c : Cause) (s : State) :
    (raiseCause p c s).control.clockMirror = s.control.clockMirror := by
  simp [raiseCause]
@[simp] theorem raiseCause_channels (p : Port) (c : Cause) (s : State) :
    (raiseCause p c s).control.channels = s.control.channels := by
  simp [raiseCause]
@[simp] theorem raiseCause_lastServed (p : Port) (c : Cause) (s : State) :
    (raiseCause p c s).control.lastServed = s.control.lastServed := by
  simp [raiseCause]
@[simp] theorem raiseCause_arbiter (p : Port) (c : Cause) (s : State) :
    (raiseCause p c s).control.arbiter = s.control.arbiter := by
  simp [raiseCause]
@[simp] theorem raiseCause_presentMirror (p : Port) (c : Cause) (s : State) :
    (raiseCause p c s).control.presentMirror = s.control.presentMirror := by
  simp [raiseCause]

@[simp] theorem raiseBoth_time (c : Cause) (s : State) : (raiseBoth c s).time = s.time := by
  simp [raiseBoth]
@[simp] theorem raiseBoth_pins (c : Cause) (s : State) : (raiseBoth c s).pins = s.pins := by
  simp [raiseBoth]
@[simp] theorem raiseBoth_roster (c : Cause) (s : State) : (raiseBoth c s).roster = s.roster := by
  simp [raiseBoth]
@[simp] theorem raiseBoth_lanes (c : Cause) (s : State) : (raiseBoth c s).lanes = s.lanes := by
  simp [raiseBoth]
@[simp] theorem raiseBoth_gate (c : Cause) (s : State) : (raiseBoth c s).gate = s.gate := by
  simp [raiseBoth]
@[simp] theorem raiseBoth_pay (c : Cause) (s : State) : (raiseBoth c s).pay = s.pay := by
  simp [raiseBoth]
@[simp] theorem raiseBoth_attendance (c : Cause) (s : State) : (raiseBoth c s).attendance = s.attendance := by
  simp [raiseBoth]
@[simp] theorem raiseBoth_bells (c : Cause) (s : State) : (raiseBoth c s).bells = s.bells := by
  simp [raiseBoth]
@[simp] theorem raiseBoth_journal (c : Cause) (s : State) : (raiseBoth c s).journal = s.journal := by
  simp [raiseBoth]
@[simp] theorem raiseBoth_memory (c : Cause) (s : State) : (raiseBoth c s).memory = s.memory := by
  simp [raiseBoth]
@[simp] theorem raiseBoth_link (c : Cause) (s : State) : (raiseBoth c s).link = s.link := by
  simp [raiseBoth]
@[simp] theorem raiseBoth_freeCount (c : Cause) (s : State) : (raiseBoth c s).freeCount = s.freeCount := by
  simp [raiseBoth]
@[simp] theorem raiseBoth_reply (c : Cause) (s : State) : (raiseBoth c s).reply = s.reply := by
  simp [raiseBoth]
@[simp] theorem raiseBoth_pending (c : Cause) (s : State) : (raiseBoth c s).pending = s.pending := by
  simp [raiseBoth]
@[simp] theorem raiseBoth_running (c : Cause) (s : State) : running (raiseBoth c s) = running s := by
  simp [running]
@[simp] theorem raiseBoth_laneAt (c : Cause) (s : State) (i : Lane) : (raiseBoth c s).lane i = s.lane i := by
  simp [State.lane]
@[simp] theorem raiseBoth_doorAt (c : Cause) (s : State) (i : Lane) : (raiseBoth c s).door i = s.door i := by
  simp [State.door]
@[simp] theorem raiseBoth_recordAt (c : Cause) (s : State) (i : Slot) : (raiseBoth c s).record i = s.record i := by
  simp [State.record]
@[simp] theorem raiseBoth_clockMirror (c : Cause) (s : State) :
    (raiseBoth c s).control.clockMirror = s.control.clockMirror := by
  simp [raiseBoth]
@[simp] theorem raiseBoth_channels (c : Cause) (s : State) :
    (raiseBoth c s).control.channels = s.control.channels := by
  simp [raiseBoth]
@[simp] theorem raiseBoth_lastServed (c : Cause) (s : State) :
    (raiseBoth c s).control.lastServed = s.control.lastServed := by
  simp [raiseBoth]
@[simp] theorem raiseBoth_arbiter (c : Cause) (s : State) :
    (raiseBoth c s).control.arbiter = s.control.arbiter := by
  simp [raiseBoth]
@[simp] theorem raiseBoth_presentMirror (c : Cause) (s : State) :
    (raiseBoth c s).control.presentMirror = s.control.presentMirror := by
  simp [raiseBoth]

@[simp] theorem noticeSet_time (ps : PortSet) (w : SummaryWord) (b : Nat) (s : State) : (noticeSet ps w b s).time = s.time := by
  simp only [noticeSet]; split <;> split <;> simp
@[simp] theorem noticeSet_pins (ps : PortSet) (w : SummaryWord) (b : Nat) (s : State) : (noticeSet ps w b s).pins = s.pins := by
  simp only [noticeSet]; split <;> split <;> simp
@[simp] theorem noticeSet_roster (ps : PortSet) (w : SummaryWord) (b : Nat) (s : State) : (noticeSet ps w b s).roster = s.roster := by
  simp only [noticeSet]; split <;> split <;> simp
@[simp] theorem noticeSet_lanes (ps : PortSet) (w : SummaryWord) (b : Nat) (s : State) : (noticeSet ps w b s).lanes = s.lanes := by
  simp only [noticeSet]; split <;> split <;> simp
@[simp] theorem noticeSet_gate (ps : PortSet) (w : SummaryWord) (b : Nat) (s : State) : (noticeSet ps w b s).gate = s.gate := by
  simp only [noticeSet]; split <;> split <;> simp
@[simp] theorem noticeSet_pay (ps : PortSet) (w : SummaryWord) (b : Nat) (s : State) : (noticeSet ps w b s).pay = s.pay := by
  simp only [noticeSet]; split <;> split <;> simp
@[simp] theorem noticeSet_attendance (ps : PortSet) (w : SummaryWord) (b : Nat) (s : State) : (noticeSet ps w b s).attendance = s.attendance := by
  simp only [noticeSet]; split <;> split <;> simp
@[simp] theorem noticeSet_bells (ps : PortSet) (w : SummaryWord) (b : Nat) (s : State) : (noticeSet ps w b s).bells = s.bells := by
  simp only [noticeSet]; split <;> split <;> simp
@[simp] theorem noticeSet_journal (ps : PortSet) (w : SummaryWord) (b : Nat) (s : State) : (noticeSet ps w b s).journal = s.journal := by
  simp only [noticeSet]; split <;> split <;> simp
@[simp] theorem noticeSet_memory (ps : PortSet) (w : SummaryWord) (b : Nat) (s : State) : (noticeSet ps w b s).memory = s.memory := by
  simp only [noticeSet]; split <;> split <;> simp
@[simp] theorem noticeSet_link (ps : PortSet) (w : SummaryWord) (b : Nat) (s : State) : (noticeSet ps w b s).link = s.link := by
  simp only [noticeSet]; split <;> split <;> simp
@[simp] theorem noticeSet_freeCount (ps : PortSet) (w : SummaryWord) (b : Nat) (s : State) : (noticeSet ps w b s).freeCount = s.freeCount := by
  simp only [noticeSet]; split <;> split <;> simp
@[simp] theorem noticeSet_reply (ps : PortSet) (w : SummaryWord) (b : Nat) (s : State) : (noticeSet ps w b s).reply = s.reply := by
  simp only [noticeSet]; split <;> split <;> simp
@[simp] theorem noticeSet_pending (ps : PortSet) (w : SummaryWord) (b : Nat) (s : State) : (noticeSet ps w b s).pending = s.pending := by
  simp only [noticeSet]; split <;> split <;> simp
@[simp] theorem noticeSet_running (ps : PortSet) (w : SummaryWord) (b : Nat) (s : State) : running (noticeSet ps w b s) = running s := by
  simp [running]
@[simp] theorem noticeSet_laneAt (ps : PortSet) (w : SummaryWord) (b : Nat) (s : State) (i : Lane) : (noticeSet ps w b s).lane i = s.lane i := by
  simp [State.lane]
@[simp] theorem noticeSet_doorAt (ps : PortSet) (w : SummaryWord) (b : Nat) (s : State) (i : Lane) : (noticeSet ps w b s).door i = s.door i := by
  simp [State.door]
@[simp] theorem noticeSet_recordAt (ps : PortSet) (w : SummaryWord) (b : Nat) (s : State) (i : Slot) : (noticeSet ps w b s).record i = s.record i := by
  simp [State.record]
@[simp] theorem noticeSet_clockMirror (ps : PortSet) (w : SummaryWord) (b : Nat) (s : State) :
    (noticeSet ps w b s).control.clockMirror = s.control.clockMirror := by
  simp only [noticeSet]; split <;> split <;> simp
@[simp] theorem noticeSet_channels (ps : PortSet) (w : SummaryWord) (b : Nat) (s : State) :
    (noticeSet ps w b s).control.channels = s.control.channels := by
  simp only [noticeSet]; split <;> split <;> simp
@[simp] theorem noticeSet_lastServed (ps : PortSet) (w : SummaryWord) (b : Nat) (s : State) :
    (noticeSet ps w b s).control.lastServed = s.control.lastServed := by
  simp only [noticeSet]; split <;> split <;> simp
@[simp] theorem noticeSet_arbiter (ps : PortSet) (w : SummaryWord) (b : Nat) (s : State) :
    (noticeSet ps w b s).control.arbiter = s.control.arbiter := by
  simp only [noticeSet]; split <;> split <;> simp
@[simp] theorem noticeSet_presentMirror (ps : PortSet) (w : SummaryWord) (b : Nat) (s : State) :
    (noticeSet ps w b s).control.presentMirror = s.control.presentMirror := by
  simp only [noticeSet]; split <;> split <;> simp

@[simp] theorem access_time (r : Requester) (s : State) : (access r s).time = s.time := by
  simp only [access]; split <;> simp
@[simp] theorem access_pins (r : Requester) (s : State) : (access r s).pins = s.pins := by
  simp only [access]; split <;> simp
@[simp] theorem access_roster (r : Requester) (s : State) : (access r s).roster = s.roster := by
  simp only [access]; split <;> simp
@[simp] theorem access_lanes (r : Requester) (s : State) : (access r s).lanes = s.lanes := by
  simp only [access]; split <;> simp
@[simp] theorem access_gate (r : Requester) (s : State) : (access r s).gate = s.gate := by
  simp only [access]; split <;> simp
@[simp] theorem access_pay (r : Requester) (s : State) : (access r s).pay = s.pay := by
  simp only [access]; split <;> simp
@[simp] theorem access_attendance (r : Requester) (s : State) : (access r s).attendance = s.attendance := by
  simp only [access]; split <;> simp
@[simp] theorem access_bells (r : Requester) (s : State) : (access r s).bells = s.bells := by
  simp only [access]; split <;> simp
@[simp] theorem access_journal (r : Requester) (s : State) : (access r s).journal = s.journal := by
  simp only [access]; split <;> simp
@[simp] theorem access_memory (r : Requester) (s : State) : (access r s).memory = s.memory := by
  simp only [access]; split <;> simp
@[simp] theorem access_link (r : Requester) (s : State) : (access r s).link = s.link := by
  simp only [access]; split <;> simp
@[simp] theorem access_freeCount (r : Requester) (s : State) : (access r s).freeCount = s.freeCount := by
  simp only [access]; split <;> simp
@[simp] theorem access_reply (r : Requester) (s : State) : (access r s).reply = s.reply := by
  simp only [access]; split <;> simp
@[simp] theorem access_pending (r : Requester) (s : State) : (access r s).pending = s.pending := by
  simp only [access]; split <;> simp
@[simp] theorem access_running (r : Requester) (s : State) : running (access r s) = running s := by
  simp [running]
@[simp] theorem access_laneAt (r : Requester) (s : State) (i : Lane) : (access r s).lane i = s.lane i := by
  simp [State.lane]
@[simp] theorem access_doorAt (r : Requester) (s : State) (i : Lane) : (access r s).door i = s.door i := by
  simp [State.door]
@[simp] theorem access_recordAt (r : Requester) (s : State) (i : Slot) : (access r s).record i = s.record i := by
  simp [State.record]
@[simp] theorem access_clockMirror (r : Requester) (s : State) :
    (access r s).control.clockMirror = s.control.clockMirror := by
  simp only [access]; split <;> simp
@[simp] theorem access_channels (r : Requester) (s : State) :
    (access r s).control.channels = s.control.channels := by
  simp only [access]; split <;> simp
@[simp] theorem access_lastServed (r : Requester) (s : State) :
    (access r s).control.lastServed = s.control.lastServed := by
  simp only [access]; split <;> simp
@[simp] theorem access_presentMirror (r : Requester) (s : State) :
    (access r s).control.presentMirror = s.control.presentMirror := by
  simp only [access]; split <;> simp

@[simp] theorem examineHigh_time (p : Port) (s : State) : (examineHigh p s).time = s.time := by
  simp only [examineHigh]; split <;> simp
@[simp] theorem examineHigh_pins (p : Port) (s : State) : (examineHigh p s).pins = s.pins := by
  simp only [examineHigh]; split <;> simp
@[simp] theorem examineHigh_roster (p : Port) (s : State) : (examineHigh p s).roster = s.roster := by
  simp only [examineHigh]; split <;> simp
@[simp] theorem examineHigh_lanes (p : Port) (s : State) : (examineHigh p s).lanes = s.lanes := by
  simp only [examineHigh]; split <;> simp
@[simp] theorem examineHigh_gate (p : Port) (s : State) : (examineHigh p s).gate = s.gate := by
  simp only [examineHigh]; split <;> simp
@[simp] theorem examineHigh_pay (p : Port) (s : State) : (examineHigh p s).pay = s.pay := by
  simp only [examineHigh]; split <;> simp
@[simp] theorem examineHigh_attendance (p : Port) (s : State) : (examineHigh p s).attendance = s.attendance := by
  simp only [examineHigh]; split <;> simp
@[simp] theorem examineHigh_bells (p : Port) (s : State) : (examineHigh p s).bells = s.bells := by
  simp only [examineHigh]; split <;> simp
@[simp] theorem examineHigh_memory (p : Port) (s : State) : (examineHigh p s).memory = s.memory := by
  simp only [examineHigh]; split <;> simp
@[simp] theorem examineHigh_link (p : Port) (s : State) : (examineHigh p s).link = s.link := by
  simp only [examineHigh]; split <;> simp
@[simp] theorem examineHigh_freeCount (p : Port) (s : State) : (examineHigh p s).freeCount = s.freeCount := by
  simp only [examineHigh]; split <;> simp
@[simp] theorem examineHigh_reply (p : Port) (s : State) : (examineHigh p s).reply = s.reply := by
  simp only [examineHigh]; split <;> simp
@[simp] theorem examineHigh_pending (p : Port) (s : State) : (examineHigh p s).pending = s.pending := by
  simp only [examineHigh]; split <;> simp
@[simp] theorem examineHigh_running (p : Port) (s : State) : running (examineHigh p s) = running s := by
  simp [running]
@[simp] theorem examineHigh_laneAt (p : Port) (s : State) (i : Lane) : (examineHigh p s).lane i = s.lane i := by
  simp [State.lane]
@[simp] theorem examineHigh_doorAt (p : Port) (s : State) (i : Lane) : (examineHigh p s).door i = s.door i := by
  simp [State.door]
@[simp] theorem examineHigh_recordAt (p : Port) (s : State) (i : Slot) : (examineHigh p s).record i = s.record i := by
  simp [State.record]
@[simp] theorem examineHigh_clockMirror (p : Port) (s : State) :
    (examineHigh p s).control.clockMirror = s.control.clockMirror := by
  simp only [examineHigh]; split <;> simp
@[simp] theorem examineHigh_channels (p : Port) (s : State) :
    (examineHigh p s).control.channels = s.control.channels := by
  simp only [examineHigh]; split <;> simp
@[simp] theorem examineHigh_lastServed (p : Port) (s : State) :
    (examineHigh p s).control.lastServed = s.control.lastServed := by
  simp only [examineHigh]; split <;> simp
@[simp] theorem examineHigh_arbiter (p : Port) (s : State) :
    (examineHigh p s).control.arbiter = s.control.arbiter := by
  simp only [examineHigh]; split <;> simp
@[simp] theorem examineHigh_presentMirror (p : Port) (s : State) :
    (examineHigh p s).control.presentMirror = s.control.presentMirror := by
  simp only [examineHigh]; split <;> simp

@[simp] theorem examineBoth_time (s : State) : (examineBoth s).time = s.time := by
  simp [examineBoth]
@[simp] theorem examineBoth_pins (s : State) : (examineBoth s).pins = s.pins := by
  simp [examineBoth]
@[simp] theorem examineBoth_roster (s : State) : (examineBoth s).roster = s.roster := by
  simp [examineBoth]
@[simp] theorem examineBoth_lanes (s : State) : (examineBoth s).lanes = s.lanes := by
  simp [examineBoth]
@[simp] theorem examineBoth_gate (s : State) : (examineBoth s).gate = s.gate := by
  simp [examineBoth]
@[simp] theorem examineBoth_pay (s : State) : (examineBoth s).pay = s.pay := by
  simp [examineBoth]
@[simp] theorem examineBoth_attendance (s : State) : (examineBoth s).attendance = s.attendance := by
  simp [examineBoth]
@[simp] theorem examineBoth_bells (s : State) : (examineBoth s).bells = s.bells := by
  simp [examineBoth]
@[simp] theorem examineBoth_memory (s : State) : (examineBoth s).memory = s.memory := by
  simp [examineBoth]
@[simp] theorem examineBoth_link (s : State) : (examineBoth s).link = s.link := by
  simp [examineBoth]
@[simp] theorem examineBoth_freeCount (s : State) : (examineBoth s).freeCount = s.freeCount := by
  simp [examineBoth]
@[simp] theorem examineBoth_reply (s : State) : (examineBoth s).reply = s.reply := by
  simp [examineBoth]
@[simp] theorem examineBoth_pending (s : State) : (examineBoth s).pending = s.pending := by
  simp [examineBoth]
@[simp] theorem examineBoth_running (s : State) : running (examineBoth s) = running s := by
  simp [running]
@[simp] theorem examineBoth_laneAt (s : State) (i : Lane) : (examineBoth s).lane i = s.lane i := by
  simp [State.lane]
@[simp] theorem examineBoth_doorAt (s : State) (i : Lane) : (examineBoth s).door i = s.door i := by
  simp [State.door]
@[simp] theorem examineBoth_recordAt (s : State) (i : Slot) : (examineBoth s).record i = s.record i := by
  simp [State.record]
@[simp] theorem examineBoth_clockMirror (s : State) :
    (examineBoth s).control.clockMirror = s.control.clockMirror := by
  simp [examineBoth]
@[simp] theorem examineBoth_channels (s : State) :
    (examineBoth s).control.channels = s.control.channels := by
  simp [examineBoth]
@[simp] theorem examineBoth_lastServed (s : State) :
    (examineBoth s).control.lastServed = s.control.lastServed := by
  simp [examineBoth]
@[simp] theorem examineBoth_arbiter (s : State) :
    (examineBoth s).control.arbiter = s.control.arbiter := by
  simp [examineBoth]
@[simp] theorem examineBoth_presentMirror (s : State) :
    (examineBoth s).control.presentMirror = s.control.presentMirror := by
  simp [examineBoth]

@[simp] theorem appendEntry_time (b : EntryBody) (s : State) : (appendEntry b s).time = s.time := by
  simp only [appendEntry]; split <;> simp
@[simp] theorem appendEntry_pins (b : EntryBody) (s : State) : (appendEntry b s).pins = s.pins := by
  simp only [appendEntry]; split <;> simp
@[simp] theorem appendEntry_roster (b : EntryBody) (s : State) : (appendEntry b s).roster = s.roster := by
  simp only [appendEntry]; split <;> simp
@[simp] theorem appendEntry_lanes (b : EntryBody) (s : State) : (appendEntry b s).lanes = s.lanes := by
  simp only [appendEntry]; split <;> simp
@[simp] theorem appendEntry_gate (b : EntryBody) (s : State) : (appendEntry b s).gate = s.gate := by
  simp only [appendEntry]; split <;> simp
@[simp] theorem appendEntry_pay (b : EntryBody) (s : State) : (appendEntry b s).pay = s.pay := by
  simp only [appendEntry]; split <;> simp
@[simp] theorem appendEntry_attendance (b : EntryBody) (s : State) : (appendEntry b s).attendance = s.attendance := by
  simp only [appendEntry]; split <;> simp
@[simp] theorem appendEntry_bells (b : EntryBody) (s : State) : (appendEntry b s).bells = s.bells := by
  simp only [appendEntry]; split <;> simp
@[simp] theorem appendEntry_memory (b : EntryBody) (s : State) : (appendEntry b s).memory = s.memory := by
  simp only [appendEntry]; split <;> simp
@[simp] theorem appendEntry_link (b : EntryBody) (s : State) : (appendEntry b s).link = s.link := by
  simp only [appendEntry]; split <;> simp
@[simp] theorem appendEntry_freeCount (b : EntryBody) (s : State) : (appendEntry b s).freeCount = s.freeCount := by
  simp only [appendEntry]; split <;> simp
@[simp] theorem appendEntry_reply (b : EntryBody) (s : State) : (appendEntry b s).reply = s.reply := by
  simp only [appendEntry]; split <;> simp
@[simp] theorem appendEntry_pending (b : EntryBody) (s : State) : (appendEntry b s).pending = s.pending := by
  simp only [appendEntry]; split <;> simp
@[simp] theorem appendEntry_running (b : EntryBody) (s : State) : running (appendEntry b s) = running s := by
  simp [running]
@[simp] theorem appendEntry_laneAt (b : EntryBody) (s : State) (i : Lane) : (appendEntry b s).lane i = s.lane i := by
  simp [State.lane]
@[simp] theorem appendEntry_doorAt (b : EntryBody) (s : State) (i : Lane) : (appendEntry b s).door i = s.door i := by
  simp [State.door]
@[simp] theorem appendEntry_recordAt (b : EntryBody) (s : State) (i : Slot) : (appendEntry b s).record i = s.record i := by
  simp [State.record]
@[simp] theorem appendEntry_clockMirror (b : EntryBody) (s : State) :
    (appendEntry b s).control.clockMirror = s.control.clockMirror := by
  simp only [appendEntry]; split <;> simp
@[simp] theorem appendEntry_channels (b : EntryBody) (s : State) :
    (appendEntry b s).control.channels = s.control.channels := by
  simp only [appendEntry]; split <;> simp
@[simp] theorem appendEntry_lastServed (b : EntryBody) (s : State) :
    (appendEntry b s).control.lastServed = s.control.lastServed := by
  simp only [appendEntry]; split <;> simp
@[simp] theorem appendEntry_arbiter (b : EntryBody) (s : State) :
    (appendEntry b s).control.arbiter = s.control.arbiter := by
  simp only [appendEntry]; split <;> simp
@[simp] theorem appendEntry_presentMirror (b : EntryBody) (s : State) :
    (appendEntry b s).control.presentMirror = s.control.presentMirror := by
  simp only [appendEntry]; split <;> simp

@[simp] theorem modifyRecord_time (a : Slot) (f : Record → Record) (s : State) : (s.modifyRecord a f).time = s.time := by
  rfl
@[simp] theorem modifyRecord_pins (a : Slot) (f : Record → Record) (s : State) : (s.modifyRecord a f).pins = s.pins := by
  rfl
@[simp] theorem modifyRecord_lanes (a : Slot) (f : Record → Record) (s : State) : (s.modifyRecord a f).lanes = s.lanes := by
  rfl
@[simp] theorem modifyRecord_gate (a : Slot) (f : Record → Record) (s : State) : (s.modifyRecord a f).gate = s.gate := by
  rfl
@[simp] theorem modifyRecord_pay (a : Slot) (f : Record → Record) (s : State) : (s.modifyRecord a f).pay = s.pay := by
  rfl
@[simp] theorem modifyRecord_attendance (a : Slot) (f : Record → Record) (s : State) : (s.modifyRecord a f).attendance = s.attendance := by
  rfl
@[simp] theorem modifyRecord_bells (a : Slot) (f : Record → Record) (s : State) : (s.modifyRecord a f).bells = s.bells := by
  rfl
@[simp] theorem modifyRecord_journal (a : Slot) (f : Record → Record) (s : State) : (s.modifyRecord a f).journal = s.journal := by
  rfl
@[simp] theorem modifyRecord_memory (a : Slot) (f : Record → Record) (s : State) : (s.modifyRecord a f).memory = s.memory := by
  rfl
@[simp] theorem modifyRecord_control (a : Slot) (f : Record → Record) (s : State) : (s.modifyRecord a f).control = s.control := by
  rfl
@[simp] theorem modifyRecord_link (a : Slot) (f : Record → Record) (s : State) : (s.modifyRecord a f).link = s.link := by
  rfl
@[simp] theorem modifyRecord_freeCount (a : Slot) (f : Record → Record) (s : State) : (s.modifyRecord a f).freeCount = s.freeCount := by
  rfl
@[simp] theorem modifyRecord_reply (a : Slot) (f : Record → Record) (s : State) : (s.modifyRecord a f).reply = s.reply := by
  rfl
@[simp] theorem modifyRecord_pending (a : Slot) (f : Record → Record) (s : State) : (s.modifyRecord a f).pending = s.pending := by
  rfl
@[simp] theorem modifyRecord_running (a : Slot) (f : Record → Record) (s : State) : running (s.modifyRecord a f) = running s := by
  simp [running]
@[simp] theorem modifyRecord_laneAt (a : Slot) (f : Record → Record) (s : State) (i : Lane) : (s.modifyRecord a f).lane i = s.lane i := by
  simp [State.lane]
@[simp] theorem modifyRecord_doorAt (a : Slot) (f : Record → Record) (s : State) (i : Lane) : (s.modifyRecord a f).door i = s.door i := by
  simp [State.door]
@[simp] theorem modifyRecord_index (a : Slot) (f : Record → Record) (s : State) :
    (s.modifyRecord a f).roster.index = s.roster.index := by
  rfl
@[simp] theorem modifyRecord_census (a : Slot) (f : Record → Record) (s : State) :
    (s.modifyRecord a f).roster.census = s.roster.census := by
  rfl
@[simp] theorem modifyRecord_occupied (a : Slot) (f : Record → Record) (s : State) :
    (s.modifyRecord a f).roster.occupied = s.roster.occupied := by
  rfl

@[simp] theorem modifyAllRecords_time (f : Record → Record) (s : State) : (s.modifyAllRecords f).time = s.time := by
  rfl
@[simp] theorem modifyAllRecords_pins (f : Record → Record) (s : State) : (s.modifyAllRecords f).pins = s.pins := by
  rfl
@[simp] theorem modifyAllRecords_lanes (f : Record → Record) (s : State) : (s.modifyAllRecords f).lanes = s.lanes := by
  rfl
@[simp] theorem modifyAllRecords_gate (f : Record → Record) (s : State) : (s.modifyAllRecords f).gate = s.gate := by
  rfl
@[simp] theorem modifyAllRecords_pay (f : Record → Record) (s : State) : (s.modifyAllRecords f).pay = s.pay := by
  rfl
@[simp] theorem modifyAllRecords_attendance (f : Record → Record) (s : State) : (s.modifyAllRecords f).attendance = s.attendance := by
  rfl
@[simp] theorem modifyAllRecords_bells (f : Record → Record) (s : State) : (s.modifyAllRecords f).bells = s.bells := by
  rfl
@[simp] theorem modifyAllRecords_journal (f : Record → Record) (s : State) : (s.modifyAllRecords f).journal = s.journal := by
  rfl
@[simp] theorem modifyAllRecords_memory (f : Record → Record) (s : State) : (s.modifyAllRecords f).memory = s.memory := by
  rfl
@[simp] theorem modifyAllRecords_control (f : Record → Record) (s : State) : (s.modifyAllRecords f).control = s.control := by
  rfl
@[simp] theorem modifyAllRecords_link (f : Record → Record) (s : State) : (s.modifyAllRecords f).link = s.link := by
  rfl
@[simp] theorem modifyAllRecords_freeCount (f : Record → Record) (s : State) : (s.modifyAllRecords f).freeCount = s.freeCount := by
  rfl
@[simp] theorem modifyAllRecords_reply (f : Record → Record) (s : State) : (s.modifyAllRecords f).reply = s.reply := by
  rfl
@[simp] theorem modifyAllRecords_pending (f : Record → Record) (s : State) : (s.modifyAllRecords f).pending = s.pending := by
  rfl
@[simp] theorem modifyAllRecords_running (f : Record → Record) (s : State) : running (s.modifyAllRecords f) = running s := by
  simp [running]
@[simp] theorem modifyAllRecords_laneAt (f : Record → Record) (s : State) (i : Lane) : (s.modifyAllRecords f).lane i = s.lane i := by
  simp [State.lane]
@[simp] theorem modifyAllRecords_doorAt (f : Record → Record) (s : State) (i : Lane) : (s.modifyAllRecords f).door i = s.door i := by
  simp [State.door]
@[simp] theorem modifyAllRecords_index (f : Record → Record) (s : State) :
    (s.modifyAllRecords f).roster.index = s.roster.index := by
  rfl
@[simp] theorem modifyAllRecords_census (f : Record → Record) (s : State) :
    (s.modifyAllRecords f).roster.census = s.roster.census := by
  rfl
@[simp] theorem modifyAllRecords_occupied (f : Record → Record) (s : State) :
    (s.modifyAllRecords f).roster.occupied = s.roster.occupied := by
  rfl

@[simp] theorem addException_time (a : Slot) (s : State) : (addException a s).time = s.time := by
  simp [addException]
@[simp] theorem addException_pins (a : Slot) (s : State) : (addException a s).pins = s.pins := by
  simp [addException]
@[simp] theorem addException_lanes (a : Slot) (s : State) : (addException a s).lanes = s.lanes := by
  simp [addException]
@[simp] theorem addException_gate (a : Slot) (s : State) : (addException a s).gate = s.gate := by
  simp [addException]
@[simp] theorem addException_pay (a : Slot) (s : State) : (addException a s).pay = s.pay := by
  simp [addException]
@[simp] theorem addException_attendance (a : Slot) (s : State) : (addException a s).attendance = s.attendance := by
  simp [addException]
@[simp] theorem addException_bells (a : Slot) (s : State) : (addException a s).bells = s.bells := by
  simp [addException]
@[simp] theorem addException_journal (a : Slot) (s : State) : (addException a s).journal = s.journal := by
  simp [addException]
@[simp] theorem addException_memory (a : Slot) (s : State) : (addException a s).memory = s.memory := by
  simp [addException]
@[simp] theorem addException_control (a : Slot) (s : State) : (addException a s).control = s.control := by
  simp [addException]
@[simp] theorem addException_link (a : Slot) (s : State) : (addException a s).link = s.link := by
  simp [addException]
@[simp] theorem addException_freeCount (a : Slot) (s : State) : (addException a s).freeCount = s.freeCount := by
  simp [addException]
@[simp] theorem addException_reply (a : Slot) (s : State) : (addException a s).reply = s.reply := by
  simp [addException]
@[simp] theorem addException_pending (a : Slot) (s : State) : (addException a s).pending = s.pending := by
  simp [addException]
@[simp] theorem addException_running (a : Slot) (s : State) : running (addException a s) = running s := by
  simp [running]
@[simp] theorem addException_laneAt (a : Slot) (s : State) (i : Lane) : (addException a s).lane i = s.lane i := by
  simp [State.lane]
@[simp] theorem addException_doorAt (a : Slot) (s : State) (i : Lane) : (addException a s).door i = s.door i := by
  simp [State.door]
@[simp] theorem addException_index (a : Slot) (s : State) :
    (addException a s).roster.index = s.roster.index := by
  simp [addException]
@[simp] theorem addException_census (a : Slot) (s : State) :
    (addException a s).roster.census = s.roster.census := by
  simp [addException]
@[simp] theorem addException_occupied (a : Slot) (s : State) :
    (addException a s).roster.occupied = s.roster.occupied := by
  simp [addException]

@[simp] theorem rolloverSlot_time (a : Slot) (s : State) : (rolloverSlot a s).time = s.time := by
  simp [rolloverSlot]
@[simp] theorem rolloverSlot_pins (a : Slot) (s : State) : (rolloverSlot a s).pins = s.pins := by
  simp [rolloverSlot]
@[simp] theorem rolloverSlot_lanes (a : Slot) (s : State) : (rolloverSlot a s).lanes = s.lanes := by
  simp [rolloverSlot]
@[simp] theorem rolloverSlot_gate (a : Slot) (s : State) : (rolloverSlot a s).gate = s.gate := by
  simp [rolloverSlot]
@[simp] theorem rolloverSlot_pay (a : Slot) (s : State) : (rolloverSlot a s).pay = s.pay := by
  simp [rolloverSlot]
@[simp] theorem rolloverSlot_attendance (a : Slot) (s : State) : (rolloverSlot a s).attendance = s.attendance := by
  simp [rolloverSlot]
@[simp] theorem rolloverSlot_bells (a : Slot) (s : State) : (rolloverSlot a s).bells = s.bells := by
  simp [rolloverSlot]
@[simp] theorem rolloverSlot_journal (a : Slot) (s : State) : (rolloverSlot a s).journal = s.journal := by
  simp [rolloverSlot]
@[simp] theorem rolloverSlot_memory (a : Slot) (s : State) : (rolloverSlot a s).memory = s.memory := by
  simp [rolloverSlot]
@[simp] theorem rolloverSlot_control (a : Slot) (s : State) : (rolloverSlot a s).control = s.control := by
  simp [rolloverSlot]
@[simp] theorem rolloverSlot_link (a : Slot) (s : State) : (rolloverSlot a s).link = s.link := by
  simp [rolloverSlot]
@[simp] theorem rolloverSlot_freeCount (a : Slot) (s : State) : (rolloverSlot a s).freeCount = s.freeCount := by
  simp [rolloverSlot]
@[simp] theorem rolloverSlot_reply (a : Slot) (s : State) : (rolloverSlot a s).reply = s.reply := by
  simp [rolloverSlot]
@[simp] theorem rolloverSlot_pending (a : Slot) (s : State) : (rolloverSlot a s).pending = s.pending := by
  simp [rolloverSlot]
@[simp] theorem rolloverSlot_running (a : Slot) (s : State) : running (rolloverSlot a s) = running s := by
  simp [running]
@[simp] theorem rolloverSlot_laneAt (a : Slot) (s : State) (i : Lane) : (rolloverSlot a s).lane i = s.lane i := by
  simp [State.lane]
@[simp] theorem rolloverSlot_doorAt (a : Slot) (s : State) (i : Lane) : (rolloverSlot a s).door i = s.door i := by
  simp [State.door]
@[simp] theorem rolloverSlot_index (a : Slot) (s : State) :
    (rolloverSlot a s).roster.index = s.roster.index := by
  simp [rolloverSlot]
@[simp] theorem rolloverSlot_census (a : Slot) (s : State) :
    (rolloverSlot a s).roster.census = s.roster.census := by
  simp [rolloverSlot]
@[simp] theorem rolloverSlot_occupied (a : Slot) (s : State) :
    (rolloverSlot a s).roster.occupied = s.roster.occupied := by
  simp [rolloverSlot]

@[simp] theorem putAttendance_time (l : List Attendance) (s : State) : (putAttendance l s).time = s.time := by
  rfl
@[simp] theorem putAttendance_pins (l : List Attendance) (s : State) : (putAttendance l s).pins = s.pins := by
  rfl
@[simp] theorem putAttendance_roster (l : List Attendance) (s : State) : (putAttendance l s).roster = s.roster := by
  rfl
@[simp] theorem putAttendance_lanes (l : List Attendance) (s : State) : (putAttendance l s).lanes = s.lanes := by
  rfl
@[simp] theorem putAttendance_gate (l : List Attendance) (s : State) : (putAttendance l s).gate = s.gate := by
  rfl
@[simp] theorem putAttendance_pay (l : List Attendance) (s : State) : (putAttendance l s).pay = s.pay := by
  rfl
@[simp] theorem putAttendance_bells (l : List Attendance) (s : State) : (putAttendance l s).bells = s.bells := by
  rfl
@[simp] theorem putAttendance_journal (l : List Attendance) (s : State) : (putAttendance l s).journal = s.journal := by
  rfl
@[simp] theorem putAttendance_memory (l : List Attendance) (s : State) : (putAttendance l s).memory = s.memory := by
  rfl
@[simp] theorem putAttendance_link (l : List Attendance) (s : State) : (putAttendance l s).link = s.link := by
  rfl
@[simp] theorem putAttendance_freeCount (l : List Attendance) (s : State) : (putAttendance l s).freeCount = s.freeCount := by
  rfl
@[simp] theorem putAttendance_reply (l : List Attendance) (s : State) : (putAttendance l s).reply = s.reply := by
  rfl
@[simp] theorem putAttendance_pending (l : List Attendance) (s : State) : (putAttendance l s).pending = s.pending := by
  rfl
@[simp] theorem putAttendance_running (l : List Attendance) (s : State) : running (putAttendance l s) = running s := by
  simp [running]
@[simp] theorem putAttendance_laneAt (l : List Attendance) (s : State) (i : Lane) : (putAttendance l s).lane i = s.lane i := by
  simp [State.lane]
@[simp] theorem putAttendance_doorAt (l : List Attendance) (s : State) (i : Lane) : (putAttendance l s).door i = s.door i := by
  simp [State.door]
@[simp] theorem putAttendance_recordAt (l : List Attendance) (s : State) (i : Slot) : (putAttendance l s).record i = s.record i := by
  simp [State.record]
@[simp] theorem putAttendance_clockMirror (l : List Attendance) (s : State) :
    (putAttendance l s).control.clockMirror = s.control.clockMirror := by
  rfl
@[simp] theorem putAttendance_channels (l : List Attendance) (s : State) :
    (putAttendance l s).control.channels = s.control.channels := by
  rfl
@[simp] theorem putAttendance_lastServed (l : List Attendance) (s : State) :
    (putAttendance l s).control.lastServed = s.control.lastServed := by
  rfl
@[simp] theorem putAttendance_arbiter (l : List Attendance) (s : State) :
    (putAttendance l s).control.arbiter = s.control.arbiter := by
  rfl

@[simp] theorem openAttendance_time (a : Slot) (d : Option ShiftDay) (t : Time) (s : State) : (openAttendance a d t s).time = s.time := by
  simp [openAttendance]
@[simp] theorem openAttendance_pins (a : Slot) (d : Option ShiftDay) (t : Time) (s : State) : (openAttendance a d t s).pins = s.pins := by
  simp [openAttendance]
@[simp] theorem openAttendance_lanes (a : Slot) (d : Option ShiftDay) (t : Time) (s : State) : (openAttendance a d t s).lanes = s.lanes := by
  simp [openAttendance]
@[simp] theorem openAttendance_gate (a : Slot) (d : Option ShiftDay) (t : Time) (s : State) : (openAttendance a d t s).gate = s.gate := by
  simp [openAttendance]
@[simp] theorem openAttendance_pay (a : Slot) (d : Option ShiftDay) (t : Time) (s : State) : (openAttendance a d t s).pay = s.pay := by
  simp [openAttendance]
@[simp] theorem openAttendance_bells (a : Slot) (d : Option ShiftDay) (t : Time) (s : State) : (openAttendance a d t s).bells = s.bells := by
  simp [openAttendance]
@[simp] theorem openAttendance_journal (a : Slot) (d : Option ShiftDay) (t : Time) (s : State) : (openAttendance a d t s).journal = s.journal := by
  simp [openAttendance]
@[simp] theorem openAttendance_memory (a : Slot) (d : Option ShiftDay) (t : Time) (s : State) : (openAttendance a d t s).memory = s.memory := by
  simp [openAttendance]
@[simp] theorem openAttendance_link (a : Slot) (d : Option ShiftDay) (t : Time) (s : State) : (openAttendance a d t s).link = s.link := by
  simp [openAttendance]
@[simp] theorem openAttendance_freeCount (a : Slot) (d : Option ShiftDay) (t : Time) (s : State) : (openAttendance a d t s).freeCount = s.freeCount := by
  simp [openAttendance]
@[simp] theorem openAttendance_reply (a : Slot) (d : Option ShiftDay) (t : Time) (s : State) : (openAttendance a d t s).reply = s.reply := by
  simp [openAttendance]
@[simp] theorem openAttendance_pending (a : Slot) (d : Option ShiftDay) (t : Time) (s : State) : (openAttendance a d t s).pending = s.pending := by
  simp [openAttendance]
@[simp] theorem openAttendance_running (a : Slot) (d : Option ShiftDay) (t : Time) (s : State) : running (openAttendance a d t s) = running s := by
  simp [running]
@[simp] theorem openAttendance_laneAt (a : Slot) (d : Option ShiftDay) (t : Time) (s : State) (i : Lane) : (openAttendance a d t s).lane i = s.lane i := by
  simp [State.lane]
@[simp] theorem openAttendance_doorAt (a : Slot) (d : Option ShiftDay) (t : Time) (s : State) (i : Lane) : (openAttendance a d t s).door i = s.door i := by
  simp [State.door]
@[simp] theorem openAttendance_clockMirror (a : Slot) (d : Option ShiftDay) (t : Time) (s : State) :
    (openAttendance a d t s).control.clockMirror = s.control.clockMirror := by
  simp [openAttendance]
@[simp] theorem openAttendance_channels (a : Slot) (d : Option ShiftDay) (t : Time) (s : State) :
    (openAttendance a d t s).control.channels = s.control.channels := by
  simp [openAttendance]
@[simp] theorem openAttendance_lastServed (a : Slot) (d : Option ShiftDay) (t : Time) (s : State) :
    (openAttendance a d t s).control.lastServed = s.control.lastServed := by
  simp [openAttendance]
@[simp] theorem openAttendance_arbiter (a : Slot) (d : Option ShiftDay) (t : Time) (s : State) :
    (openAttendance a d t s).control.arbiter = s.control.arbiter := by
  simp [openAttendance]
@[simp] theorem openAttendance_index (a : Slot) (d : Option ShiftDay) (t : Time) (s : State) :
    (openAttendance a d t s).roster.index = s.roster.index := by
  simp [openAttendance]
@[simp] theorem openAttendance_census (a : Slot) (d : Option ShiftDay) (t : Time) (s : State) :
    (openAttendance a d t s).roster.census = s.roster.census := by
  simp [openAttendance]
@[simp] theorem openAttendance_occupied (a : Slot) (d : Option ShiftDay) (t : Time) (s : State) :
    (openAttendance a d t s).roster.occupied = s.roster.occupied := by
  simp [openAttendance]

@[simp] theorem endAttendance_time (a : Slot) (s : State) : (endAttendance a s).time = s.time := by
  simp [endAttendance]
@[simp] theorem endAttendance_pins (a : Slot) (s : State) : (endAttendance a s).pins = s.pins := by
  simp [endAttendance]
@[simp] theorem endAttendance_lanes (a : Slot) (s : State) : (endAttendance a s).lanes = s.lanes := by
  simp [endAttendance]
@[simp] theorem endAttendance_gate (a : Slot) (s : State) : (endAttendance a s).gate = s.gate := by
  simp [endAttendance]
@[simp] theorem endAttendance_pay (a : Slot) (s : State) : (endAttendance a s).pay = s.pay := by
  simp [endAttendance]
@[simp] theorem endAttendance_bells (a : Slot) (s : State) : (endAttendance a s).bells = s.bells := by
  simp [endAttendance]
@[simp] theorem endAttendance_journal (a : Slot) (s : State) : (endAttendance a s).journal = s.journal := by
  simp [endAttendance]
@[simp] theorem endAttendance_memory (a : Slot) (s : State) : (endAttendance a s).memory = s.memory := by
  simp [endAttendance]
@[simp] theorem endAttendance_link (a : Slot) (s : State) : (endAttendance a s).link = s.link := by
  simp [endAttendance]
@[simp] theorem endAttendance_freeCount (a : Slot) (s : State) : (endAttendance a s).freeCount = s.freeCount := by
  simp [endAttendance]
@[simp] theorem endAttendance_reply (a : Slot) (s : State) : (endAttendance a s).reply = s.reply := by
  simp [endAttendance]
@[simp] theorem endAttendance_pending (a : Slot) (s : State) : (endAttendance a s).pending = s.pending := by
  simp [endAttendance]
@[simp] theorem endAttendance_running (a : Slot) (s : State) : running (endAttendance a s) = running s := by
  simp [running]
@[simp] theorem endAttendance_laneAt (a : Slot) (s : State) (i : Lane) : (endAttendance a s).lane i = s.lane i := by
  simp [State.lane]
@[simp] theorem endAttendance_doorAt (a : Slot) (s : State) (i : Lane) : (endAttendance a s).door i = s.door i := by
  simp [State.door]
@[simp] theorem endAttendance_clockMirror (a : Slot) (s : State) :
    (endAttendance a s).control.clockMirror = s.control.clockMirror := by
  simp [endAttendance]
@[simp] theorem endAttendance_channels (a : Slot) (s : State) :
    (endAttendance a s).control.channels = s.control.channels := by
  simp [endAttendance]
@[simp] theorem endAttendance_lastServed (a : Slot) (s : State) :
    (endAttendance a s).control.lastServed = s.control.lastServed := by
  simp [endAttendance]
@[simp] theorem endAttendance_arbiter (a : Slot) (s : State) :
    (endAttendance a s).control.arbiter = s.control.arbiter := by
  simp [endAttendance]
@[simp] theorem endAttendance_index (a : Slot) (s : State) :
    (endAttendance a s).roster.index = s.roster.index := by
  simp [endAttendance]
@[simp] theorem endAttendance_census (a : Slot) (s : State) :
    (endAttendance a s).roster.census = s.roster.census := by
  simp [endAttendance]
@[simp] theorem endAttendance_occupied (a : Slot) (s : State) :
    (endAttendance a s).roster.occupied = s.roster.occupied := by
  simp [endAttendance]

@[simp] theorem closeEntry_time (e : Attendance) (t : Option Nat) (s : State) : (closeEntry e t s).time = s.time := by
  simp [closeEntry]
@[simp] theorem closeEntry_pins (e : Attendance) (t : Option Nat) (s : State) : (closeEntry e t s).pins = s.pins := by
  simp [closeEntry]
@[simp] theorem closeEntry_lanes (e : Attendance) (t : Option Nat) (s : State) : (closeEntry e t s).lanes = s.lanes := by
  simp [closeEntry]
@[simp] theorem closeEntry_gate (e : Attendance) (t : Option Nat) (s : State) : (closeEntry e t s).gate = s.gate := by
  simp [closeEntry]
@[simp] theorem closeEntry_pay (e : Attendance) (t : Option Nat) (s : State) : (closeEntry e t s).pay = s.pay := by
  simp [closeEntry]
@[simp] theorem closeEntry_bells (e : Attendance) (t : Option Nat) (s : State) : (closeEntry e t s).bells = s.bells := by
  simp [closeEntry]
@[simp] theorem closeEntry_journal (e : Attendance) (t : Option Nat) (s : State) : (closeEntry e t s).journal = s.journal := by
  simp [closeEntry]
@[simp] theorem closeEntry_memory (e : Attendance) (t : Option Nat) (s : State) : (closeEntry e t s).memory = s.memory := by
  simp [closeEntry]
@[simp] theorem closeEntry_link (e : Attendance) (t : Option Nat) (s : State) : (closeEntry e t s).link = s.link := by
  simp [closeEntry]
@[simp] theorem closeEntry_freeCount (e : Attendance) (t : Option Nat) (s : State) : (closeEntry e t s).freeCount = s.freeCount := by
  simp [closeEntry]
@[simp] theorem closeEntry_reply (e : Attendance) (t : Option Nat) (s : State) : (closeEntry e t s).reply = s.reply := by
  simp [closeEntry]
@[simp] theorem closeEntry_pending (e : Attendance) (t : Option Nat) (s : State) : (closeEntry e t s).pending = s.pending := by
  simp [closeEntry]
@[simp] theorem closeEntry_running (e : Attendance) (t : Option Nat) (s : State) : running (closeEntry e t s) = running s := by
  simp [running]
@[simp] theorem closeEntry_laneAt (e : Attendance) (t : Option Nat) (s : State) (i : Lane) : (closeEntry e t s).lane i = s.lane i := by
  simp [State.lane]
@[simp] theorem closeEntry_doorAt (e : Attendance) (t : Option Nat) (s : State) (i : Lane) : (closeEntry e t s).door i = s.door i := by
  simp [State.door]
@[simp] theorem closeEntry_clockMirror (e : Attendance) (t : Option Nat) (s : State) :
    (closeEntry e t s).control.clockMirror = s.control.clockMirror := by
  simp [closeEntry]
@[simp] theorem closeEntry_channels (e : Attendance) (t : Option Nat) (s : State) :
    (closeEntry e t s).control.channels = s.control.channels := by
  simp [closeEntry]
@[simp] theorem closeEntry_lastServed (e : Attendance) (t : Option Nat) (s : State) :
    (closeEntry e t s).control.lastServed = s.control.lastServed := by
  simp [closeEntry]
@[simp] theorem closeEntry_arbiter (e : Attendance) (t : Option Nat) (s : State) :
    (closeEntry e t s).control.arbiter = s.control.arbiter := by
  simp [closeEntry]
@[simp] theorem closeEntry_index (e : Attendance) (t : Option Nat) (s : State) :
    (closeEntry e t s).roster.index = s.roster.index := by
  simp [closeEntry]
@[simp] theorem closeEntry_census (e : Attendance) (t : Option Nat) (s : State) :
    (closeEntry e t s).roster.census = s.roster.census := by
  simp [closeEntry]
@[simp] theorem closeEntry_occupied (e : Attendance) (t : Option Nat) (s : State) :
    (closeEntry e t s).roster.occupied = s.roster.occupied := by
  simp [closeEntry]

@[simp] theorem sweepEntry_time (e : Attendance) (s : State) : (sweepEntry e s).time = s.time := by
  simp only [sweepEntry]; split <;> simp
@[simp] theorem sweepEntry_pins (e : Attendance) (s : State) : (sweepEntry e s).pins = s.pins := by
  simp only [sweepEntry]; split <;> simp
@[simp] theorem sweepEntry_lanes (e : Attendance) (s : State) : (sweepEntry e s).lanes = s.lanes := by
  simp only [sweepEntry]; split <;> simp
@[simp] theorem sweepEntry_gate (e : Attendance) (s : State) : (sweepEntry e s).gate = s.gate := by
  simp only [sweepEntry]; split <;> simp
@[simp] theorem sweepEntry_pay (e : Attendance) (s : State) : (sweepEntry e s).pay = s.pay := by
  simp only [sweepEntry]; split <;> simp
@[simp] theorem sweepEntry_bells (e : Attendance) (s : State) : (sweepEntry e s).bells = s.bells := by
  simp only [sweepEntry]; split <;> simp
@[simp] theorem sweepEntry_memory (e : Attendance) (s : State) : (sweepEntry e s).memory = s.memory := by
  simp only [sweepEntry]; split <;> simp
@[simp] theorem sweepEntry_link (e : Attendance) (s : State) : (sweepEntry e s).link = s.link := by
  simp only [sweepEntry]; split <;> simp
@[simp] theorem sweepEntry_freeCount (e : Attendance) (s : State) : (sweepEntry e s).freeCount = s.freeCount := by
  simp only [sweepEntry]; split <;> simp
@[simp] theorem sweepEntry_reply (e : Attendance) (s : State) : (sweepEntry e s).reply = s.reply := by
  simp only [sweepEntry]; split <;> simp
@[simp] theorem sweepEntry_pending (e : Attendance) (s : State) : (sweepEntry e s).pending = s.pending := by
  simp only [sweepEntry]; split <;> simp
@[simp] theorem sweepEntry_running (e : Attendance) (s : State) : running (sweepEntry e s) = running s := by
  simp [running]
@[simp] theorem sweepEntry_laneAt (e : Attendance) (s : State) (i : Lane) : (sweepEntry e s).lane i = s.lane i := by
  simp [State.lane]
@[simp] theorem sweepEntry_doorAt (e : Attendance) (s : State) (i : Lane) : (sweepEntry e s).door i = s.door i := by
  simp [State.door]
@[simp] theorem sweepEntry_clockMirror (e : Attendance) (s : State) :
    (sweepEntry e s).control.clockMirror = s.control.clockMirror := by
  simp only [sweepEntry]; split <;> simp
@[simp] theorem sweepEntry_channels (e : Attendance) (s : State) :
    (sweepEntry e s).control.channels = s.control.channels := by
  simp only [sweepEntry]; split <;> simp
@[simp] theorem sweepEntry_lastServed (e : Attendance) (s : State) :
    (sweepEntry e s).control.lastServed = s.control.lastServed := by
  simp only [sweepEntry]; split <;> simp
@[simp] theorem sweepEntry_arbiter (e : Attendance) (s : State) :
    (sweepEntry e s).control.arbiter = s.control.arbiter := by
  simp only [sweepEntry]; split <;> simp
@[simp] theorem sweepEntry_index (e : Attendance) (s : State) :
    (sweepEntry e s).roster.index = s.roster.index := by
  simp only [sweepEntry]; split <;> simp
@[simp] theorem sweepEntry_census (e : Attendance) (s : State) :
    (sweepEntry e s).roster.census = s.roster.census := by
  simp only [sweepEntry]; split <;> simp
@[simp] theorem sweepEntry_occupied (e : Attendance) (s : State) :
    (sweepEntry e s).roster.occupied = s.roster.occupied := by
  simp only [sweepEntry]; split <;> simp

@[simp] theorem sweepList_time (es : List Attendance) (s : State) : (es.foldl (fun acc e => sweepEntry e acc) s).time = s.time := by
  induction es generalizing s with
  | nil => rfl
  | cons e es ih => simp [List.foldl_cons, ih]
@[simp] theorem sweepList_pins (es : List Attendance) (s : State) : (es.foldl (fun acc e => sweepEntry e acc) s).pins = s.pins := by
  induction es generalizing s with
  | nil => rfl
  | cons e es ih => simp [List.foldl_cons, ih]
@[simp] theorem sweepList_lanes (es : List Attendance) (s : State) : (es.foldl (fun acc e => sweepEntry e acc) s).lanes = s.lanes := by
  induction es generalizing s with
  | nil => rfl
  | cons e es ih => simp [List.foldl_cons, ih]
@[simp] theorem sweepList_gate (es : List Attendance) (s : State) : (es.foldl (fun acc e => sweepEntry e acc) s).gate = s.gate := by
  induction es generalizing s with
  | nil => rfl
  | cons e es ih => simp [List.foldl_cons, ih]
@[simp] theorem sweepList_pay (es : List Attendance) (s : State) : (es.foldl (fun acc e => sweepEntry e acc) s).pay = s.pay := by
  induction es generalizing s with
  | nil => rfl
  | cons e es ih => simp [List.foldl_cons, ih]
@[simp] theorem sweepList_bells (es : List Attendance) (s : State) : (es.foldl (fun acc e => sweepEntry e acc) s).bells = s.bells := by
  induction es generalizing s with
  | nil => rfl
  | cons e es ih => simp [List.foldl_cons, ih]
@[simp] theorem sweepList_memory (es : List Attendance) (s : State) : (es.foldl (fun acc e => sweepEntry e acc) s).memory = s.memory := by
  induction es generalizing s with
  | nil => rfl
  | cons e es ih => simp [List.foldl_cons, ih]
@[simp] theorem sweepList_link (es : List Attendance) (s : State) : (es.foldl (fun acc e => sweepEntry e acc) s).link = s.link := by
  induction es generalizing s with
  | nil => rfl
  | cons e es ih => simp [List.foldl_cons, ih]
@[simp] theorem sweepList_freeCount (es : List Attendance) (s : State) : (es.foldl (fun acc e => sweepEntry e acc) s).freeCount = s.freeCount := by
  induction es generalizing s with
  | nil => rfl
  | cons e es ih => simp [List.foldl_cons, ih]
@[simp] theorem sweepList_reply (es : List Attendance) (s : State) : (es.foldl (fun acc e => sweepEntry e acc) s).reply = s.reply := by
  induction es generalizing s with
  | nil => rfl
  | cons e es ih => simp [List.foldl_cons, ih]
@[simp] theorem sweepList_pending (es : List Attendance) (s : State) : (es.foldl (fun acc e => sweepEntry e acc) s).pending = s.pending := by
  induction es generalizing s with
  | nil => rfl
  | cons e es ih => simp [List.foldl_cons, ih]
@[simp] theorem sweepList_running (es : List Attendance) (s : State) : running (es.foldl (fun acc e => sweepEntry e acc) s) = running s := by
  simp [running]
@[simp] theorem sweepList_laneAt (es : List Attendance) (s : State) (i : Lane) : (es.foldl (fun acc e => sweepEntry e acc) s).lane i = s.lane i := by
  simp [State.lane]
@[simp] theorem sweepList_doorAt (es : List Attendance) (s : State) (i : Lane) : (es.foldl (fun acc e => sweepEntry e acc) s).door i = s.door i := by
  simp [State.door]
@[simp] theorem sweepList_clockMirror (es : List Attendance) (s : State) :
    (es.foldl (fun acc e => sweepEntry e acc) s).control.clockMirror = s.control.clockMirror := by
  induction es generalizing s with
  | nil => rfl
  | cons e es ih => simp [List.foldl_cons, ih]
@[simp] theorem sweepList_channels (es : List Attendance) (s : State) :
    (es.foldl (fun acc e => sweepEntry e acc) s).control.channels = s.control.channels := by
  induction es generalizing s with
  | nil => rfl
  | cons e es ih => simp [List.foldl_cons, ih]
@[simp] theorem sweepList_lastServed (es : List Attendance) (s : State) :
    (es.foldl (fun acc e => sweepEntry e acc) s).control.lastServed = s.control.lastServed := by
  induction es generalizing s with
  | nil => rfl
  | cons e es ih => simp [List.foldl_cons, ih]
@[simp] theorem sweepList_arbiter (es : List Attendance) (s : State) :
    (es.foldl (fun acc e => sweepEntry e acc) s).control.arbiter = s.control.arbiter := by
  induction es generalizing s with
  | nil => rfl
  | cons e es ih => simp [List.foldl_cons, ih]
@[simp] theorem sweepList_index (es : List Attendance) (s : State) :
    (es.foldl (fun acc e => sweepEntry e acc) s).roster.index = s.roster.index := by
  induction es generalizing s with
  | nil => rfl
  | cons e es ih => simp [List.foldl_cons, ih]
@[simp] theorem sweepList_census (es : List Attendance) (s : State) :
    (es.foldl (fun acc e => sweepEntry e acc) s).roster.census = s.roster.census := by
  induction es generalizing s with
  | nil => rfl
  | cons e es ih => simp [List.foldl_cons, ih]
@[simp] theorem sweepList_occupied (es : List Attendance) (s : State) :
    (es.foldl (fun acc e => sweepEntry e acc) s).roster.occupied = s.roster.occupied := by
  induction es generalizing s with
  | nil => rfl
  | cons e es ih => simp [List.foldl_cons, ih]

@[simp] theorem sweep_time (t : Nat) (s : State) : (sweep t s).time = s.time := by
  simp [sweep]
@[simp] theorem sweep_pins (t : Nat) (s : State) : (sweep t s).pins = s.pins := by
  simp [sweep]
@[simp] theorem sweep_lanes (t : Nat) (s : State) : (sweep t s).lanes = s.lanes := by
  simp [sweep]
@[simp] theorem sweep_gate (t : Nat) (s : State) : (sweep t s).gate = s.gate := by
  simp [sweep]
@[simp] theorem sweep_pay (t : Nat) (s : State) : (sweep t s).pay = s.pay := by
  simp [sweep]
@[simp] theorem sweep_bells (t : Nat) (s : State) : (sweep t s).bells = s.bells := by
  simp [sweep]
@[simp] theorem sweep_memory (t : Nat) (s : State) : (sweep t s).memory = s.memory := by
  simp [sweep]
@[simp] theorem sweep_link (t : Nat) (s : State) : (sweep t s).link = s.link := by
  simp [sweep]
@[simp] theorem sweep_freeCount (t : Nat) (s : State) : (sweep t s).freeCount = s.freeCount := by
  simp [sweep]
@[simp] theorem sweep_reply (t : Nat) (s : State) : (sweep t s).reply = s.reply := by
  simp [sweep]
@[simp] theorem sweep_pending (t : Nat) (s : State) : (sweep t s).pending = s.pending := by
  simp [sweep]
@[simp] theorem sweep_running (t : Nat) (s : State) : running (sweep t s) = running s := by
  simp [running]
@[simp] theorem sweep_laneAt (t : Nat) (s : State) (i : Lane) : (sweep t s).lane i = s.lane i := by
  simp [State.lane]
@[simp] theorem sweep_doorAt (t : Nat) (s : State) (i : Lane) : (sweep t s).door i = s.door i := by
  simp [State.door]
@[simp] theorem sweep_clockMirror (t : Nat) (s : State) :
    (sweep t s).control.clockMirror = s.control.clockMirror := by
  simp [sweep]
@[simp] theorem sweep_channels (t : Nat) (s : State) :
    (sweep t s).control.channels = s.control.channels := by
  simp [sweep]
@[simp] theorem sweep_lastServed (t : Nat) (s : State) :
    (sweep t s).control.lastServed = s.control.lastServed := by
  simp [sweep]
@[simp] theorem sweep_arbiter (t : Nat) (s : State) :
    (sweep t s).control.arbiter = s.control.arbiter := by
  simp [sweep]
@[simp] theorem sweep_index (t : Nat) (s : State) :
    (sweep t s).roster.index = s.roster.index := by
  simp [sweep]
@[simp] theorem sweep_census (t : Nat) (s : State) :
    (sweep t s).roster.census = s.roster.census := by
  simp [sweep]
@[simp] theorem sweep_occupied (t : Nat) (s : State) :
    (sweep t s).roster.occupied = s.roster.occupied := by
  simp [sweep]

@[simp] theorem alarmRequest_time (c : LaneConfig) (src : ZoneSource) (s : State) : (alarmRequest c src s).time = s.time := by
  simp [alarmRequest]
@[simp] theorem alarmRequest_pins (c : LaneConfig) (src : ZoneSource) (s : State) : (alarmRequest c src s).pins = s.pins := by
  simp [alarmRequest]
@[simp] theorem alarmRequest_roster (c : LaneConfig) (src : ZoneSource) (s : State) : (alarmRequest c src s).roster = s.roster := by
  simp [alarmRequest]
@[simp] theorem alarmRequest_lanes (c : LaneConfig) (src : ZoneSource) (s : State) : (alarmRequest c src s).lanes = s.lanes := by
  simp [alarmRequest]
@[simp] theorem alarmRequest_gate (c : LaneConfig) (src : ZoneSource) (s : State) : (alarmRequest c src s).gate = s.gate := by
  simp [alarmRequest]
@[simp] theorem alarmRequest_pay (c : LaneConfig) (src : ZoneSource) (s : State) : (alarmRequest c src s).pay = s.pay := by
  simp [alarmRequest]
@[simp] theorem alarmRequest_attendance (c : LaneConfig) (src : ZoneSource) (s : State) : (alarmRequest c src s).attendance = s.attendance := by
  simp [alarmRequest]
@[simp] theorem alarmRequest_journal (c : LaneConfig) (src : ZoneSource) (s : State) : (alarmRequest c src s).journal = s.journal := by
  simp [alarmRequest]
@[simp] theorem alarmRequest_memory (c : LaneConfig) (src : ZoneSource) (s : State) : (alarmRequest c src s).memory = s.memory := by
  simp [alarmRequest]
@[simp] theorem alarmRequest_control (c : LaneConfig) (src : ZoneSource) (s : State) : (alarmRequest c src s).control = s.control := by
  simp [alarmRequest]
@[simp] theorem alarmRequest_link (c : LaneConfig) (src : ZoneSource) (s : State) : (alarmRequest c src s).link = s.link := by
  simp [alarmRequest]
@[simp] theorem alarmRequest_freeCount (c : LaneConfig) (src : ZoneSource) (s : State) : (alarmRequest c src s).freeCount = s.freeCount := by
  simp [alarmRequest]
@[simp] theorem alarmRequest_reply (c : LaneConfig) (src : ZoneSource) (s : State) : (alarmRequest c src s).reply = s.reply := by
  simp [alarmRequest]
@[simp] theorem alarmRequest_pending (c : LaneConfig) (src : ZoneSource) (s : State) : (alarmRequest c src s).pending = s.pending := by
  simp [alarmRequest]
@[simp] theorem alarmRequest_running (c : LaneConfig) (src : ZoneSource) (s : State) : running (alarmRequest c src s) = running s := by
  simp [running]
@[simp] theorem alarmRequest_laneAt (c : LaneConfig) (src : ZoneSource) (s : State) (i : Lane) : (alarmRequest c src s).lane i = s.lane i := by
  simp [State.lane]
@[simp] theorem alarmRequest_doorAt (c : LaneConfig) (src : ZoneSource) (s : State) (i : Lane) : (alarmRequest c src s).door i = s.door i := by
  simp [State.door]
@[simp] theorem alarmRequest_recordAt (c : LaneConfig) (src : ZoneSource) (s : State) (i : Slot) : (alarmRequest c src s).record i = s.record i := by
  simp [State.record]
@[simp] theorem alarmRequest_schedule (c : LaneConfig) (src : ZoneSource) (s : State) :
    (alarmRequest c src s).bells.schedule = s.bells.schedule := by
  simp [alarmRequest]
@[simp] theorem alarmRequest_patterns (c : LaneConfig) (src : ZoneSource) (s : State) :
    (alarmRequest c src s).bells.patterns = s.bells.patterns := by
  simp [alarmRequest]
@[simp] theorem alarmRequest_emergencyMask (c : LaneConfig) (src : ZoneSource) (s : State) :
    (alarmRequest c src s).bells.emergencyMask = s.bells.emergencyMask := by
  simp [alarmRequest]
@[simp] theorem alarmRequest_locked (c : LaneConfig) (src : ZoneSource) (s : State) :
    (alarmRequest c src s).bells.locked = s.bells.locked := by
  simp [alarmRequest]

@[simp] theorem endHeldAlarm_time (l : Lane) (s : State) : (endHeldAlarm l s).time = s.time := by
  simp [endHeldAlarm]
@[simp] theorem endHeldAlarm_pins (l : Lane) (s : State) : (endHeldAlarm l s).pins = s.pins := by
  simp [endHeldAlarm]
@[simp] theorem endHeldAlarm_roster (l : Lane) (s : State) : (endHeldAlarm l s).roster = s.roster := by
  simp [endHeldAlarm]
@[simp] theorem endHeldAlarm_lanes (l : Lane) (s : State) : (endHeldAlarm l s).lanes = s.lanes := by
  simp [endHeldAlarm]
@[simp] theorem endHeldAlarm_gate (l : Lane) (s : State) : (endHeldAlarm l s).gate = s.gate := by
  simp [endHeldAlarm]
@[simp] theorem endHeldAlarm_pay (l : Lane) (s : State) : (endHeldAlarm l s).pay = s.pay := by
  simp [endHeldAlarm]
@[simp] theorem endHeldAlarm_attendance (l : Lane) (s : State) : (endHeldAlarm l s).attendance = s.attendance := by
  simp [endHeldAlarm]
@[simp] theorem endHeldAlarm_journal (l : Lane) (s : State) : (endHeldAlarm l s).journal = s.journal := by
  simp [endHeldAlarm]
@[simp] theorem endHeldAlarm_memory (l : Lane) (s : State) : (endHeldAlarm l s).memory = s.memory := by
  simp [endHeldAlarm]
@[simp] theorem endHeldAlarm_control (l : Lane) (s : State) : (endHeldAlarm l s).control = s.control := by
  simp [endHeldAlarm]
@[simp] theorem endHeldAlarm_link (l : Lane) (s : State) : (endHeldAlarm l s).link = s.link := by
  simp [endHeldAlarm]
@[simp] theorem endHeldAlarm_freeCount (l : Lane) (s : State) : (endHeldAlarm l s).freeCount = s.freeCount := by
  simp [endHeldAlarm]
@[simp] theorem endHeldAlarm_reply (l : Lane) (s : State) : (endHeldAlarm l s).reply = s.reply := by
  simp [endHeldAlarm]
@[simp] theorem endHeldAlarm_pending (l : Lane) (s : State) : (endHeldAlarm l s).pending = s.pending := by
  simp [endHeldAlarm]
@[simp] theorem endHeldAlarm_running (l : Lane) (s : State) : running (endHeldAlarm l s) = running s := by
  simp [running]
@[simp] theorem endHeldAlarm_laneAt (l : Lane) (s : State) (i : Lane) : (endHeldAlarm l s).lane i = s.lane i := by
  simp [State.lane]
@[simp] theorem endHeldAlarm_doorAt (l : Lane) (s : State) (i : Lane) : (endHeldAlarm l s).door i = s.door i := by
  simp [State.door]
@[simp] theorem endHeldAlarm_recordAt (l : Lane) (s : State) (i : Slot) : (endHeldAlarm l s).record i = s.record i := by
  simp [State.record]
@[simp] theorem endHeldAlarm_schedule (l : Lane) (s : State) :
    (endHeldAlarm l s).bells.schedule = s.bells.schedule := by
  simp [endHeldAlarm]
@[simp] theorem endHeldAlarm_patterns (l : Lane) (s : State) :
    (endHeldAlarm l s).bells.patterns = s.bells.patterns := by
  simp [endHeldAlarm]
@[simp] theorem endHeldAlarm_emergencyMask (l : Lane) (s : State) :
    (endHeldAlarm l s).bells.emergencyMask = s.bells.emergencyMask := by
  simp [endHeldAlarm]
@[simp] theorem endHeldAlarm_locked (l : Lane) (s : State) :
    (endHeldAlarm l s).bells.locked = s.bells.locked := by
  simp [endHeldAlarm]

@[simp] theorem beginEvacuation_time (s : State) : (beginEvacuation s).time = s.time := by
  simp [beginEvacuation]
@[simp] theorem beginEvacuation_pins (s : State) : (beginEvacuation s).pins = s.pins := by
  simp [beginEvacuation]
@[simp] theorem beginEvacuation_roster (s : State) : (beginEvacuation s).roster = s.roster := by
  simp [beginEvacuation]
@[simp] theorem beginEvacuation_lanes (s : State) : (beginEvacuation s).lanes = s.lanes := by
  simp [beginEvacuation]
@[simp] theorem beginEvacuation_gate (s : State) : (beginEvacuation s).gate = s.gate := by
  simp [beginEvacuation]
@[simp] theorem beginEvacuation_pay (s : State) : (beginEvacuation s).pay = s.pay := by
  simp [beginEvacuation]
@[simp] theorem beginEvacuation_attendance (s : State) : (beginEvacuation s).attendance = s.attendance := by
  simp [beginEvacuation]
@[simp] theorem beginEvacuation_journal (s : State) : (beginEvacuation s).journal = s.journal := by
  simp [beginEvacuation]
@[simp] theorem beginEvacuation_memory (s : State) : (beginEvacuation s).memory = s.memory := by
  simp [beginEvacuation]
@[simp] theorem beginEvacuation_control (s : State) : (beginEvacuation s).control = s.control := by
  simp [beginEvacuation]
@[simp] theorem beginEvacuation_link (s : State) : (beginEvacuation s).link = s.link := by
  simp [beginEvacuation]
@[simp] theorem beginEvacuation_freeCount (s : State) : (beginEvacuation s).freeCount = s.freeCount := by
  simp [beginEvacuation]
@[simp] theorem beginEvacuation_reply (s : State) : (beginEvacuation s).reply = s.reply := by
  simp [beginEvacuation]
@[simp] theorem beginEvacuation_pending (s : State) : (beginEvacuation s).pending = s.pending := by
  simp [beginEvacuation]
@[simp] theorem beginEvacuation_running (s : State) : running (beginEvacuation s) = running s := by
  simp [running]
@[simp] theorem beginEvacuation_laneAt (s : State) (i : Lane) : (beginEvacuation s).lane i = s.lane i := by
  simp [State.lane]
@[simp] theorem beginEvacuation_doorAt (s : State) (i : Lane) : (beginEvacuation s).door i = s.door i := by
  simp [State.door]
@[simp] theorem beginEvacuation_recordAt (s : State) (i : Slot) : (beginEvacuation s).record i = s.record i := by
  simp [State.record]
@[simp] theorem beginEvacuation_schedule (s : State) :
    (beginEvacuation s).bells.schedule = s.bells.schedule := by
  simp [beginEvacuation]
@[simp] theorem beginEvacuation_patterns (s : State) :
    (beginEvacuation s).bells.patterns = s.bells.patterns := by
  simp [beginEvacuation]
@[simp] theorem beginEvacuation_emergencyMask (s : State) :
    (beginEvacuation s).bells.emergencyMask = s.bells.emergencyMask := by
  simp [beginEvacuation]

@[simp] theorem endEvacuation_time (s : State) : (endEvacuation s).time = s.time := by
  simp [endEvacuation]
@[simp] theorem endEvacuation_pins (s : State) : (endEvacuation s).pins = s.pins := by
  simp [endEvacuation]
@[simp] theorem endEvacuation_roster (s : State) : (endEvacuation s).roster = s.roster := by
  simp [endEvacuation]
@[simp] theorem endEvacuation_lanes (s : State) : (endEvacuation s).lanes = s.lanes := by
  simp [endEvacuation]
@[simp] theorem endEvacuation_gate (s : State) : (endEvacuation s).gate = s.gate := by
  simp [endEvacuation]
@[simp] theorem endEvacuation_pay (s : State) : (endEvacuation s).pay = s.pay := by
  simp [endEvacuation]
@[simp] theorem endEvacuation_attendance (s : State) : (endEvacuation s).attendance = s.attendance := by
  simp [endEvacuation]
@[simp] theorem endEvacuation_journal (s : State) : (endEvacuation s).journal = s.journal := by
  simp [endEvacuation]
@[simp] theorem endEvacuation_memory (s : State) : (endEvacuation s).memory = s.memory := by
  simp [endEvacuation]
@[simp] theorem endEvacuation_control (s : State) : (endEvacuation s).control = s.control := by
  simp [endEvacuation]
@[simp] theorem endEvacuation_link (s : State) : (endEvacuation s).link = s.link := by
  simp [endEvacuation]
@[simp] theorem endEvacuation_freeCount (s : State) : (endEvacuation s).freeCount = s.freeCount := by
  simp [endEvacuation]
@[simp] theorem endEvacuation_reply (s : State) : (endEvacuation s).reply = s.reply := by
  simp [endEvacuation]
@[simp] theorem endEvacuation_pending (s : State) : (endEvacuation s).pending = s.pending := by
  simp [endEvacuation]
@[simp] theorem endEvacuation_running (s : State) : running (endEvacuation s) = running s := by
  simp [running]
@[simp] theorem endEvacuation_laneAt (s : State) (i : Lane) : (endEvacuation s).lane i = s.lane i := by
  simp [State.lane]
@[simp] theorem endEvacuation_doorAt (s : State) (i : Lane) : (endEvacuation s).door i = s.door i := by
  simp [State.door]
@[simp] theorem endEvacuation_recordAt (s : State) (i : Slot) : (endEvacuation s).record i = s.record i := by
  simp [State.record]
@[simp] theorem endEvacuation_schedule (s : State) :
    (endEvacuation s).bells.schedule = s.bells.schedule := by
  simp [endEvacuation]
@[simp] theorem endEvacuation_patterns (s : State) :
    (endEvacuation s).bells.patterns = s.bells.patterns := by
  simp [endEvacuation]
@[simp] theorem endEvacuation_emergencyMask (s : State) :
    (endEvacuation s).bells.emergencyMask = s.bells.emergencyMask := by
  simp [endEvacuation]

@[simp] theorem evaluateSchedule_time (t : Nat) (s : State) : (evaluateSchedule t s).time = s.time := by
  simp [evaluateSchedule]
@[simp] theorem evaluateSchedule_pins (t : Nat) (s : State) : (evaluateSchedule t s).pins = s.pins := by
  simp [evaluateSchedule]
@[simp] theorem evaluateSchedule_roster (t : Nat) (s : State) : (evaluateSchedule t s).roster = s.roster := by
  simp [evaluateSchedule]
@[simp] theorem evaluateSchedule_lanes (t : Nat) (s : State) : (evaluateSchedule t s).lanes = s.lanes := by
  simp [evaluateSchedule]
@[simp] theorem evaluateSchedule_gate (t : Nat) (s : State) : (evaluateSchedule t s).gate = s.gate := by
  simp [evaluateSchedule]
@[simp] theorem evaluateSchedule_pay (t : Nat) (s : State) : (evaluateSchedule t s).pay = s.pay := by
  simp [evaluateSchedule]
@[simp] theorem evaluateSchedule_attendance (t : Nat) (s : State) : (evaluateSchedule t s).attendance = s.attendance := by
  simp [evaluateSchedule]
@[simp] theorem evaluateSchedule_journal (t : Nat) (s : State) : (evaluateSchedule t s).journal = s.journal := by
  simp [evaluateSchedule]
@[simp] theorem evaluateSchedule_memory (t : Nat) (s : State) : (evaluateSchedule t s).memory = s.memory := by
  simp [evaluateSchedule]
@[simp] theorem evaluateSchedule_control (t : Nat) (s : State) : (evaluateSchedule t s).control = s.control := by
  simp [evaluateSchedule]
@[simp] theorem evaluateSchedule_link (t : Nat) (s : State) : (evaluateSchedule t s).link = s.link := by
  simp [evaluateSchedule]
@[simp] theorem evaluateSchedule_freeCount (t : Nat) (s : State) : (evaluateSchedule t s).freeCount = s.freeCount := by
  simp [evaluateSchedule]
@[simp] theorem evaluateSchedule_reply (t : Nat) (s : State) : (evaluateSchedule t s).reply = s.reply := by
  simp [evaluateSchedule]
@[simp] theorem evaluateSchedule_pending (t : Nat) (s : State) : (evaluateSchedule t s).pending = s.pending := by
  simp [evaluateSchedule]
@[simp] theorem evaluateSchedule_running (t : Nat) (s : State) : running (evaluateSchedule t s) = running s := by
  simp [running]
@[simp] theorem evaluateSchedule_laneAt (t : Nat) (s : State) (i : Lane) : (evaluateSchedule t s).lane i = s.lane i := by
  simp [State.lane]
@[simp] theorem evaluateSchedule_doorAt (t : Nat) (s : State) (i : Lane) : (evaluateSchedule t s).door i = s.door i := by
  simp [State.door]
@[simp] theorem evaluateSchedule_recordAt (t : Nat) (s : State) (i : Slot) : (evaluateSchedule t s).record i = s.record i := by
  simp [State.record]
@[simp] theorem evaluateSchedule_schedule (t : Nat) (s : State) :
    (evaluateSchedule t s).bells.schedule = s.bells.schedule := by
  exact (Bells.foldl_evaluate _ _ s s.bells).1
@[simp] theorem evaluateSchedule_patterns (t : Nat) (s : State) :
    (evaluateSchedule t s).bells.patterns = s.bells.patterns := by
  exact (Bells.foldl_evaluate _ _ s s.bells).2.1
@[simp] theorem evaluateSchedule_emergencyMask (t : Nat) (s : State) :
    (evaluateSchedule t s).bells.emergencyMask = s.bells.emergencyMask := by
  exact (Bells.foldl_evaluate _ _ s s.bells).2.2.1
@[simp] theorem evaluateSchedule_locked (t : Nat) (s : State) :
    (evaluateSchedule t s).bells.locked = s.bells.locked := by
  exact (Bells.foldl_evaluate _ _ s s.bells).2.2.2

@[simp] theorem doorGrant_time (l : Lane) (s : State) : (doorGrant l s).time = s.time := by
  simp [doorGrant]
@[simp] theorem doorGrant_pins (l : Lane) (s : State) : (doorGrant l s).pins = s.pins := by
  simp [doorGrant]
@[simp] theorem doorGrant_roster (l : Lane) (s : State) : (doorGrant l s).roster = s.roster := by
  simp [doorGrant]
@[simp] theorem doorGrant_lanes (l : Lane) (s : State) : (doorGrant l s).lanes = s.lanes := by
  simp [doorGrant]
@[simp] theorem doorGrant_pay (l : Lane) (s : State) : (doorGrant l s).pay = s.pay := by
  simp [doorGrant]
@[simp] theorem doorGrant_attendance (l : Lane) (s : State) : (doorGrant l s).attendance = s.attendance := by
  simp [doorGrant]
@[simp] theorem doorGrant_bells (l : Lane) (s : State) : (doorGrant l s).bells = s.bells := by
  simp [doorGrant]
@[simp] theorem doorGrant_journal (l : Lane) (s : State) : (doorGrant l s).journal = s.journal := by
  simp [doorGrant]
@[simp] theorem doorGrant_memory (l : Lane) (s : State) : (doorGrant l s).memory = s.memory := by
  simp [doorGrant]
@[simp] theorem doorGrant_control (l : Lane) (s : State) : (doorGrant l s).control = s.control := by
  simp [doorGrant]
@[simp] theorem doorGrant_link (l : Lane) (s : State) : (doorGrant l s).link = s.link := by
  simp [doorGrant]
@[simp] theorem doorGrant_freeCount (l : Lane) (s : State) : (doorGrant l s).freeCount = s.freeCount := by
  simp [doorGrant]
@[simp] theorem doorGrant_reply (l : Lane) (s : State) : (doorGrant l s).reply = s.reply := by
  simp [doorGrant]
@[simp] theorem doorGrant_pending (l : Lane) (s : State) : (doorGrant l s).pending = s.pending := by
  simp [doorGrant]
@[simp] theorem doorGrant_running (l : Lane) (s : State) : running (doorGrant l s) = running s := by
  simp [running]
@[simp] theorem doorGrant_laneAt (l : Lane) (s : State) (i : Lane) : (doorGrant l s).lane i = s.lane i := by
  simp [State.lane]
@[simp] theorem doorGrant_recordAt (l : Lane) (s : State) (i : Slot) : (doorGrant l s).record i = s.record i := by
  simp [State.record]
@[simp] theorem doorGrant_lockdown (l : Lane) (s : State) :
    (doorGrant l s).gate.lockdown = s.gate.lockdown := by
  simp [doorGrant]
@[simp] theorem doorGrant_emergency (l : Lane) (s : State) :
    (doorGrant l s).gate.emergency = s.gate.emergency := by
  simp [doorGrant]
@[simp] theorem doorGrant_windowLength (l : Lane) (s : State) :
    (doorGrant l s).gate.windowLength = s.gate.windowLength := by
  simp [doorGrant]
@[simp] theorem doorGrant_windowCountdown (l : Lane) (s : State) :
    (doorGrant l s).gate.windowCountdown = s.gate.windowCountdown := by
  simp [doorGrant]

@[simp] theorem lockDoor_time (l : Lane) (s : State) : (lockDoor l s).time = s.time := by
  simp [lockDoor]
@[simp] theorem lockDoor_pins (l : Lane) (s : State) : (lockDoor l s).pins = s.pins := by
  simp [lockDoor]
@[simp] theorem lockDoor_roster (l : Lane) (s : State) : (lockDoor l s).roster = s.roster := by
  simp [lockDoor]
@[simp] theorem lockDoor_lanes (l : Lane) (s : State) : (lockDoor l s).lanes = s.lanes := by
  simp [lockDoor]
@[simp] theorem lockDoor_pay (l : Lane) (s : State) : (lockDoor l s).pay = s.pay := by
  simp [lockDoor]
@[simp] theorem lockDoor_attendance (l : Lane) (s : State) : (lockDoor l s).attendance = s.attendance := by
  simp [lockDoor]
@[simp] theorem lockDoor_bells (l : Lane) (s : State) : (lockDoor l s).bells = s.bells := by
  simp [lockDoor]
@[simp] theorem lockDoor_journal (l : Lane) (s : State) : (lockDoor l s).journal = s.journal := by
  simp [lockDoor]
@[simp] theorem lockDoor_memory (l : Lane) (s : State) : (lockDoor l s).memory = s.memory := by
  simp [lockDoor]
@[simp] theorem lockDoor_control (l : Lane) (s : State) : (lockDoor l s).control = s.control := by
  simp [lockDoor]
@[simp] theorem lockDoor_link (l : Lane) (s : State) : (lockDoor l s).link = s.link := by
  simp [lockDoor]
@[simp] theorem lockDoor_freeCount (l : Lane) (s : State) : (lockDoor l s).freeCount = s.freeCount := by
  simp [lockDoor]
@[simp] theorem lockDoor_reply (l : Lane) (s : State) : (lockDoor l s).reply = s.reply := by
  simp [lockDoor]
@[simp] theorem lockDoor_pending (l : Lane) (s : State) : (lockDoor l s).pending = s.pending := by
  simp [lockDoor]
@[simp] theorem lockDoor_running (l : Lane) (s : State) : running (lockDoor l s) = running s := by
  simp [running]
@[simp] theorem lockDoor_laneAt (l : Lane) (s : State) (i : Lane) : (lockDoor l s).lane i = s.lane i := by
  simp [State.lane]
@[simp] theorem lockDoor_recordAt (l : Lane) (s : State) (i : Slot) : (lockDoor l s).record i = s.record i := by
  simp [State.record]
@[simp] theorem lockDoor_lockdown (l : Lane) (s : State) :
    (lockDoor l s).gate.lockdown = s.gate.lockdown := by
  simp [lockDoor]
@[simp] theorem lockDoor_emergency (l : Lane) (s : State) :
    (lockDoor l s).gate.emergency = s.gate.emergency := by
  simp [lockDoor]
@[simp] theorem lockDoor_windowLength (l : Lane) (s : State) :
    (lockDoor l s).gate.windowLength = s.gate.windowLength := by
  simp [lockDoor]
@[simp] theorem lockDoor_windowCountdown (l : Lane) (s : State) :
    (lockDoor l s).gate.windowCountdown = s.gate.windowCountdown := by
  simp [lockDoor]

@[simp] theorem stopHeldBell_time (l : Lane) (s : State) : (stopHeldBell l s).time = s.time := by
  simp only [stopHeldBell]; split <;> simp
@[simp] theorem stopHeldBell_pins (l : Lane) (s : State) : (stopHeldBell l s).pins = s.pins := by
  simp only [stopHeldBell]; split <;> simp
@[simp] theorem stopHeldBell_roster (l : Lane) (s : State) : (stopHeldBell l s).roster = s.roster := by
  simp only [stopHeldBell]; split <;> simp
@[simp] theorem stopHeldBell_lanes (l : Lane) (s : State) : (stopHeldBell l s).lanes = s.lanes := by
  simp only [stopHeldBell]; split <;> simp
@[simp] theorem stopHeldBell_pay (l : Lane) (s : State) : (stopHeldBell l s).pay = s.pay := by
  simp only [stopHeldBell]; split <;> simp
@[simp] theorem stopHeldBell_attendance (l : Lane) (s : State) : (stopHeldBell l s).attendance = s.attendance := by
  simp only [stopHeldBell]; split <;> simp
@[simp] theorem stopHeldBell_journal (l : Lane) (s : State) : (stopHeldBell l s).journal = s.journal := by
  simp only [stopHeldBell]; split <;> simp
@[simp] theorem stopHeldBell_memory (l : Lane) (s : State) : (stopHeldBell l s).memory = s.memory := by
  simp only [stopHeldBell]; split <;> simp
@[simp] theorem stopHeldBell_control (l : Lane) (s : State) : (stopHeldBell l s).control = s.control := by
  simp only [stopHeldBell]; split <;> simp
@[simp] theorem stopHeldBell_link (l : Lane) (s : State) : (stopHeldBell l s).link = s.link := by
  simp only [stopHeldBell]; split <;> simp
@[simp] theorem stopHeldBell_freeCount (l : Lane) (s : State) : (stopHeldBell l s).freeCount = s.freeCount := by
  simp only [stopHeldBell]; split <;> simp
@[simp] theorem stopHeldBell_reply (l : Lane) (s : State) : (stopHeldBell l s).reply = s.reply := by
  simp only [stopHeldBell]; split <;> simp
@[simp] theorem stopHeldBell_pending (l : Lane) (s : State) : (stopHeldBell l s).pending = s.pending := by
  simp only [stopHeldBell]; split <;> simp
@[simp] theorem stopHeldBell_running (l : Lane) (s : State) : running (stopHeldBell l s) = running s := by
  simp [running]
@[simp] theorem stopHeldBell_laneAt (l : Lane) (s : State) (i : Lane) : (stopHeldBell l s).lane i = s.lane i := by
  simp [State.lane]
@[simp] theorem stopHeldBell_recordAt (l : Lane) (s : State) (i : Slot) : (stopHeldBell l s).record i = s.record i := by
  simp [State.record]
@[simp] theorem stopHeldBell_lockdown (l : Lane) (s : State) :
    (stopHeldBell l s).gate.lockdown = s.gate.lockdown := by
  simp only [stopHeldBell]; split <;> simp
@[simp] theorem stopHeldBell_emergency (l : Lane) (s : State) :
    (stopHeldBell l s).gate.emergency = s.gate.emergency := by
  simp only [stopHeldBell]; split <;> simp
@[simp] theorem stopHeldBell_windowLength (l : Lane) (s : State) :
    (stopHeldBell l s).gate.windowLength = s.gate.windowLength := by
  simp only [stopHeldBell]; split <;> simp
@[simp] theorem stopHeldBell_windowCountdown (l : Lane) (s : State) :
    (stopHeldBell l s).gate.windowCountdown = s.gate.windowCountdown := by
  simp only [stopHeldBell]; split <;> simp
@[simp] theorem stopHeldBell_schedule (l : Lane) (s : State) :
    (stopHeldBell l s).bells.schedule = s.bells.schedule := by
  simp only [stopHeldBell]; split <;> simp
@[simp] theorem stopHeldBell_patterns (l : Lane) (s : State) :
    (stopHeldBell l s).bells.patterns = s.bells.patterns := by
  simp only [stopHeldBell]; split <;> simp
@[simp] theorem stopHeldBell_emergencyMask (l : Lane) (s : State) :
    (stopHeldBell l s).bells.emergencyMask = s.bells.emergencyMask := by
  simp only [stopHeldBell]; split <;> simp
@[simp] theorem stopHeldBell_locked (l : Lane) (s : State) :
    (stopHeldBell l s).bells.locked = s.bells.locked := by
  simp only [stopHeldBell]; split <;> simp

@[simp] theorem restDoor_time (l : Lane) (d : DoorStatus) (s : State) : (restDoor l d s).time = s.time := by
  simp [restDoor]
@[simp] theorem restDoor_pins (l : Lane) (d : DoorStatus) (s : State) : (restDoor l d s).pins = s.pins := by
  simp [restDoor]
@[simp] theorem restDoor_roster (l : Lane) (d : DoorStatus) (s : State) : (restDoor l d s).roster = s.roster := by
  simp [restDoor]
@[simp] theorem restDoor_lanes (l : Lane) (d : DoorStatus) (s : State) : (restDoor l d s).lanes = s.lanes := by
  simp [restDoor]
@[simp] theorem restDoor_pay (l : Lane) (d : DoorStatus) (s : State) : (restDoor l d s).pay = s.pay := by
  simp [restDoor]
@[simp] theorem restDoor_attendance (l : Lane) (d : DoorStatus) (s : State) : (restDoor l d s).attendance = s.attendance := by
  simp [restDoor]
@[simp] theorem restDoor_journal (l : Lane) (d : DoorStatus) (s : State) : (restDoor l d s).journal = s.journal := by
  simp [restDoor]
@[simp] theorem restDoor_memory (l : Lane) (d : DoorStatus) (s : State) : (restDoor l d s).memory = s.memory := by
  simp [restDoor]
@[simp] theorem restDoor_control (l : Lane) (d : DoorStatus) (s : State) : (restDoor l d s).control = s.control := by
  simp [restDoor]
@[simp] theorem restDoor_link (l : Lane) (d : DoorStatus) (s : State) : (restDoor l d s).link = s.link := by
  simp [restDoor]
@[simp] theorem restDoor_freeCount (l : Lane) (d : DoorStatus) (s : State) : (restDoor l d s).freeCount = s.freeCount := by
  simp [restDoor]
@[simp] theorem restDoor_reply (l : Lane) (d : DoorStatus) (s : State) : (restDoor l d s).reply = s.reply := by
  simp [restDoor]
@[simp] theorem restDoor_pending (l : Lane) (d : DoorStatus) (s : State) : (restDoor l d s).pending = s.pending := by
  simp [restDoor]
@[simp] theorem restDoor_running (l : Lane) (d : DoorStatus) (s : State) : running (restDoor l d s) = running s := by
  simp [running]
@[simp] theorem restDoor_laneAt (l : Lane) (d : DoorStatus) (s : State) (i : Lane) : (restDoor l d s).lane i = s.lane i := by
  simp [State.lane]
@[simp] theorem restDoor_recordAt (l : Lane) (d : DoorStatus) (s : State) (i : Slot) : (restDoor l d s).record i = s.record i := by
  simp [State.record]
@[simp] theorem restDoor_lockdown (l : Lane) (d : DoorStatus) (s : State) :
    (restDoor l d s).gate.lockdown = s.gate.lockdown := by
  simp [restDoor]
@[simp] theorem restDoor_emergency (l : Lane) (d : DoorStatus) (s : State) :
    (restDoor l d s).gate.emergency = s.gate.emergency := by
  simp [restDoor]
@[simp] theorem restDoor_windowLength (l : Lane) (d : DoorStatus) (s : State) :
    (restDoor l d s).gate.windowLength = s.gate.windowLength := by
  simp [restDoor]
@[simp] theorem restDoor_windowCountdown (l : Lane) (d : DoorStatus) (s : State) :
    (restDoor l d s).gate.windowCountdown = s.gate.windowCountdown := by
  simp [restDoor]
@[simp] theorem restDoor_schedule (l : Lane) (d : DoorStatus) (s : State) :
    (restDoor l d s).bells.schedule = s.bells.schedule := by
  simp [restDoor]
@[simp] theorem restDoor_patterns (l : Lane) (d : DoorStatus) (s : State) :
    (restDoor l d s).bells.patterns = s.bells.patterns := by
  simp [restDoor]
@[simp] theorem restDoor_emergencyMask (l : Lane) (d : DoorStatus) (s : State) :
    (restDoor l d s).bells.emergencyMask = s.bells.emergencyMask := by
  simp [restDoor]
@[simp] theorem restDoor_locked (l : Lane) (d : DoorStatus) (s : State) :
    (restDoor l d s).bells.locked = s.bells.locked := by
  simp [restDoor]

@[simp] theorem forcedPassage_time (l : Lane) (s : State) : (forcedPassage l s).time = s.time := by
  simp only [forcedPassage]; split <;> simp
@[simp] theorem forcedPassage_pins (l : Lane) (s : State) : (forcedPassage l s).pins = s.pins := by
  simp only [forcedPassage]; split <;> simp
@[simp] theorem forcedPassage_roster (l : Lane) (s : State) : (forcedPassage l s).roster = s.roster := by
  simp only [forcedPassage]; split <;> simp
@[simp] theorem forcedPassage_lanes (l : Lane) (s : State) : (forcedPassage l s).lanes = s.lanes := by
  simp only [forcedPassage]; split <;> simp
@[simp] theorem forcedPassage_pay (l : Lane) (s : State) : (forcedPassage l s).pay = s.pay := by
  simp only [forcedPassage]; split <;> simp
@[simp] theorem forcedPassage_attendance (l : Lane) (s : State) : (forcedPassage l s).attendance = s.attendance := by
  simp only [forcedPassage]; split <;> simp
@[simp] theorem forcedPassage_memory (l : Lane) (s : State) : (forcedPassage l s).memory = s.memory := by
  simp only [forcedPassage]; split <;> simp
@[simp] theorem forcedPassage_link (l : Lane) (s : State) : (forcedPassage l s).link = s.link := by
  simp only [forcedPassage]; split <;> simp
@[simp] theorem forcedPassage_freeCount (l : Lane) (s : State) : (forcedPassage l s).freeCount = s.freeCount := by
  simp only [forcedPassage]; split <;> simp
@[simp] theorem forcedPassage_reply (l : Lane) (s : State) : (forcedPassage l s).reply = s.reply := by
  simp only [forcedPassage]; split <;> simp
@[simp] theorem forcedPassage_pending (l : Lane) (s : State) : (forcedPassage l s).pending = s.pending := by
  simp only [forcedPassage]; split <;> simp
@[simp] theorem forcedPassage_running (l : Lane) (s : State) : running (forcedPassage l s) = running s := by
  simp [running]
@[simp] theorem forcedPassage_laneAt (l : Lane) (s : State) (i : Lane) : (forcedPassage l s).lane i = s.lane i := by
  simp [State.lane]
@[simp] theorem forcedPassage_recordAt (l : Lane) (s : State) (i : Slot) : (forcedPassage l s).record i = s.record i := by
  simp [State.record]
@[simp] theorem forcedPassage_clockMirror (l : Lane) (s : State) :
    (forcedPassage l s).control.clockMirror = s.control.clockMirror := by
  simp only [forcedPassage]; split <;> simp
@[simp] theorem forcedPassage_channels (l : Lane) (s : State) :
    (forcedPassage l s).control.channels = s.control.channels := by
  simp only [forcedPassage]; split <;> simp
@[simp] theorem forcedPassage_lastServed (l : Lane) (s : State) :
    (forcedPassage l s).control.lastServed = s.control.lastServed := by
  simp only [forcedPassage]; split <;> simp
@[simp] theorem forcedPassage_arbiter (l : Lane) (s : State) :
    (forcedPassage l s).control.arbiter = s.control.arbiter := by
  simp only [forcedPassage]; split <;> simp
@[simp] theorem forcedPassage_presentMirror (l : Lane) (s : State) :
    (forcedPassage l s).control.presentMirror = s.control.presentMirror := by
  simp only [forcedPassage]; split <;> simp
@[simp] theorem forcedPassage_lockdown (l : Lane) (s : State) :
    (forcedPassage l s).gate.lockdown = s.gate.lockdown := by
  simp only [forcedPassage]; split <;> simp
@[simp] theorem forcedPassage_emergency (l : Lane) (s : State) :
    (forcedPassage l s).gate.emergency = s.gate.emergency := by
  simp only [forcedPassage]; split <;> simp
@[simp] theorem forcedPassage_windowLength (l : Lane) (s : State) :
    (forcedPassage l s).gate.windowLength = s.gate.windowLength := by
  simp only [forcedPassage]; split <;> simp
@[simp] theorem forcedPassage_windowCountdown (l : Lane) (s : State) :
    (forcedPassage l s).gate.windowCountdown = s.gate.windowCountdown := by
  simp only [forcedPassage]; split <;> simp
@[simp] theorem forcedPassage_schedule (l : Lane) (s : State) :
    (forcedPassage l s).bells.schedule = s.bells.schedule := by
  simp only [forcedPassage]; split <;> simp
@[simp] theorem forcedPassage_patterns (l : Lane) (s : State) :
    (forcedPassage l s).bells.patterns = s.bells.patterns := by
  simp only [forcedPassage]; split <;> simp
@[simp] theorem forcedPassage_emergencyMask (l : Lane) (s : State) :
    (forcedPassage l s).bells.emergencyMask = s.bells.emergencyMask := by
  simp only [forcedPassage]; split <;> simp
@[simp] theorem forcedPassage_locked (l : Lane) (s : State) :
    (forcedPassage l s).bells.locked = s.bells.locked := by
  simp only [forcedPassage]; split <;> simp

@[simp] theorem heldAlarm_time (l : Lane) (s : State) : (heldAlarm l s).time = s.time := by
  simp only [heldAlarm]; split <;> simp
@[simp] theorem heldAlarm_pins (l : Lane) (s : State) : (heldAlarm l s).pins = s.pins := by
  simp only [heldAlarm]; split <;> simp
@[simp] theorem heldAlarm_roster (l : Lane) (s : State) : (heldAlarm l s).roster = s.roster := by
  simp only [heldAlarm]; split <;> simp
@[simp] theorem heldAlarm_lanes (l : Lane) (s : State) : (heldAlarm l s).lanes = s.lanes := by
  simp only [heldAlarm]; split <;> simp
@[simp] theorem heldAlarm_pay (l : Lane) (s : State) : (heldAlarm l s).pay = s.pay := by
  simp only [heldAlarm]; split <;> simp
@[simp] theorem heldAlarm_attendance (l : Lane) (s : State) : (heldAlarm l s).attendance = s.attendance := by
  simp only [heldAlarm]; split <;> simp
@[simp] theorem heldAlarm_memory (l : Lane) (s : State) : (heldAlarm l s).memory = s.memory := by
  simp only [heldAlarm]; split <;> simp
@[simp] theorem heldAlarm_link (l : Lane) (s : State) : (heldAlarm l s).link = s.link := by
  simp only [heldAlarm]; split <;> simp
@[simp] theorem heldAlarm_freeCount (l : Lane) (s : State) : (heldAlarm l s).freeCount = s.freeCount := by
  simp only [heldAlarm]; split <;> simp
@[simp] theorem heldAlarm_reply (l : Lane) (s : State) : (heldAlarm l s).reply = s.reply := by
  simp only [heldAlarm]; split <;> simp
@[simp] theorem heldAlarm_pending (l : Lane) (s : State) : (heldAlarm l s).pending = s.pending := by
  simp only [heldAlarm]; split <;> simp
@[simp] theorem heldAlarm_running (l : Lane) (s : State) : running (heldAlarm l s) = running s := by
  simp [running]
@[simp] theorem heldAlarm_laneAt (l : Lane) (s : State) (i : Lane) : (heldAlarm l s).lane i = s.lane i := by
  simp [State.lane]
@[simp] theorem heldAlarm_recordAt (l : Lane) (s : State) (i : Slot) : (heldAlarm l s).record i = s.record i := by
  simp [State.record]
@[simp] theorem heldAlarm_clockMirror (l : Lane) (s : State) :
    (heldAlarm l s).control.clockMirror = s.control.clockMirror := by
  simp only [heldAlarm]; split <;> simp
@[simp] theorem heldAlarm_channels (l : Lane) (s : State) :
    (heldAlarm l s).control.channels = s.control.channels := by
  simp only [heldAlarm]; split <;> simp
@[simp] theorem heldAlarm_lastServed (l : Lane) (s : State) :
    (heldAlarm l s).control.lastServed = s.control.lastServed := by
  simp only [heldAlarm]; split <;> simp
@[simp] theorem heldAlarm_arbiter (l : Lane) (s : State) :
    (heldAlarm l s).control.arbiter = s.control.arbiter := by
  simp only [heldAlarm]; split <;> simp
@[simp] theorem heldAlarm_presentMirror (l : Lane) (s : State) :
    (heldAlarm l s).control.presentMirror = s.control.presentMirror := by
  simp only [heldAlarm]; split <;> simp
@[simp] theorem heldAlarm_lockdown (l : Lane) (s : State) :
    (heldAlarm l s).gate.lockdown = s.gate.lockdown := by
  simp only [heldAlarm]; split <;> simp
@[simp] theorem heldAlarm_emergency (l : Lane) (s : State) :
    (heldAlarm l s).gate.emergency = s.gate.emergency := by
  simp only [heldAlarm]; split <;> simp
@[simp] theorem heldAlarm_windowLength (l : Lane) (s : State) :
    (heldAlarm l s).gate.windowLength = s.gate.windowLength := by
  simp only [heldAlarm]; split <;> simp
@[simp] theorem heldAlarm_windowCountdown (l : Lane) (s : State) :
    (heldAlarm l s).gate.windowCountdown = s.gate.windowCountdown := by
  simp only [heldAlarm]; split <;> simp
@[simp] theorem heldAlarm_schedule (l : Lane) (s : State) :
    (heldAlarm l s).bells.schedule = s.bells.schedule := by
  simp only [heldAlarm]; split <;> simp
@[simp] theorem heldAlarm_patterns (l : Lane) (s : State) :
    (heldAlarm l s).bells.patterns = s.bells.patterns := by
  simp only [heldAlarm]; split <;> simp
@[simp] theorem heldAlarm_emergencyMask (l : Lane) (s : State) :
    (heldAlarm l s).bells.emergencyMask = s.bells.emergencyMask := by
  simp only [heldAlarm]; split <;> simp
@[simp] theorem heldAlarm_locked (l : Lane) (s : State) :
    (heldAlarm l s).bells.locked = s.bells.locked := by
  simp only [heldAlarm]; split <;> simp

@[simp] theorem loadRed_time (l : Lane) (s : State) : (loadRed l s).time = s.time := by
  simp [loadRed]
@[simp] theorem loadRed_pins (l : Lane) (s : State) : (loadRed l s).pins = s.pins := by
  simp [loadRed]
@[simp] theorem loadRed_roster (l : Lane) (s : State) : (loadRed l s).roster = s.roster := by
  simp [loadRed]
@[simp] theorem loadRed_gate (l : Lane) (s : State) : (loadRed l s).gate = s.gate := by
  simp [loadRed]
@[simp] theorem loadRed_pay (l : Lane) (s : State) : (loadRed l s).pay = s.pay := by
  simp [loadRed]
@[simp] theorem loadRed_attendance (l : Lane) (s : State) : (loadRed l s).attendance = s.attendance := by
  simp [loadRed]
@[simp] theorem loadRed_bells (l : Lane) (s : State) : (loadRed l s).bells = s.bells := by
  simp [loadRed]
@[simp] theorem loadRed_journal (l : Lane) (s : State) : (loadRed l s).journal = s.journal := by
  simp [loadRed]
@[simp] theorem loadRed_memory (l : Lane) (s : State) : (loadRed l s).memory = s.memory := by
  simp [loadRed]
@[simp] theorem loadRed_control (l : Lane) (s : State) : (loadRed l s).control = s.control := by
  simp [loadRed]
@[simp] theorem loadRed_link (l : Lane) (s : State) : (loadRed l s).link = s.link := by
  simp [loadRed]
@[simp] theorem loadRed_freeCount (l : Lane) (s : State) : (loadRed l s).freeCount = s.freeCount := by
  simp [loadRed]
@[simp] theorem loadRed_reply (l : Lane) (s : State) : (loadRed l s).reply = s.reply := by
  simp [loadRed]
@[simp] theorem loadRed_pending (l : Lane) (s : State) : (loadRed l s).pending = s.pending := by
  simp [loadRed]
@[simp] theorem loadRed_running (l : Lane) (s : State) : running (loadRed l s) = running s := by
  simp [running]
@[simp] theorem loadRed_doorAt (l : Lane) (s : State) (i : Lane) : (loadRed l s).door i = s.door i := by
  simp [State.door]
@[simp] theorem loadRed_recordAt (l : Lane) (s : State) (i : Slot) : (loadRed l s).record i = s.record i := by
  simp [State.record]
@[simp] theorem loadRed_config (l : Lane) (s : State) (m : Lane) :
    ((loadRed l s).lane m).config = (s.lane m).config := by
  by_cases h : m = l
  · subst h; simp [loadRed]
  · simp [loadRed, h]

@[simp] theorem refuseFrame_time (l : Lane) (r : BadgeRead) (a : Option Slot) (d : DenyReason) (s : State) : (refuseFrame l r a d s).time = s.time := by
  simp [refuseFrame]
@[simp] theorem refuseFrame_pins (l : Lane) (r : BadgeRead) (a : Option Slot) (d : DenyReason) (s : State) : (refuseFrame l r a d s).pins = s.pins := by
  simp [refuseFrame]
@[simp] theorem refuseFrame_roster (l : Lane) (r : BadgeRead) (a : Option Slot) (d : DenyReason) (s : State) : (refuseFrame l r a d s).roster = s.roster := by
  simp [refuseFrame]
@[simp] theorem refuseFrame_gate (l : Lane) (r : BadgeRead) (a : Option Slot) (d : DenyReason) (s : State) : (refuseFrame l r a d s).gate = s.gate := by
  simp [refuseFrame]
@[simp] theorem refuseFrame_pay (l : Lane) (r : BadgeRead) (a : Option Slot) (d : DenyReason) (s : State) : (refuseFrame l r a d s).pay = s.pay := by
  simp [refuseFrame]
@[simp] theorem refuseFrame_attendance (l : Lane) (r : BadgeRead) (a : Option Slot) (d : DenyReason) (s : State) : (refuseFrame l r a d s).attendance = s.attendance := by
  simp [refuseFrame]
@[simp] theorem refuseFrame_bells (l : Lane) (r : BadgeRead) (a : Option Slot) (d : DenyReason) (s : State) : (refuseFrame l r a d s).bells = s.bells := by
  simp [refuseFrame]
@[simp] theorem refuseFrame_memory (l : Lane) (r : BadgeRead) (a : Option Slot) (d : DenyReason) (s : State) : (refuseFrame l r a d s).memory = s.memory := by
  simp [refuseFrame]
@[simp] theorem refuseFrame_link (l : Lane) (r : BadgeRead) (a : Option Slot) (d : DenyReason) (s : State) : (refuseFrame l r a d s).link = s.link := by
  simp [refuseFrame]
@[simp] theorem refuseFrame_freeCount (l : Lane) (r : BadgeRead) (a : Option Slot) (d : DenyReason) (s : State) : (refuseFrame l r a d s).freeCount = s.freeCount := by
  simp [refuseFrame]
@[simp] theorem refuseFrame_reply (l : Lane) (r : BadgeRead) (a : Option Slot) (d : DenyReason) (s : State) : (refuseFrame l r a d s).reply = s.reply := by
  simp [refuseFrame]
@[simp] theorem refuseFrame_pending (l : Lane) (r : BadgeRead) (a : Option Slot) (d : DenyReason) (s : State) : (refuseFrame l r a d s).pending = s.pending := by
  simp [refuseFrame]
@[simp] theorem refuseFrame_running (l : Lane) (r : BadgeRead) (a : Option Slot) (d : DenyReason) (s : State) : running (refuseFrame l r a d s) = running s := by
  simp [running]
@[simp] theorem refuseFrame_doorAt (l : Lane) (r : BadgeRead) (a : Option Slot) (d : DenyReason) (s : State) (i : Lane) : (refuseFrame l r a d s).door i = s.door i := by
  simp [State.door]
@[simp] theorem refuseFrame_recordAt (l : Lane) (r : BadgeRead) (a : Option Slot) (d : DenyReason) (s : State) (i : Slot) : (refuseFrame l r a d s).record i = s.record i := by
  simp [State.record]
@[simp] theorem refuseFrame_clockMirror (l : Lane) (r : BadgeRead) (a : Option Slot) (d : DenyReason) (s : State) :
    (refuseFrame l r a d s).control.clockMirror = s.control.clockMirror := by
  simp [refuseFrame]
@[simp] theorem refuseFrame_channels (l : Lane) (r : BadgeRead) (a : Option Slot) (d : DenyReason) (s : State) :
    (refuseFrame l r a d s).control.channels = s.control.channels := by
  simp [refuseFrame]
@[simp] theorem refuseFrame_lastServed (l : Lane) (r : BadgeRead) (a : Option Slot) (d : DenyReason) (s : State) :
    (refuseFrame l r a d s).control.lastServed = s.control.lastServed := by
  simp [refuseFrame]
@[simp] theorem refuseFrame_arbiter (l : Lane) (r : BadgeRead) (a : Option Slot) (d : DenyReason) (s : State) :
    (refuseFrame l r a d s).control.arbiter = s.control.arbiter := by
  simp [refuseFrame]
@[simp] theorem refuseFrame_presentMirror (l : Lane) (r : BadgeRead) (a : Option Slot) (d : DenyReason) (s : State) :
    (refuseFrame l r a d s).control.presentMirror = s.control.presentMirror := by
  simp [refuseFrame]
@[simp] theorem refuseFrame_config (l : Lane) (r : BadgeRead) (a : Option Slot) (d : DenyReason) (s : State) (m : Lane) :
    ((refuseFrame l r a d s).lane m).config = (s.lane m).config := by
  simp only [refuseFrame, loadRed_config, appendEntry_laneAt]

@[simp] theorem takeMuster_time (l : Lane) (r : BadgeRead) (a : Slot) (s : State) : (takeMuster l r a s).time = s.time := by
  simp [takeMuster]
@[simp] theorem takeMuster_pins (l : Lane) (r : BadgeRead) (a : Slot) (s : State) : (takeMuster l r a s).pins = s.pins := by
  simp [takeMuster]
@[simp] theorem takeMuster_lanes (l : Lane) (r : BadgeRead) (a : Slot) (s : State) : (takeMuster l r a s).lanes = s.lanes := by
  simp [takeMuster]
@[simp] theorem takeMuster_gate (l : Lane) (r : BadgeRead) (a : Slot) (s : State) : (takeMuster l r a s).gate = s.gate := by
  simp [takeMuster]
@[simp] theorem takeMuster_pay (l : Lane) (r : BadgeRead) (a : Slot) (s : State) : (takeMuster l r a s).pay = s.pay := by
  simp [takeMuster]
@[simp] theorem takeMuster_attendance (l : Lane) (r : BadgeRead) (a : Slot) (s : State) : (takeMuster l r a s).attendance = s.attendance := by
  simp [takeMuster]
@[simp] theorem takeMuster_bells (l : Lane) (r : BadgeRead) (a : Slot) (s : State) : (takeMuster l r a s).bells = s.bells := by
  simp [takeMuster]
@[simp] theorem takeMuster_memory (l : Lane) (r : BadgeRead) (a : Slot) (s : State) : (takeMuster l r a s).memory = s.memory := by
  simp [takeMuster]
@[simp] theorem takeMuster_link (l : Lane) (r : BadgeRead) (a : Slot) (s : State) : (takeMuster l r a s).link = s.link := by
  simp [takeMuster]
@[simp] theorem takeMuster_freeCount (l : Lane) (r : BadgeRead) (a : Slot) (s : State) : (takeMuster l r a s).freeCount = s.freeCount := by
  simp [takeMuster]
@[simp] theorem takeMuster_reply (l : Lane) (r : BadgeRead) (a : Slot) (s : State) : (takeMuster l r a s).reply = s.reply := by
  simp [takeMuster]
@[simp] theorem takeMuster_pending (l : Lane) (r : BadgeRead) (a : Slot) (s : State) : (takeMuster l r a s).pending = s.pending := by
  simp [takeMuster]
@[simp] theorem takeMuster_running (l : Lane) (r : BadgeRead) (a : Slot) (s : State) : running (takeMuster l r a s) = running s := by
  simp [running]
@[simp] theorem takeMuster_laneAt (l : Lane) (r : BadgeRead) (a : Slot) (s : State) (i : Lane) : (takeMuster l r a s).lane i = s.lane i := by
  simp [State.lane]
@[simp] theorem takeMuster_doorAt (l : Lane) (r : BadgeRead) (a : Slot) (s : State) (i : Lane) : (takeMuster l r a s).door i = s.door i := by
  simp [State.door]
@[simp] theorem takeMuster_clockMirror (l : Lane) (r : BadgeRead) (a : Slot) (s : State) :
    (takeMuster l r a s).control.clockMirror = s.control.clockMirror := by
  simp [takeMuster]
@[simp] theorem takeMuster_channels (l : Lane) (r : BadgeRead) (a : Slot) (s : State) :
    (takeMuster l r a s).control.channels = s.control.channels := by
  simp [takeMuster]
@[simp] theorem takeMuster_lastServed (l : Lane) (r : BadgeRead) (a : Slot) (s : State) :
    (takeMuster l r a s).control.lastServed = s.control.lastServed := by
  simp [takeMuster]
@[simp] theorem takeMuster_arbiter (l : Lane) (r : BadgeRead) (a : Slot) (s : State) :
    (takeMuster l r a s).control.arbiter = s.control.arbiter := by
  simp [takeMuster]
@[simp] theorem takeMuster_presentMirror (l : Lane) (r : BadgeRead) (a : Slot) (s : State) :
    (takeMuster l r a s).control.presentMirror = s.control.presentMirror := by
  simp [takeMuster]
@[simp] theorem takeMuster_index (l : Lane) (r : BadgeRead) (a : Slot) (s : State) :
    (takeMuster l r a s).roster.index = s.roster.index := by
  simp [takeMuster]
@[simp] theorem takeMuster_census (l : Lane) (r : BadgeRead) (a : Slot) (s : State) :
    (takeMuster l r a s).roster.census = s.roster.census := by
  simp [takeMuster]
@[simp] theorem takeMuster_occupied (l : Lane) (r : BadgeRead) (a : Slot) (s : State) :
    (takeMuster l r a s).roster.occupied = s.roster.occupied := by
  simp [takeMuster]

@[simp] theorem clearPassage_time (l : Lane) (a : Slot) (s : State) : (clearPassage l a s).time = s.time := by
  simp [clearPassage]
@[simp] theorem clearPassage_pins (l : Lane) (a : Slot) (s : State) : (clearPassage l a s).pins = s.pins := by
  simp [clearPassage]
@[simp] theorem clearPassage_gate (l : Lane) (a : Slot) (s : State) : (clearPassage l a s).gate = s.gate := by
  simp [clearPassage]
@[simp] theorem clearPassage_pay (l : Lane) (a : Slot) (s : State) : (clearPassage l a s).pay = s.pay := by
  simp [clearPassage]
@[simp] theorem clearPassage_attendance (l : Lane) (a : Slot) (s : State) : (clearPassage l a s).attendance = s.attendance := by
  simp [clearPassage]
@[simp] theorem clearPassage_bells (l : Lane) (a : Slot) (s : State) : (clearPassage l a s).bells = s.bells := by
  simp [clearPassage]
@[simp] theorem clearPassage_journal (l : Lane) (a : Slot) (s : State) : (clearPassage l a s).journal = s.journal := by
  simp [clearPassage]
@[simp] theorem clearPassage_memory (l : Lane) (a : Slot) (s : State) : (clearPassage l a s).memory = s.memory := by
  simp [clearPassage]
@[simp] theorem clearPassage_control (l : Lane) (a : Slot) (s : State) : (clearPassage l a s).control = s.control := by
  simp [clearPassage]
@[simp] theorem clearPassage_link (l : Lane) (a : Slot) (s : State) : (clearPassage l a s).link = s.link := by
  simp [clearPassage]
@[simp] theorem clearPassage_freeCount (l : Lane) (a : Slot) (s : State) : (clearPassage l a s).freeCount = s.freeCount := by
  simp [clearPassage]
@[simp] theorem clearPassage_reply (l : Lane) (a : Slot) (s : State) : (clearPassage l a s).reply = s.reply := by
  simp [clearPassage]
@[simp] theorem clearPassage_pending (l : Lane) (a : Slot) (s : State) : (clearPassage l a s).pending = s.pending := by
  simp [clearPassage]
@[simp] theorem clearPassage_running (l : Lane) (a : Slot) (s : State) : running (clearPassage l a s) = running s := by
  simp [running]
@[simp] theorem clearPassage_doorAt (l : Lane) (a : Slot) (s : State) (i : Lane) : (clearPassage l a s).door i = s.door i := by
  simp [State.door]
@[simp] theorem clearPassage_config (l : Lane) (a : Slot) (s : State) (m : Lane) :
    ((clearPassage l a s).lane m).config = (s.lane m).config := by
  by_cases h : m = l
  · subst h; simp [clearPassage]
  · simp [clearPassage, h]
@[simp] theorem clearPassage_index (l : Lane) (a : Slot) (s : State) :
    (clearPassage l a s).roster.index = s.roster.index := by
  simp [clearPassage]
@[simp] theorem clearPassage_census (l : Lane) (a : Slot) (s : State) :
    (clearPassage l a s).roster.census = s.roster.census := by
  simp [clearPassage]
@[simp] theorem clearPassage_occupied (l : Lane) (a : Slot) (s : State) :
    (clearPassage l a s).roster.occupied = s.roster.occupied := by
  simp [clearPassage]

@[simp] theorem applyPunch_time (p : PendingPassage) (s : State) : (applyPunch p s).time = s.time := by
  simp only [applyPunch]; split <;> (try split) <;> simp
@[simp] theorem applyPunch_pins (p : PendingPassage) (s : State) : (applyPunch p s).pins = s.pins := by
  simp only [applyPunch]; split <;> (try split) <;> simp
@[simp] theorem applyPunch_lanes (p : PendingPassage) (s : State) : (applyPunch p s).lanes = s.lanes := by
  simp only [applyPunch]; split <;> (try split) <;> simp
@[simp] theorem applyPunch_gate (p : PendingPassage) (s : State) : (applyPunch p s).gate = s.gate := by
  simp only [applyPunch]; split <;> (try split) <;> simp
@[simp] theorem applyPunch_pay (p : PendingPassage) (s : State) : (applyPunch p s).pay = s.pay := by
  simp only [applyPunch]; split <;> (try split) <;> simp
@[simp] theorem applyPunch_bells (p : PendingPassage) (s : State) : (applyPunch p s).bells = s.bells := by
  simp only [applyPunch]; split <;> (try split) <;> simp
@[simp] theorem applyPunch_journal (p : PendingPassage) (s : State) : (applyPunch p s).journal = s.journal := by
  simp only [applyPunch]; split <;> (try split) <;> simp
@[simp] theorem applyPunch_memory (p : PendingPassage) (s : State) : (applyPunch p s).memory = s.memory := by
  simp only [applyPunch]; split <;> (try split) <;> simp
@[simp] theorem applyPunch_link (p : PendingPassage) (s : State) : (applyPunch p s).link = s.link := by
  simp only [applyPunch]; split <;> (try split) <;> simp
@[simp] theorem applyPunch_freeCount (p : PendingPassage) (s : State) : (applyPunch p s).freeCount = s.freeCount := by
  simp only [applyPunch]; split <;> (try split) <;> simp
@[simp] theorem applyPunch_reply (p : PendingPassage) (s : State) : (applyPunch p s).reply = s.reply := by
  simp only [applyPunch]; split <;> (try split) <;> simp
@[simp] theorem applyPunch_pending (p : PendingPassage) (s : State) : (applyPunch p s).pending = s.pending := by
  simp only [applyPunch]; split <;> (try split) <;> simp
@[simp] theorem applyPunch_running (p : PendingPassage) (s : State) : running (applyPunch p s) = running s := by
  simp [running]
@[simp] theorem applyPunch_laneAt (p : PendingPassage) (s : State) (i : Lane) : (applyPunch p s).lane i = s.lane i := by
  simp [State.lane]
@[simp] theorem applyPunch_doorAt (p : PendingPassage) (s : State) (i : Lane) : (applyPunch p s).door i = s.door i := by
  simp [State.door]
@[simp] theorem applyPunch_clockMirror (p : PendingPassage) (s : State) :
    (applyPunch p s).control.clockMirror = s.control.clockMirror := by
  simp only [applyPunch]; split <;> (try split) <;> simp
@[simp] theorem applyPunch_channels (p : PendingPassage) (s : State) :
    (applyPunch p s).control.channels = s.control.channels := by
  simp only [applyPunch]; split <;> (try split) <;> simp
@[simp] theorem applyPunch_lastServed (p : PendingPassage) (s : State) :
    (applyPunch p s).control.lastServed = s.control.lastServed := by
  simp only [applyPunch]; split <;> (try split) <;> simp
@[simp] theorem applyPunch_arbiter (p : PendingPassage) (s : State) :
    (applyPunch p s).control.arbiter = s.control.arbiter := by
  simp only [applyPunch]; split <;> (try split) <;> simp
@[simp] theorem applyPunch_index (p : PendingPassage) (s : State) :
    (applyPunch p s).roster.index = s.roster.index := by
  simp only [applyPunch]; split <;> (try split) <;> simp
@[simp] theorem applyPunch_census (p : PendingPassage) (s : State) :
    (applyPunch p s).roster.census = s.roster.census := by
  simp only [applyPunch]; split <;> (try split) <;> simp
@[simp] theorem applyPunch_occupied (p : PendingPassage) (s : State) :
    (applyPunch p s).roster.occupied = s.roster.occupied := by
  simp only [applyPunch]; split <;> (try split) <;> simp

@[simp] theorem resolvePassage_time (l : Lane) (p : PendingPassage) (s : State) : (resolvePassage l p s).time = s.time := by
  simp [resolvePassage]
@[simp] theorem resolvePassage_pins (l : Lane) (p : PendingPassage) (s : State) : (resolvePassage l p s).pins = s.pins := by
  simp [resolvePassage]
@[simp] theorem resolvePassage_gate (l : Lane) (p : PendingPassage) (s : State) : (resolvePassage l p s).gate = s.gate := by
  simp [resolvePassage]
@[simp] theorem resolvePassage_pay (l : Lane) (p : PendingPassage) (s : State) : (resolvePassage l p s).pay = s.pay := by
  simp [resolvePassage]
@[simp] theorem resolvePassage_bells (l : Lane) (p : PendingPassage) (s : State) : (resolvePassage l p s).bells = s.bells := by
  simp [resolvePassage]
@[simp] theorem resolvePassage_memory (l : Lane) (p : PendingPassage) (s : State) : (resolvePassage l p s).memory = s.memory := by
  simp [resolvePassage]
@[simp] theorem resolvePassage_link (l : Lane) (p : PendingPassage) (s : State) : (resolvePassage l p s).link = s.link := by
  simp [resolvePassage]
@[simp] theorem resolvePassage_freeCount (l : Lane) (p : PendingPassage) (s : State) : (resolvePassage l p s).freeCount = s.freeCount := by
  simp [resolvePassage]
@[simp] theorem resolvePassage_reply (l : Lane) (p : PendingPassage) (s : State) : (resolvePassage l p s).reply = s.reply := by
  simp [resolvePassage]
@[simp] theorem resolvePassage_pending (l : Lane) (p : PendingPassage) (s : State) : (resolvePassage l p s).pending = s.pending := by
  simp [resolvePassage]
@[simp] theorem resolvePassage_running (l : Lane) (p : PendingPassage) (s : State) : running (resolvePassage l p s) = running s := by
  simp [running]
@[simp] theorem resolvePassage_doorAt (l : Lane) (p : PendingPassage) (s : State) (i : Lane) : (resolvePassage l p s).door i = s.door i := by
  simp [State.door]
@[simp] theorem resolvePassage_clockMirror (l : Lane) (p : PendingPassage) (s : State) :
    (resolvePassage l p s).control.clockMirror = s.control.clockMirror := by
  simp [resolvePassage]
@[simp] theorem resolvePassage_channels (l : Lane) (p : PendingPassage) (s : State) :
    (resolvePassage l p s).control.channels = s.control.channels := by
  simp [resolvePassage]
@[simp] theorem resolvePassage_lastServed (l : Lane) (p : PendingPassage) (s : State) :
    (resolvePassage l p s).control.lastServed = s.control.lastServed := by
  simp [resolvePassage]
@[simp] theorem resolvePassage_arbiter (l : Lane) (p : PendingPassage) (s : State) :
    (resolvePassage l p s).control.arbiter = s.control.arbiter := by
  simp [resolvePassage]
@[simp] theorem resolvePassage_config (l : Lane) (p : PendingPassage) (s : State) (m : Lane) :
    ((resolvePassage l p s).lane m).config = (s.lane m).config := by
  simp [resolvePassage]
@[simp] theorem resolvePassage_index (l : Lane) (p : PendingPassage) (s : State) :
    (resolvePassage l p s).roster.index = s.roster.index := by
  simp [resolvePassage]
@[simp] theorem resolvePassage_census (l : Lane) (p : PendingPassage) (s : State) :
    (resolvePassage l p s).roster.census = s.roster.census := by
  simp [resolvePassage]
@[simp] theorem resolvePassage_occupied (l : Lane) (p : PendingPassage) (s : State) :
    (resolvePassage l p s).roster.occupied = s.roster.occupied := by
  simp [resolvePassage]

@[simp] theorem lapsePassage_time (l : Lane) (p : PendingPassage) (e : Bool) (s : State) : (lapsePassage l p e s).time = s.time := by
  simp [lapsePassage]
@[simp] theorem lapsePassage_pins (l : Lane) (p : PendingPassage) (e : Bool) (s : State) : (lapsePassage l p e s).pins = s.pins := by
  simp [lapsePassage]
@[simp] theorem lapsePassage_gate (l : Lane) (p : PendingPassage) (e : Bool) (s : State) : (lapsePassage l p e s).gate = s.gate := by
  simp [lapsePassage]
@[simp] theorem lapsePassage_pay (l : Lane) (p : PendingPassage) (e : Bool) (s : State) : (lapsePassage l p e s).pay = s.pay := by
  simp [lapsePassage]
@[simp] theorem lapsePassage_attendance (l : Lane) (p : PendingPassage) (e : Bool) (s : State) : (lapsePassage l p e s).attendance = s.attendance := by
  simp [lapsePassage]
@[simp] theorem lapsePassage_bells (l : Lane) (p : PendingPassage) (e : Bool) (s : State) : (lapsePassage l p e s).bells = s.bells := by
  simp [lapsePassage]
@[simp] theorem lapsePassage_memory (l : Lane) (p : PendingPassage) (e : Bool) (s : State) : (lapsePassage l p e s).memory = s.memory := by
  simp [lapsePassage]
@[simp] theorem lapsePassage_link (l : Lane) (p : PendingPassage) (e : Bool) (s : State) : (lapsePassage l p e s).link = s.link := by
  simp [lapsePassage]
@[simp] theorem lapsePassage_freeCount (l : Lane) (p : PendingPassage) (e : Bool) (s : State) : (lapsePassage l p e s).freeCount = s.freeCount := by
  simp [lapsePassage]
@[simp] theorem lapsePassage_reply (l : Lane) (p : PendingPassage) (e : Bool) (s : State) : (lapsePassage l p e s).reply = s.reply := by
  simp [lapsePassage]
@[simp] theorem lapsePassage_pending (l : Lane) (p : PendingPassage) (e : Bool) (s : State) : (lapsePassage l p e s).pending = s.pending := by
  simp [lapsePassage]
@[simp] theorem lapsePassage_running (l : Lane) (p : PendingPassage) (e : Bool) (s : State) : running (lapsePassage l p e s) = running s := by
  simp [running]
@[simp] theorem lapsePassage_doorAt (l : Lane) (p : PendingPassage) (e : Bool) (s : State) (i : Lane) : (lapsePassage l p e s).door i = s.door i := by
  simp [State.door]
@[simp] theorem lapsePassage_clockMirror (l : Lane) (p : PendingPassage) (e : Bool) (s : State) :
    (lapsePassage l p e s).control.clockMirror = s.control.clockMirror := by
  simp [lapsePassage]
@[simp] theorem lapsePassage_channels (l : Lane) (p : PendingPassage) (e : Bool) (s : State) :
    (lapsePassage l p e s).control.channels = s.control.channels := by
  simp [lapsePassage]
@[simp] theorem lapsePassage_lastServed (l : Lane) (p : PendingPassage) (e : Bool) (s : State) :
    (lapsePassage l p e s).control.lastServed = s.control.lastServed := by
  simp [lapsePassage]
@[simp] theorem lapsePassage_arbiter (l : Lane) (p : PendingPassage) (e : Bool) (s : State) :
    (lapsePassage l p e s).control.arbiter = s.control.arbiter := by
  simp [lapsePassage]
@[simp] theorem lapsePassage_presentMirror (l : Lane) (p : PendingPassage) (e : Bool) (s : State) :
    (lapsePassage l p e s).control.presentMirror = s.control.presentMirror := by
  simp [lapsePassage]
@[simp] theorem lapsePassage_config (l : Lane) (p : PendingPassage) (e : Bool) (s : State) (m : Lane) :
    ((lapsePassage l p e s).lane m).config = (s.lane m).config := by
  simp [lapsePassage]
@[simp] theorem lapsePassage_index (l : Lane) (p : PendingPassage) (e : Bool) (s : State) :
    (lapsePassage l p e s).roster.index = s.roster.index := by
  simp [lapsePassage]
@[simp] theorem lapsePassage_census (l : Lane) (p : PendingPassage) (e : Bool) (s : State) :
    (lapsePassage l p e s).roster.census = s.roster.census := by
  simp [lapsePassage]
@[simp] theorem lapsePassage_occupied (l : Lane) (p : PendingPassage) (e : Bool) (s : State) :
    (lapsePassage l p e s).roster.occupied = s.roster.occupied := by
  simp [lapsePassage]

@[simp] theorem takeGrant_time (l : Lane) (g : Grant) (r : BadgeRead) (s : State) : (takeGrant l g r s).time = s.time := by
  simp only [takeGrant]; split <;> simp
@[simp] theorem takeGrant_pins (l : Lane) (g : Grant) (r : BadgeRead) (s : State) : (takeGrant l g r s).pins = s.pins := by
  simp only [takeGrant]; split <;> simp
@[simp] theorem takeGrant_pay (l : Lane) (g : Grant) (r : BadgeRead) (s : State) : (takeGrant l g r s).pay = s.pay := by
  simp only [takeGrant]; split <;> simp
@[simp] theorem takeGrant_bells (l : Lane) (g : Grant) (r : BadgeRead) (s : State) : (takeGrant l g r s).bells = s.bells := by
  simp only [takeGrant]; split <;> simp
@[simp] theorem takeGrant_memory (l : Lane) (g : Grant) (r : BadgeRead) (s : State) : (takeGrant l g r s).memory = s.memory := by
  simp only [takeGrant]; split <;> simp
@[simp] theorem takeGrant_link (l : Lane) (g : Grant) (r : BadgeRead) (s : State) : (takeGrant l g r s).link = s.link := by
  simp only [takeGrant]; split <;> simp
@[simp] theorem takeGrant_freeCount (l : Lane) (g : Grant) (r : BadgeRead) (s : State) : (takeGrant l g r s).freeCount = s.freeCount := by
  simp only [takeGrant]; split <;> simp
@[simp] theorem takeGrant_reply (l : Lane) (g : Grant) (r : BadgeRead) (s : State) : (takeGrant l g r s).reply = s.reply := by
  simp only [takeGrant]; split <;> simp
@[simp] theorem takeGrant_pending (l : Lane) (g : Grant) (r : BadgeRead) (s : State) : (takeGrant l g r s).pending = s.pending := by
  simp only [takeGrant]; split <;> simp
@[simp] theorem takeGrant_running (l : Lane) (g : Grant) (r : BadgeRead) (s : State) : running (takeGrant l g r s) = running s := by
  simp [running]
@[simp] theorem takeGrant_clockMirror (l : Lane) (g : Grant) (r : BadgeRead) (s : State) :
    (takeGrant l g r s).control.clockMirror = s.control.clockMirror := by
  simp only [takeGrant]; split <;> simp
@[simp] theorem takeGrant_channels (l : Lane) (g : Grant) (r : BadgeRead) (s : State) :
    (takeGrant l g r s).control.channels = s.control.channels := by
  simp only [takeGrant]; split <;> simp
@[simp] theorem takeGrant_lastServed (l : Lane) (g : Grant) (r : BadgeRead) (s : State) :
    (takeGrant l g r s).control.lastServed = s.control.lastServed := by
  simp only [takeGrant]; split <;> simp
@[simp] theorem takeGrant_arbiter (l : Lane) (g : Grant) (r : BadgeRead) (s : State) :
    (takeGrant l g r s).control.arbiter = s.control.arbiter := by
  simp only [takeGrant]; split <;> simp
@[simp] theorem takeGrant_config (l : Lane) (g : Grant) (r : BadgeRead) (s : State) (m : Lane) :
    ((takeGrant l g r s).lane m).config = (s.lane m).config := by
  by_cases h : m = l
  · subst h; simp only [takeGrant]; split <;> simp [doorGrant]
  · simp only [takeGrant]; split <;> simp [h, doorGrant]
@[simp] theorem takeGrant_index (l : Lane) (g : Grant) (r : BadgeRead) (s : State) :
    (takeGrant l g r s).roster.index = s.roster.index := by
  simp only [takeGrant]; split <;> simp
@[simp] theorem takeGrant_census (l : Lane) (g : Grant) (r : BadgeRead) (s : State) :
    (takeGrant l g r s).roster.census = s.roster.census := by
  simp only [takeGrant]; split <;> simp
@[simp] theorem takeGrant_occupied (l : Lane) (g : Grant) (r : BadgeRead) (s : State) :
    (takeGrant l g r s).roster.occupied = s.roster.occupied := by
  simp only [takeGrant]; split <;> simp
@[simp] theorem takeGrant_lockdown (l : Lane) (g : Grant) (r : BadgeRead) (s : State) :
    (takeGrant l g r s).gate.lockdown = s.gate.lockdown := by
  simp only [takeGrant]; split <;> simp
@[simp] theorem takeGrant_emergency (l : Lane) (g : Grant) (r : BadgeRead) (s : State) :
    (takeGrant l g r s).gate.emergency = s.gate.emergency := by
  simp only [takeGrant]; split <;> simp
@[simp] theorem takeGrant_windowLength (l : Lane) (g : Grant) (r : BadgeRead) (s : State) :
    (takeGrant l g r s).gate.windowLength = s.gate.windowLength := by
  simp only [takeGrant]; split <;> simp
@[simp] theorem takeGrant_windowCountdown (l : Lane) (g : Grant) (r : BadgeRead) (s : State) :
    (takeGrant l g r s).gate.windowCountdown = s.gate.windowCountdown := by
  simp only [takeGrant]; split <;> simp

@[simp] theorem classifyFrame_time (l : Lane) (r : BadgeRead) (s : State) : (classifyFrame l r s).time = s.time := by
  simp only [classifyFrame]; split <;> simp
@[simp] theorem classifyFrame_pins (l : Lane) (r : BadgeRead) (s : State) : (classifyFrame l r s).pins = s.pins := by
  simp only [classifyFrame]; split <;> simp
@[simp] theorem classifyFrame_pay (l : Lane) (r : BadgeRead) (s : State) : (classifyFrame l r s).pay = s.pay := by
  simp only [classifyFrame]; split <;> simp
@[simp] theorem classifyFrame_bells (l : Lane) (r : BadgeRead) (s : State) : (classifyFrame l r s).bells = s.bells := by
  simp only [classifyFrame]; split <;> simp
@[simp] theorem classifyFrame_memory (l : Lane) (r : BadgeRead) (s : State) : (classifyFrame l r s).memory = s.memory := by
  simp only [classifyFrame]; split <;> simp
@[simp] theorem classifyFrame_link (l : Lane) (r : BadgeRead) (s : State) : (classifyFrame l r s).link = s.link := by
  simp only [classifyFrame]; split <;> simp
@[simp] theorem classifyFrame_freeCount (l : Lane) (r : BadgeRead) (s : State) : (classifyFrame l r s).freeCount = s.freeCount := by
  simp only [classifyFrame]; split <;> simp
@[simp] theorem classifyFrame_reply (l : Lane) (r : BadgeRead) (s : State) : (classifyFrame l r s).reply = s.reply := by
  simp only [classifyFrame]; split <;> simp
@[simp] theorem classifyFrame_pending (l : Lane) (r : BadgeRead) (s : State) : (classifyFrame l r s).pending = s.pending := by
  simp only [classifyFrame]; split <;> simp
@[simp] theorem classifyFrame_running (l : Lane) (r : BadgeRead) (s : State) : running (classifyFrame l r s) = running s := by
  simp [running]
@[simp] theorem classifyFrame_clockMirror (l : Lane) (r : BadgeRead) (s : State) :
    (classifyFrame l r s).control.clockMirror = s.control.clockMirror := by
  simp only [classifyFrame]; split <;> simp
@[simp] theorem classifyFrame_channels (l : Lane) (r : BadgeRead) (s : State) :
    (classifyFrame l r s).control.channels = s.control.channels := by
  simp only [classifyFrame]; split <;> simp
@[simp] theorem classifyFrame_lastServed (l : Lane) (r : BadgeRead) (s : State) :
    (classifyFrame l r s).control.lastServed = s.control.lastServed := by
  simp only [classifyFrame]; split <;> simp
@[simp] theorem classifyFrame_arbiter (l : Lane) (r : BadgeRead) (s : State) :
    (classifyFrame l r s).control.arbiter = s.control.arbiter := by
  simp only [classifyFrame]; split <;> simp
@[simp] theorem classifyFrame_config (l : Lane) (r : BadgeRead) (s : State) (m : Lane) :
    ((classifyFrame l r s).lane m).config = (s.lane m).config := by
  simp only [classifyFrame]; split <;> simp
@[simp] theorem classifyFrame_index (l : Lane) (r : BadgeRead) (s : State) :
    (classifyFrame l r s).roster.index = s.roster.index := by
  simp only [classifyFrame]; split <;> simp
@[simp] theorem classifyFrame_census (l : Lane) (r : BadgeRead) (s : State) :
    (classifyFrame l r s).roster.census = s.roster.census := by
  simp only [classifyFrame]; split <;> simp
@[simp] theorem classifyFrame_occupied (l : Lane) (r : BadgeRead) (s : State) :
    (classifyFrame l r s).roster.occupied = s.roster.occupied := by
  simp only [classifyFrame]; split <;> simp
@[simp] theorem classifyFrame_lockdown (l : Lane) (r : BadgeRead) (s : State) :
    (classifyFrame l r s).gate.lockdown = s.gate.lockdown := by
  simp only [classifyFrame]; split <;> simp
@[simp] theorem classifyFrame_emergency (l : Lane) (r : BadgeRead) (s : State) :
    (classifyFrame l r s).gate.emergency = s.gate.emergency := by
  simp only [classifyFrame]; split <;> simp
@[simp] theorem classifyFrame_windowLength (l : Lane) (r : BadgeRead) (s : State) :
    (classifyFrame l r s).gate.windowLength = s.gate.windowLength := by
  simp only [classifyFrame]; split <;> simp
@[simp] theorem classifyFrame_windowCountdown (l : Lane) (r : BadgeRead) (s : State) :
    (classifyFrame l r s).gate.windowCountdown = s.gate.windowCountdown := by
  simp only [classifyFrame]; split <;> simp

@[simp] theorem classifyWaiting_time (l : Lane) (s : State) : (classifyWaiting l s).time = s.time := by
  simp only [classifyWaiting]; split <;> simp
@[simp] theorem classifyWaiting_pins (l : Lane) (s : State) : (classifyWaiting l s).pins = s.pins := by
  simp only [classifyWaiting]; split <;> simp
@[simp] theorem classifyWaiting_pay (l : Lane) (s : State) : (classifyWaiting l s).pay = s.pay := by
  simp only [classifyWaiting]; split <;> simp
@[simp] theorem classifyWaiting_bells (l : Lane) (s : State) : (classifyWaiting l s).bells = s.bells := by
  simp only [classifyWaiting]; split <;> simp
@[simp] theorem classifyWaiting_memory (l : Lane) (s : State) : (classifyWaiting l s).memory = s.memory := by
  simp only [classifyWaiting]; split <;> simp
@[simp] theorem classifyWaiting_link (l : Lane) (s : State) : (classifyWaiting l s).link = s.link := by
  simp only [classifyWaiting]; split <;> simp
@[simp] theorem classifyWaiting_freeCount (l : Lane) (s : State) : (classifyWaiting l s).freeCount = s.freeCount := by
  simp only [classifyWaiting]; split <;> simp
@[simp] theorem classifyWaiting_reply (l : Lane) (s : State) : (classifyWaiting l s).reply = s.reply := by
  simp only [classifyWaiting]; split <;> simp
@[simp] theorem classifyWaiting_pending (l : Lane) (s : State) : (classifyWaiting l s).pending = s.pending := by
  simp only [classifyWaiting]; split <;> simp
@[simp] theorem classifyWaiting_running (l : Lane) (s : State) : running (classifyWaiting l s) = running s := by
  simp [running]
@[simp] theorem classifyWaiting_clockMirror (l : Lane) (s : State) :
    (classifyWaiting l s).control.clockMirror = s.control.clockMirror := by
  simp only [classifyWaiting]; split <;> simp
@[simp] theorem classifyWaiting_channels (l : Lane) (s : State) :
    (classifyWaiting l s).control.channels = s.control.channels := by
  simp only [classifyWaiting]; split <;> simp
@[simp] theorem classifyWaiting_lastServed (l : Lane) (s : State) :
    (classifyWaiting l s).control.lastServed = s.control.lastServed := by
  simp only [classifyWaiting]; split <;> simp
@[simp] theorem classifyWaiting_arbiter (l : Lane) (s : State) :
    (classifyWaiting l s).control.arbiter = s.control.arbiter := by
  simp only [classifyWaiting]; split <;> simp
@[simp] theorem classifyWaiting_config (l : Lane) (s : State) (m : Lane) :
    ((classifyWaiting l s).lane m).config = (s.lane m).config := by
  simp only [classifyWaiting]; split
  · by_cases h : m = l
    · subst h; simp
    · simp [h]
  · rfl
@[simp] theorem classifyWaiting_index (l : Lane) (s : State) :
    (classifyWaiting l s).roster.index = s.roster.index := by
  simp only [classifyWaiting]; split <;> simp
@[simp] theorem classifyWaiting_census (l : Lane) (s : State) :
    (classifyWaiting l s).roster.census = s.roster.census := by
  simp only [classifyWaiting]; split <;> simp
@[simp] theorem classifyWaiting_occupied (l : Lane) (s : State) :
    (classifyWaiting l s).roster.occupied = s.roster.occupied := by
  simp only [classifyWaiting]; split <;> simp
@[simp] theorem classifyWaiting_lockdown (l : Lane) (s : State) :
    (classifyWaiting l s).gate.lockdown = s.gate.lockdown := by
  simp only [classifyWaiting]; split <;> simp
@[simp] theorem classifyWaiting_emergency (l : Lane) (s : State) :
    (classifyWaiting l s).gate.emergency = s.gate.emergency := by
  simp only [classifyWaiting]; split <;> simp
@[simp] theorem classifyWaiting_windowLength (l : Lane) (s : State) :
    (classifyWaiting l s).gate.windowLength = s.gate.windowLength := by
  simp only [classifyWaiting]; split <;> simp
@[simp] theorem classifyWaiting_windowCountdown (l : Lane) (s : State) :
    (classifyWaiting l s).gate.windowCountdown = s.gate.windowCountdown := by
  simp only [classifyWaiting]; split <;> simp

@[simp] theorem reportPassage_time (l : Lane) (s : State) : (reportPassage l s).time = s.time := by
  simp only [reportPassage]; split <;> simp
@[simp] theorem reportPassage_pins (l : Lane) (s : State) : (reportPassage l s).pins = s.pins := by
  simp only [reportPassage]; split <;> simp
@[simp] theorem reportPassage_pay (l : Lane) (s : State) : (reportPassage l s).pay = s.pay := by
  simp only [reportPassage]; split <;> simp
@[simp] theorem reportPassage_bells (l : Lane) (s : State) : (reportPassage l s).bells = s.bells := by
  simp only [reportPassage]; split <;> simp
@[simp] theorem reportPassage_memory (l : Lane) (s : State) : (reportPassage l s).memory = s.memory := by
  simp only [reportPassage]; split <;> simp
@[simp] theorem reportPassage_link (l : Lane) (s : State) : (reportPassage l s).link = s.link := by
  simp only [reportPassage]; split <;> simp
@[simp] theorem reportPassage_freeCount (l : Lane) (s : State) : (reportPassage l s).freeCount = s.freeCount := by
  simp only [reportPassage]; split <;> simp
@[simp] theorem reportPassage_reply (l : Lane) (s : State) : (reportPassage l s).reply = s.reply := by
  simp only [reportPassage]; split <;> simp
@[simp] theorem reportPassage_pending (l : Lane) (s : State) : (reportPassage l s).pending = s.pending := by
  simp only [reportPassage]; split <;> simp
@[simp] theorem reportPassage_running (l : Lane) (s : State) : running (reportPassage l s) = running s := by
  simp [running]
@[simp] theorem reportPassage_clockMirror (l : Lane) (s : State) :
    (reportPassage l s).control.clockMirror = s.control.clockMirror := by
  simp only [reportPassage]; split <;> simp
@[simp] theorem reportPassage_channels (l : Lane) (s : State) :
    (reportPassage l s).control.channels = s.control.channels := by
  simp only [reportPassage]; split <;> simp
@[simp] theorem reportPassage_lastServed (l : Lane) (s : State) :
    (reportPassage l s).control.lastServed = s.control.lastServed := by
  simp only [reportPassage]; split <;> simp
@[simp] theorem reportPassage_arbiter (l : Lane) (s : State) :
    (reportPassage l s).control.arbiter = s.control.arbiter := by
  simp only [reportPassage]; split <;> simp
@[simp] theorem reportPassage_config (l : Lane) (s : State) (m : Lane) :
    ((reportPassage l s).lane m).config = (s.lane m).config := by
  simp only [reportPassage]; split <;> simp
@[simp] theorem reportPassage_index (l : Lane) (s : State) :
    (reportPassage l s).roster.index = s.roster.index := by
  simp only [reportPassage]; split <;> simp
@[simp] theorem reportPassage_census (l : Lane) (s : State) :
    (reportPassage l s).roster.census = s.roster.census := by
  simp only [reportPassage]; split <;> simp
@[simp] theorem reportPassage_occupied (l : Lane) (s : State) :
    (reportPassage l s).roster.occupied = s.roster.occupied := by
  simp only [reportPassage]; split <;> simp
@[simp] theorem reportPassage_lockdown (l : Lane) (s : State) :
    (reportPassage l s).gate.lockdown = s.gate.lockdown := by
  simp only [reportPassage]; split <;> simp
@[simp] theorem reportPassage_emergency (l : Lane) (s : State) :
    (reportPassage l s).gate.emergency = s.gate.emergency := by
  simp only [reportPassage]; split <;> simp
@[simp] theorem reportPassage_windowLength (l : Lane) (s : State) :
    (reportPassage l s).gate.windowLength = s.gate.windowLength := by
  simp only [reportPassage]; split <;> simp
@[simp] theorem reportPassage_windowCountdown (l : Lane) (s : State) :
    (reportPassage l s).gate.windowCountdown = s.gate.windowCountdown := by
  simp only [reportPassage]; split <;> simp

@[simp] theorem reportLapse_time (l : Lane) (s : State) : (reportLapse l s).time = s.time := by
  simp only [reportLapse]; split <;> simp
@[simp] theorem reportLapse_pins (l : Lane) (s : State) : (reportLapse l s).pins = s.pins := by
  simp only [reportLapse]; split <;> simp
@[simp] theorem reportLapse_pay (l : Lane) (s : State) : (reportLapse l s).pay = s.pay := by
  simp only [reportLapse]; split <;> simp
@[simp] theorem reportLapse_bells (l : Lane) (s : State) : (reportLapse l s).bells = s.bells := by
  simp only [reportLapse]; split <;> simp
@[simp] theorem reportLapse_memory (l : Lane) (s : State) : (reportLapse l s).memory = s.memory := by
  simp only [reportLapse]; split <;> simp
@[simp] theorem reportLapse_link (l : Lane) (s : State) : (reportLapse l s).link = s.link := by
  simp only [reportLapse]; split <;> simp
@[simp] theorem reportLapse_freeCount (l : Lane) (s : State) : (reportLapse l s).freeCount = s.freeCount := by
  simp only [reportLapse]; split <;> simp
@[simp] theorem reportLapse_reply (l : Lane) (s : State) : (reportLapse l s).reply = s.reply := by
  simp only [reportLapse]; split <;> simp
@[simp] theorem reportLapse_pending (l : Lane) (s : State) : (reportLapse l s).pending = s.pending := by
  simp only [reportLapse]; split <;> simp
@[simp] theorem reportLapse_running (l : Lane) (s : State) : running (reportLapse l s) = running s := by
  simp [running]
@[simp] theorem reportLapse_clockMirror (l : Lane) (s : State) :
    (reportLapse l s).control.clockMirror = s.control.clockMirror := by
  simp only [reportLapse]; split <;> simp
@[simp] theorem reportLapse_channels (l : Lane) (s : State) :
    (reportLapse l s).control.channels = s.control.channels := by
  simp only [reportLapse]; split <;> simp
@[simp] theorem reportLapse_lastServed (l : Lane) (s : State) :
    (reportLapse l s).control.lastServed = s.control.lastServed := by
  simp only [reportLapse]; split <;> simp
@[simp] theorem reportLapse_arbiter (l : Lane) (s : State) :
    (reportLapse l s).control.arbiter = s.control.arbiter := by
  simp only [reportLapse]; split <;> simp
@[simp] theorem reportLapse_config (l : Lane) (s : State) (m : Lane) :
    ((reportLapse l s).lane m).config = (s.lane m).config := by
  simp only [reportLapse]; split <;> simp
@[simp] theorem reportLapse_index (l : Lane) (s : State) :
    (reportLapse l s).roster.index = s.roster.index := by
  simp only [reportLapse]; split <;> simp
@[simp] theorem reportLapse_census (l : Lane) (s : State) :
    (reportLapse l s).roster.census = s.roster.census := by
  simp only [reportLapse]; split <;> simp
@[simp] theorem reportLapse_occupied (l : Lane) (s : State) :
    (reportLapse l s).roster.occupied = s.roster.occupied := by
  simp only [reportLapse]; split <;> simp
@[simp] theorem reportLapse_lockdown (l : Lane) (s : State) :
    (reportLapse l s).gate.lockdown = s.gate.lockdown := by
  simp only [reportLapse]; split <;> simp
@[simp] theorem reportLapse_emergency (l : Lane) (s : State) :
    (reportLapse l s).gate.emergency = s.gate.emergency := by
  simp only [reportLapse]; split <;> simp
@[simp] theorem reportLapse_windowLength (l : Lane) (s : State) :
    (reportLapse l s).gate.windowLength = s.gate.windowLength := by
  simp only [reportLapse]; split <;> simp
@[simp] theorem reportLapse_windowCountdown (l : Lane) (s : State) :
    (reportLapse l s).gate.windowCountdown = s.gate.windowCountdown := by
  simp only [reportLapse]; split <;> simp

@[simp] theorem emergencyLapse_time (l : Lane) (s : State) : (emergencyLapse l s).time = s.time := by
  simp only [emergencyLapse]; split <;> simp
@[simp] theorem emergencyLapse_pins (l : Lane) (s : State) : (emergencyLapse l s).pins = s.pins := by
  simp only [emergencyLapse]; split <;> simp
@[simp] theorem emergencyLapse_gate (l : Lane) (s : State) : (emergencyLapse l s).gate = s.gate := by
  simp only [emergencyLapse]; split <;> simp
@[simp] theorem emergencyLapse_pay (l : Lane) (s : State) : (emergencyLapse l s).pay = s.pay := by
  simp only [emergencyLapse]; split <;> simp
@[simp] theorem emergencyLapse_attendance (l : Lane) (s : State) : (emergencyLapse l s).attendance = s.attendance := by
  simp only [emergencyLapse]; split <;> simp
@[simp] theorem emergencyLapse_bells (l : Lane) (s : State) : (emergencyLapse l s).bells = s.bells := by
  simp only [emergencyLapse]; split <;> simp
@[simp] theorem emergencyLapse_memory (l : Lane) (s : State) : (emergencyLapse l s).memory = s.memory := by
  simp only [emergencyLapse]; split <;> simp
@[simp] theorem emergencyLapse_link (l : Lane) (s : State) : (emergencyLapse l s).link = s.link := by
  simp only [emergencyLapse]; split <;> simp
@[simp] theorem emergencyLapse_freeCount (l : Lane) (s : State) : (emergencyLapse l s).freeCount = s.freeCount := by
  simp only [emergencyLapse]; split <;> simp
@[simp] theorem emergencyLapse_reply (l : Lane) (s : State) : (emergencyLapse l s).reply = s.reply := by
  simp only [emergencyLapse]; split <;> simp
@[simp] theorem emergencyLapse_pending (l : Lane) (s : State) : (emergencyLapse l s).pending = s.pending := by
  simp only [emergencyLapse]; split <;> simp
@[simp] theorem emergencyLapse_running (l : Lane) (s : State) : running (emergencyLapse l s) = running s := by
  simp [running]
@[simp] theorem emergencyLapse_doorAt (l : Lane) (s : State) (i : Lane) : (emergencyLapse l s).door i = s.door i := by
  simp [State.door]
@[simp] theorem emergencyLapse_clockMirror (l : Lane) (s : State) :
    (emergencyLapse l s).control.clockMirror = s.control.clockMirror := by
  simp only [emergencyLapse]; split <;> simp
@[simp] theorem emergencyLapse_channels (l : Lane) (s : State) :
    (emergencyLapse l s).control.channels = s.control.channels := by
  simp only [emergencyLapse]; split <;> simp
@[simp] theorem emergencyLapse_lastServed (l : Lane) (s : State) :
    (emergencyLapse l s).control.lastServed = s.control.lastServed := by
  simp only [emergencyLapse]; split <;> simp
@[simp] theorem emergencyLapse_arbiter (l : Lane) (s : State) :
    (emergencyLapse l s).control.arbiter = s.control.arbiter := by
  simp only [emergencyLapse]; split <;> simp
@[simp] theorem emergencyLapse_presentMirror (l : Lane) (s : State) :
    (emergencyLapse l s).control.presentMirror = s.control.presentMirror := by
  simp only [emergencyLapse]; split <;> simp
@[simp] theorem emergencyLapse_config (l : Lane) (s : State) (m : Lane) :
    ((emergencyLapse l s).lane m).config = (s.lane m).config := by
  simp only [emergencyLapse]; by_cases h : m = l
  · subst h; split <;> simp
  · split <;> simp [h]
@[simp] theorem emergencyLapse_index (l : Lane) (s : State) :
    (emergencyLapse l s).roster.index = s.roster.index := by
  simp only [emergencyLapse]; split <;> simp
@[simp] theorem emergencyLapse_census (l : Lane) (s : State) :
    (emergencyLapse l s).roster.census = s.roster.census := by
  simp only [emergencyLapse]; split <;> simp
@[simp] theorem emergencyLapse_occupied (l : Lane) (s : State) :
    (emergencyLapse l s).roster.occupied = s.roster.occupied := by
  simp only [emergencyLapse]; split <;> simp

end Sys2Proof.Machine
end

