-- ==== Sys2Proof/Laws/Journal.lean ====
section
/-! SUPPORT. Appending an entry reads the time base, the journal and the two ports only. -/

namespace Sys2Proof.Machine

/-- Two states alike in what an append reads. -/
structure SameLog (s t : State) : Prop where
  time : t.time = s.time
  journal : t.journal = s.journal
  bus : t.control.bus = s.control.bus
  link : t.control.link = s.control.link

theorem SameLog.examineHigh {s t : State} (h : SameLog s t) (p : Port) : SameLog (examineHigh p s) (examineHigh p t) := by
  have hj := h.journal; have ht := h.time; have hb := h.bus; have hl := h.link
  unfold Machine.examineHigh
  rw [hj]
  split
  · cases p <;> constructor <;>
      simp [raiseCause, notice, State.setPortState, State.portState, State.setControl, State.setJournal, hb, hl, ht]
  · exact h

/-- An append gives alike states alike results in what it writes. -/
theorem SameLog.appendEntry {s t : State} (h : SameLog s t) (b : EntryBody) : SameLog (appendEntry b s) (appendEntry b t) := by
  have hj := h.journal; have ht := h.time
  have h1 : SameLog (s.setJournal (s.journal.append s.time.clock b)) (t.setJournal (t.journal.append t.time.clock b)) := by
    constructor <;> simp [hj, ht, h.bus, h.link]
  have hr : running t = running s := by simp only [running, ht]
  unfold Machine.appendEntry
  simp only [hr, ht, hj] at h1 ⊢
  cases hc : s.journal.stores b && running s
  · exact h1
  · exact (h1.examineHigh .bus).examineHigh .link

theorem examineHigh_control (p : Port) (s : State) :
    (examineHigh p s).control =
      { s.control with bus := (examineHigh p s).control.bus, link := (examineHigh p s).control.link } := by
  unfold examineHigh
  split
  · cases p <;> rfl
  · rfl

/-- An append leaves the control page's other items alone. -/
theorem appendEntry_control (b : EntryBody) (s : State) :
    (appendEntry b s).control =
      { s.control with bus := (appendEntry b s).control.bus, link := (appendEntry b s).control.link } := by
  unfold appendEntry
  simp only []
  split
  · unfold examineBoth
    rw [examineHigh_control .link, examineHigh_control .bus]; rfl
  · rfl

/-- The control page after an append in a state alike. -/
theorem SameLog.appendEntry_control {s t : State} (h : SameLog s t) (b : EntryBody) :
    (Machine.appendEntry b t).control =
      { t.control with bus := (Machine.appendEntry b s).control.bus, link := (Machine.appendEntry b s).control.link } := by
  rw [Machine.appendEntry_control, (h.appendEntry b).bus, (h.appendEntry b).link]

/-- An append's whole result in a state alike. -/
theorem SameLog.appendEntry_eq {s t : State} (h : SameLog s t) (b : EntryBody) :
    Machine.appendEntry b t =
      { t with
        journal := (Machine.appendEntry b s).journal
        control :=
          { t.control with
            bus := (Machine.appendEntry b s).control.bus, link := (Machine.appendEntry b s).control.link } } := by
  ext1 <;> simp
  · exact (h.appendEntry b).journal
  · exact h.appendEntry_control b

/-- An append's whole result where time base, journal and control page are the same. -/
theorem appendEntry_of_same (s t : State) (h1 : t.time = s.time) (h2 : t.journal = s.journal) (h3 : t.control = s.control)
    (b : EntryBody) :
    Machine.appendEntry b t =
      { t with journal := (Machine.appendEntry b s).journal, control := (Machine.appendEntry b s).control } := by
  have h : SameLog s t := ⟨h1, h2, by rw [h3], by rw [h3]⟩
  rw [h.appendEntry_eq b, h3, ← Machine.appendEntry_control]

end Sys2Proof.Machine
end

