-- ==== Sys2Proof/Laws/Roster.lean ====
section
/-! SUPPORT. The roster's records, index and lookup (R22–R25): one lemma for each shared operation. -/

namespace Sys2Proof.Machine

/-! ## Records by slot -/

theorem recordAt_map (rs : List (Slot × Record)) (a b : Slot) (f : Record → Record) :
    recordAt (rs.map (fun p => if p.1 = a then (p.1, f p.2) else p)) b =
      if b = a then (recordAt rs b).map f else recordAt rs b := by
  induction rs with
  | nil => simp [recordAt]
  | cons p rs ih =>
    obtain ⟨c, r⟩ := p
    simp only [List.map_cons]
    by_cases hc : c = a <;> by_cases hb : b = c <;> simp_all [recordAt]

/-- What `modifyRecord` does to any slot's record. -/
theorem record_modifyRecord (s : State) (a b : Slot) (f : Record → Record) :
    (s.modifyRecord a f).record b = if b = a then (s.record b).map f else s.record b :=
  recordAt_map s.roster.records a b f

@[simp] theorem record_modifyRecord_self (s : State) (a : Slot) (f : Record → Record) :
    (s.modifyRecord a f).record a = (s.record a).map f := by simp [record_modifyRecord]

theorem record_modifyRecord_ne (s : State) {a b : Slot} (f : Record → Record) (h : b ≠ a) :
    (s.modifyRecord a f).record b = s.record b := by simp [record_modifyRecord, h]

/-- What `modifyAllRecords` does to any slot's record. -/
@[simp] theorem record_modifyAllRecords (s : State) (a : Slot) (f : Record → Record) :
    (s.modifyAllRecords f).record a = (s.record a).map f := by
  simp only [State.modifyAllRecords, State.record, State.setRoster]
  induction s.roster.records with
  | nil => rfl
  | cons p rs ih => obtain ⟨c, r⟩ := p; by_cases h : a = c <;> simp_all [recordAt]

theorem mem_of_recordAt {rs : List (Slot × Record)} {a : Slot} {r : Record} (h : recordAt rs a = some r) : (a, r) ∈ rs := by
  induction rs with
  | nil => simp [recordAt] at h
  | cons p rs ih =>
    obtain ⟨c, q⟩ := p
    by_cases hc : a = c
    · simp_all [recordAt]
    · simp only [recordAt, hc, if_false] at h; exact List.mem_cons_of_mem _ (ih h)

theorem recordAt_of_mem {rs : List (Slot × Record)} {a : Slot} {r : Record} (hs : rs.Pairwise (fun p q => p.1 < q.1))
    (h : (a, r) ∈ rs) : recordAt rs a = some r := by
  induction rs with
  | nil => simp at h
  | cons p rs ih =>
    obtain ⟨c, q⟩ := p
    simp only [List.pairwise_cons] at hs
    rcases List.mem_cons.mp h with h1 | h1
    · cases h1; simp [recordAt]
    · have := hs.1 _ h1
      simp only [recordAt]
      rw [if_neg (by intro e; simp [e] at this)]
      exact ih hs.2 h1

/-! ## Lookup -/

theorem Key.rank_inj {k m : Key} (h : k.rank = m.rank) : k = m := by
  obtain ⟨s, n⟩ := k; obtain ⟨s', n'⟩ := m
  simp only [Key.rank] at h
  have h1 := n.isLt; have h2 := n'.isLt
  have e1 : s = s' := BitVec.eq_of_toNat_eq (by omega)
  have e2 : n = n' := BitVec.eq_of_toNat_eq (by omega)
  rw [e1, e2]

theorem inj_of_apart {l : List IndexEntry} (hp : l.Pairwise (fun x y => x.key ≠ y.key)) {x y : IndexEntry} (hx : x ∈ l)
    (hy : y ∈ l) (hk : x.key = y.key) : x = y := by
  induction l with
  | nil => simp at hx
  | cons z l ih =>
    simp only [List.pairwise_cons] at hp
    rcases List.mem_cons.mp hx with rfl | h1 <;> rcases List.mem_cons.mp hy with h2 | h2
    · exact h2.symm
    · exact absurd hk (hp.1 _ h2)
    · subst h2; exact absurd hk.symm (hp.1 _ h1)
    · exact ih hp.2 h1 h2

/-- Two index entries of one key are one entry. -/
theorem RosterLaw.index_unique {r : Roster} (h : RosterLaw r) {x y : IndexEntry} (hx : x ∈ r.index) (hy : y ∈ r.index)
    (hk : x.key = y.key) : x = y := by
  have hp : r.index.Pairwise (fun x y => x.key ≠ y.key) :=
    h.keys.imp (fun hlt he => by rw [he] at hlt; exact Nat.lt_irrefl _ hlt)
  exact inj_of_apart hp hx hy hk

/-- The lookup of a record's key finds its slot (R24). -/
theorem lookup_found {r : Roster} (h : RosterLaw r) {a : Slot} {rec : Record} (ha : recordAt r.records a = some rec) :
    lookup r rec.key = .found a := by
  have hm := h.indexed a rec (mem_of_recordAt ha)
  unfold lookup
  cases hf : r.index.find? (fun e => decide (e.key = rec.key)) with
  | none => exact absurd (List.find?_eq_none.mp hf _ hm) (by simp)
  | some e =>
    have hk : e.key = rec.key := by simpa using List.find?_some hf
    have := h.index_unique (List.mem_of_find?_eq_some hf) hm (by simp [hk])
    simp [this]

/-- The lookup of a key that no index entry bears finds nothing, and tells an absent site from an absent number (R24, R25). -/
theorem lookup_absent {r : Roster} {k : Key} (h : ∀ e ∈ r.index, e.key ≠ k) :
    lookup r k = if vget r.census (siteNumber k) = 0 then .siteAbsent else .numberAbsent := by
  unfold lookup
  rw [List.find?_eq_none.mpr (by simpa using h)]

end Sys2Proof.Machine
end

