-- ==== Sys2Proof/Laws/Lanes.lean ====
section
/-! SUPPORT. What each shared operation of the reader lanes can do, said once (R47–R57). -/

namespace Sys2Proof.Machine

theorem lane_setLane (s : State) (l m : Lane) (v : LaneState) : (s.setLane l v).lane m = if m = l then v else s.lane m := by
  by_cases h : m = l
  · subst h; simp
  · simp [h]

theorem door_setDoor (s : State) (l m : Lane) (v : Door) : (s.setDoor l v).door m = if m = l then v else s.door m := by
  by_cases h : m = l
  · subst h; simp
  · simp [h]

@[simp] theorem record_setLane (s : State) (l : Lane) (v : LaneState) (a : Slot) : (s.setLane l v).record a = s.record a := rfl
@[simp] theorem record_setDoor (s : State) (l : Lane) (v : Door) (a : Slot) : (s.setDoor l v).record a = s.record a := rfl
@[simp] theorem lane_modifyRecord (s : State) (a : Slot) (f : Record → Record) (l : Lane) :
    (s.modifyRecord a f).lane l = s.lane l := rfl
@[simp] theorem door_modifyRecord (s : State) (a : Slot) (f : Record → Record) (l : Lane) :
    (s.modifyRecord a f).door l = s.door l := rfl
@[simp] theorem lane_setDoor (s : State) (l m : Lane) (v : Door) : (s.setDoor l v).lane m = s.lane m := rfl
@[simp] theorem door_setLane (s : State) (l m : Lane) (v : LaneState) : (s.setLane l v).door m = s.door m := rfl
@[simp] theorem lane_appendEntry (b : EntryBody) (s : State) (l : Lane) : (appendEntry b s).lane l = s.lane l := by
  simp [State.lane]
@[simp] theorem door_appendEntry (b : EntryBody) (s : State) (l : Lane) : (appendEntry b s).door l = s.door l := by
  simp [State.door]
@[simp] theorem record_appendEntry (b : EntryBody) (s : State) (a : Slot) : (appendEntry b s).record a = s.record a := by
  simp [State.record]

/-- The lane's own assembly, lamp and context have no part in a decision. -/
theorem recordDecision_setLane (s : State) (l : Lane) (v : LaneState) (hv : v.config = (s.lane l).config) (a : Slot) (r : Record)
    (read : BadgeRead) : recordDecision (s.setLane l v) l a r read = recordDecision s l a r read := by
  unfold recordDecision
  rw [show ((s.setLane l v).lane l).config = (s.lane l).config by simp [hv]]
  rfl

/-- The lane takes a decision. -/
def takeDecision (l : Lane) (read : BadgeRead) (s : State) : Decision → State
  | .refuse slot reason => refuseFrame l read slot reason s
  | .muster a => takeMuster l read a s
  | .grant g => takeGrant l g read s

/-- The state of the lane after its assembly was emptied. -/
def LaneState.emptied (v : LaneState) : LaneState := { v with bits := [], gap := 0 }

/-- A valid frame of a record's key at a lane with an empty context: checks 3 to 13 decide, and the lane takes the outcome. -/
theorem gapFrame_decided {s : State} {l : Lane} {a : Slot} {r : Record} (hr : running s = true)
    (hd : (s.lane l).config.mode ≠ .disabled) (hv : frameValid (s.lane l).bits = true) (hp : (s.lane l).pending = none)
    (hL : RosterLaw s.roster) (ha : s.record a = some r) (hk : (frameBadge (s.lane l).bits).key = r.key) :
    exec (.frameArrival l .gap) s = .next
      (takeDecision l ⟨frameBadge (s.lane l).bits, s.time.clock, s.time.clockUnset⟩ (s.setLane l (s.lane l).emptied)
        (recordDecision s l a r ⟨frameBadge (s.lane l).bits, s.time.clock, s.time.clockUnset⟩)) := by
  have hb : (s.lane l).bits ≠ [] := by intro h; simp [h, frameValid] at hv
  have hlk := lookup_found hL ha
  have h1 : exec (.frameArrival l .gap) s = .next
      (classifyFrame l ⟨frameBadge (s.lane l).bits, s.time.clock, s.time.clockUnset⟩ (s.setLane l (s.lane l).emptied)) := by
    simp [exec, execFrameArrival, frameArrival, gapExpiry, takesBits, hr, hd, hb, endFrame, hv, arriveValid, hp, LaneState.emptied]
  rw [h1]
  congr 1
  have h2 : classify (s.setLane l (s.lane l).emptied) l ⟨frameBadge (s.lane l).bits, s.time.clock, s.time.clockUnset⟩ =
      recordDecision s l a r ⟨frameBadge (s.lane l).bits, s.time.clock, s.time.clockUnset⟩ := by
    rw [← recordDecision_setLane s l (s.lane l).emptied rfl]
    unfold classify
    rw [show (s.setLane l (s.lane l).emptied).roster = s.roster from rfl, hk, hlk]
    simp [ha]
  unfold classifyFrame
  rw [h2]
  cases recordDecision s l a r ⟨frameBadge (s.lane l).bits, s.time.clock, s.time.clockUnset⟩ <;> rfl

end Sys2Proof.Machine
end

