-- ==== Sys2Proof/Laws/Commands.lean ====
section
/-! SUPPORT. Running a command from its own row, its operands and its buffer: one lemma for each shared operation. -/

namespace Sys2Proof.Machine

/-! ## runDirect -/

/-- With the channels open a command without an output buffer leaves its own state and its reply. -/
theorem runDirect_open {s : State} (h : engineOpen s = true) (cmd : State → State × Reply) :
    runDirect none cmd s = (cmd s).1.answering (cmd s).2 := by
  simp [runDirect, h, State.answering, State.setReply]

/-- With the channels open a command with a buffer also writes its output there. -/
theorem runDirect_buffer {s : State} (h : engineOpen s = true) (b : Buffer) (cmd : State → State × Reply) :
    runDirect (some b) cmd s = (cmd s).1.writing b (cmd s).2 := by
  simp [runDirect, h, State.writing, State.setReply, State.setMemory]

/-- With the channels shut no command is carried out. -/
theorem runDirect_shut {s : State} (h : engineOpen s = false) (b : Option Buffer) (cmd : State → State × Reply) :
    runDirect b cmd s = s := by
  simp [runDirect, h]

/-! ## Operand words -/

theorem word_toNat {n : Nat} (h : n < 65536) : (word n).toNat = n := by
  simp only [word, BitVec.toNat_ofNat]; omega

@[simp] theorem finOf_word {n : Nat} [NeZero n] (i : Fin n) (h : n ≤ 65536) : finOf n (word i.val) = i := by
  have : (word i.val).toNat = i.val := word_toNat (by omega)
  simp only [finOf, this]
  exact Fin.ext (Nat.mod_eq_of_lt i.isLt)

@[simp] theorem finOf_lane (l : Lane) : finOf 4 (word l.val) = l := finOf_word l (by decide)
@[simp] theorem lane_toNat (l : Lane) : (word l.val).toNat = l.val := word_toNat (by omega)
@[simp] theorem slot_toNat (a : Slot) : (word a.val).toNat = a.val := word_toNat (by omega)
@[simp] theorem finOf_slot (a : Slot) : finOf 2048 (word a.val) = a := finOf_word a (by decide)

theorem firstBad_none {marks : List Bool} : firstBad marks = none ↔ ∀ m ∈ marks, m = false := by
  simp [firstBad]

/-- The marks of the operands name the first one out of range. -/
theorem firstBad_of_firstOut {ps : List Prop} {marks : List Bool} (h : List.Forall₂ (fun p m => p ↔ m = false) ps marks) {n : Nat}
    (hn : firstOut ps n) : firstBad marks = some n := by
  induction h generalizing n with
  | nil => obtain ⟨⟨p, hp, -⟩, -⟩ := hn; simp at hp
  | @cons p m ps marks hpm _ ih =>
    obtain ⟨⟨q, hq, hf⟩, hb⟩ := hn
    cases n with
    | zero =>
      obtain rfl : p = q := by simpa using hq
      have : m = true := by simpa using mt hpm.mpr hf
      simp [firstBad, this, List.findIdx?_cons]
    | succ n =>
      have hm : m = false := hpm.mp (hb 0 (Nat.succ_pos n) p rfl)
      have := ih ⟨⟨q, by simpa using hq, hf⟩, fun k hk r hr => hb (k + 1) (by omega) r (by simpa using hr)⟩
      simp only [firstBad] at this ⊢
      simp [List.findIdx?_cons, hm, this]

/-- A lane operand is in range. -/
@[simp] theorem firstBad_lane (l : Lane) : firstBad [decide (3 < l.val)] = none := by
  rw [firstBad_none]
  simp only [List.mem_singleton, forall_eq, decide_eq_false_iff_not]
  omega

/-- A buffer check passes exactly when the buffer fits. -/
theorem checkBuffer_none (b : Buffer) (n : Nat) : checkBuffer b n = none ↔ bufferFits b n := by
  simp only [checkBuffer, bufferStarts, bufferFits, bufferRoom, Config.firstPageWord, Config.exchangeWords]
  by_cases h1 : 0x100 ≤ b.addr.toNat <;> by_cases h2 : b.addr.toNat < 0x2000 <;> by_cases h3 : n ≤ min b.len.toNat 256 <;>
    simp [h1, h2]

/-- A buffer check fails with the refusal of the buffer. -/
theorem checkBuffer_some (b : Buffer) (n : Nat) (r : Response) : checkBuffer b n = some r ↔ bufferRefused b n r := by
  simp only [checkBuffer, bufferStarts, bufferRefused, bufferRoom, Config.firstPageWord, Config.exchangeWords]
  by_cases h1 : 0x100 ≤ b.addr.toNat <;> by_cases h2 : b.addr.toNat < 0x2000 <;> by_cases h3 : min b.len.toNat 256 < n <;>
    simp [h1, h2, h3, eq_comm]

/-! ## Bells -/

theorem Bells.takes_iff (b : Bells) (z : Zone) (n : PatternNumber) : b.takes z n = true ↔ b.accepts z n := by
  unfold Bells.takes Bells.accepts Pattern.silent
  cases vget b.zones z <;> simp [and_assoc]

/-- One request at a zone. -/
theorem Bells.request_zone (b : Bells) (z y : Zone) (n : PatternNumber) (src : ZoneSource) :
    vget (b.request z n src).zones y = if y = z ∧ b.takes z n = true then some (b.started n src) else vget b.zones y := by
  unfold Bells.request
  by_cases h : b.takes z n = true
  · rw [if_pos h]; by_cases hy : y = z
    · subst hy; simp [h, startPlaying, Bells.started]
    · simp [hy]
  · simp [h]

theorem Bells.request_rest (b : Bells) (z : Zone) (n : PatternNumber) (src : ZoneSource) :
    b.request z n src = { b with zones := (b.request z n src).zones } := by
  unfold Bells.request; split <;> rfl

theorem Bells.requests_zones (zs : List Zone) (hz : zs.Nodup) (b : Bells) (n : PatternNumber) (src : ZoneSource) :
    (zs.foldl (fun acc z => acc.request z n src) b =
        { b with zones := (zs.foldl (fun acc z => acc.request z n src) b).zones }) ∧
      ∀ y, vget (zs.foldl (fun acc z => acc.request z n src) b).zones y =
        if y ∈ zs ∧ b.takes y n = true then some (b.started n src) else vget b.zones y := by
  induction zs generalizing b with
  | nil => simp
  | cons z zs ih =>
    simp only [List.nodup_cons] at hz
    obtain ⟨h1, h2⟩ := ih hz.2 (b.request z n src)
    have hr := b.request_rest z n src
    have hf := Bells.foldl_request (z :: zs) n src b
    refine ⟨Bells.ext hf.1 hf.2.1 hf.2.2.1 hf.2.2.2 rfl, fun y => ?_⟩
    have hs : (b.request z n src).started n src = b.started n src := by rw [hr]; rfl
    rw [List.foldl_cons, h2 y, hs]
    by_cases hy : y = z
    · subst hy; simp [hz.1, Bells.request_zone]
    · have ht : (b.request z n src).takes y n = b.takes y n := by
        unfold Bells.takes
        rw [Bells.request_zone]
        simp [hy]
      simp [hy, ht, Bells.request_zone]

/-- A request at every zone of a mask. -/
theorem Bells.requestAll_spec (b : Bells) (mask : BitVec 8) (n : PatternNumber) (src : ZoneSource) :
    requested mask n src b (b.requestAll mask n src) := by
  have hz : (zonesOf mask).Nodup := (List.nodup_finRange 8).filter _
  obtain ⟨h1, h2⟩ := Bells.requests_zones (zonesOf mask) hz b n src
  refine ⟨h1, fun z => ?_⟩
  have hm : z ∈ zonesOf mask ↔ mask.getLsbD z.val = true := by simp [zonesOf, allZones]
  have hz2 := h2 z
  simp only [hm] at hz2
  rw [← Bells.takes_iff]
  refine ⟨fun a c => ?_, fun a => ?_⟩
  · rw [Bells.requestAll, hz2, if_pos ⟨a, c⟩]
  · rw [Bells.requestAll, hz2, if_neg a]

/-- Zones stopped under a condition. -/
theorem Bells.silenceWhere_spec (b : Bells) (stop : Zone → Playing → Bool) :
    stopped (fun z q => stop z q = true) b (b.silenceWhere stop) := by
  refine ⟨rfl, fun z => ⟨fun q h hs => ?_, fun h => ?_⟩⟩
  · simp [Bells.silenceWhere, vget_vmap, Option.mem_def.mp h, hs]
  · simp only [Bells.silenceWhere, vget_vmap]
    cases hz : vget b.zones z with
    | none => rfl
    | some q => simp [h q hz]

end Sys2Proof.Machine
end

