-- ==== Sys2Proof/Laws/Lines.lean ====
section
/-! SUPPORT. The levels of the pins (R186): the rows that a change of the input pins brings leave State with what the new levels read. -/

namespace Sys2Proof.Machine

/-! ## What each line's rows are -/

/-- An assertion is a change from high to low or to an open circuit; a release is the way back. -/
theorem emergencyRows_eq (a b : PinLevel) :
    emergencyRows a b =
      if a = .high ∧ b ≠ .high then [.emergencyAssert] else if a ≠ .high ∧ b = .high then [.emergencyRelease] else [] := by
  cases a <;> cases b <;> decide

/-- An open circuit at the reset line is a released line. -/
theorem resetRows_eq (a b : PinLevel) : resetRows a b = if a ≠ .low ∧ b = .low then [.resetAssert] else [] := by
  cases a <;> cases b <;> decide

/-- A falling reader clock with its data line low is the bit 1. -/
theorem readerRows_fall (l : Lane) (bit : Bool) :
    readerRows l .high .low (if bit then .low else .high) = [.readerClockPulse l bit] := by
  cases bit <;> rfl

/-- A pin whose level does not change brings no row. -/
theorem rows_of_no_change (l : Lane) (x data : PinLevel) :
    emergencyRows x x = [] ∧ resetRows x x = [] ∧ readerRows l x x data = [] ∧ passageRows l x x = [] ∧ contactRows l x x = [] := by
  refine ⟨by cases x <;> rfl, by cases x <;> rfl, by simp [readerRows, falls], by simp [passageRows, falls], ?_⟩
  unfold contactRows
  cases showsOpen l x <;> rfl

/-- No output sinks current in BATTERY-HOLD, and no attention line is driven. -/
theorem outputs_released {s : State} (h : s.time.power ≠ .mainsRun) (o : OutputPin) (p : Port) (r : State) :
    o.sinks s = false ∧ attentionLows p r s = 0 := by
  simp [OutputPin.sinks, attentionLows, h]

/-! ## The input levels that State holds -/

theorem foldl_pins {α : Type} (f : State → α → State) (h : ∀ s x, (f s x).pins = s.pins) (xs : List α) (s : State) :
    (xs.foldl f s).pins = s.pins := by
  induction xs generalizing s with
  | nil => rfl
  | cons x xs ih => rw [List.foldl_cons, ih, h]

theorem emergencyFree_pins (l : Lane) (s : State) : (emergencyFree l s).pins = s.pins := by
  unfold emergencyFree; split <;> simp

theorem emergencyReturn_pins (l : Lane) (s : State) : (emergencyReturn l s).pins = s.pins := by
  unfold emergencyReturn
  simp only
  repeat' split
  all_goals simp

theorem lineAsserts_pins (s : State) : (lineAsserts s).pins = { s.pins with emergencyLine := true } := by
  unfold lineAsserts assertEmergency
  simp only
  split
  · simp [foldl_pins _ (fun s l => emergencyFree_pins l s), foldl_pins _ (fun s l => emergencyLapse_pins l s)]
  · simp

theorem lineReleases_pins (s : State) : (lineReleases s).pins = { s.pins with emergencyLine := false } := by
  unfold lineReleases releaseEmergency
  simp only
  split
  · simp [foldl_pins _ (fun s l => emergencyReturn_pins l s)]
  · simp

theorem lapseRecord_pins (k : StartKind) (s : State) (p : Slot × Record) : (lapseRecord k s p).pins = s.pins := by
  unfold lapseRecord; split <;> simp

theorem resetAsserts_pins (s : State) : (resetAsserts s).pins = s.pins := by
  unfold resetAsserts
  split
  · cases resetKind s <;>
      simp [runStart, stageSelfTest, stageLapses, stageEntry, stageRetained, stageDecision, reachStage, loseVolatile,
        foldl_pins _ (lapseRecord_pins _)]
  · rfl

theorem rotationPulse_pins (l : Lane) (s : State) : (rotationPulse l s).pins = s.pins := by
  unfold rotationPulse passageAt
  repeat' split
  all_goals simp

theorem contactOpening_pins (l : Lane) (s : State) :
    (contactOpening l s).pins = { s.pins with contactOpen := vset s.pins.contactOpen l true } := by
  unfold contactOpening passageAt setContactPin
  simp only
  repeat' split
  all_goals simp

theorem contactClosing_pins (l : Lane) (s : State) :
    (contactClosing l s).pins = { s.pins with contactOpen := vset s.pins.contactOpen l false } := by
  unfold contactClosing setContactPin
  simp only
  repeat' split
  all_goals simp

theorem clockPulse_pins (l : Lane) (b : Bool) (s : State) : (clockPulse l b s).pins = s.pins := by
  unfold clockPulse endFrame arriveValid
  simp only
  repeat' split
  all_goals simp

/-! ## A change of the input pins -/

/-- The rows carried out one after the other. -/
def carried : List Instr → State → State → Prop
  | [], s, t => t = s
  | c :: rest, s, t => ∃ u, exec c s = .next u ∧ carried rest u t

theorem carried_append {xs ys : List Instr} {s u t : State} (h : carried xs s u) (h1 : carried ys u t) :
    carried (xs ++ ys) s t := by
  induction xs generalizing s with
  | nil => cases h; exact h1
  | cons x xs ih => obtain ⟨v, hv, hr⟩ := h; exact ⟨v, hv, ih hr⟩

theorem emergencyRows_carried (a b : PinLevel) (s : State) (h : s.pins.emergencyLine = emergencyAsserted a) :
    ∃ t, carried (emergencyRows a b) s t ∧ t.pins = { s.pins with emergencyLine := emergencyAsserted b } := by
  unfold emergencyRows
  split
  · next h1 h2 => exact ⟨_, ⟨_, rfl, rfl⟩, by rw [lineAsserts_pins, h2]⟩
  · next h1 h2 => exact ⟨_, ⟨_, rfl, rfl⟩, by rw [lineReleases_pins, h2]⟩
  · next h1 h2 => exact ⟨s, rfl, by rw [h2, ← h1, ← h]⟩
  · next h1 h2 => exact ⟨s, rfl, by rw [h2, ← h1, ← h]⟩

theorem resetRows_carried (a b : PinLevel) (s : State) : ∃ t, carried (resetRows a b) s t ∧ t.pins = s.pins := by
  unfold resetRows
  split
  · exact ⟨_, ⟨_, rfl, rfl⟩, resetAsserts_pins s⟩
  · exact ⟨s, rfl, rfl⟩

theorem contactRows_carried (l : Lane) (a b : PinLevel) (s : State) (h : vget s.pins.contactOpen l = showsOpen l a) :
    ∃ t, carried (contactRows l a b) s t ∧
      t.pins = { s.pins with contactOpen := vset s.pins.contactOpen l (showsOpen l b) } := by
  have same : ∀ x, vget s.pins.contactOpen l = x → { s.pins with contactOpen := vset s.pins.contactOpen l x } = s.pins := by
    rintro _ rfl
    simp [vset, vget]
  unfold contactRows
  split
  · next h1 h2 => exact ⟨_, ⟨_, rfl, rfl⟩, by rw [contactOpening_pins, h2]⟩
  · next h1 h2 => exact ⟨_, ⟨_, rfl, rfl⟩, by rw [contactClosing_pins, h2]⟩
  · next h1 h2 => exact ⟨s, rfl, by rw [same _ (by rw [h2, h, h1])]⟩
  · next h1 h2 => exact ⟨s, rfl, by rw [same _ (by rw [h2, h, h1])]⟩

/-- A lane's rows leave the pins with the contact that the new level shows. -/
theorem laneRows_carried (l : Lane) (a b : LanePins) (s : State) (h : vget s.pins.contactOpen l = showsOpen l a.doorContact) :
    ∃ t, carried (a.rows l b) s t ∧
      t.pins = { s.pins with contactOpen := vset s.pins.contactOpen l (showsOpen l b.doorContact) } := by
  obtain ⟨u, hu, pu⟩ : ∃ u, carried (readerRows l a.readerClock b.readerClock b.readerData) s u ∧ u.pins = s.pins := by
    unfold readerRows
    split
    · exact ⟨_, ⟨_, rfl, rfl⟩, clockPulse_pins _ _ _⟩
    · exact ⟨s, rfl, rfl⟩
  obtain ⟨v, hv, pv⟩ : ∃ v, carried (passageRows l a.passagePulse b.passagePulse) u v ∧ v.pins = u.pins := by
    unfold passageRows
    split
    · exact ⟨_, ⟨_, rfl, rfl⟩, rotationPulse_pins _ _⟩
    · exact ⟨u, rfl, rfl⟩
  have pp := pv.trans pu
  obtain ⟨t, ht, pt⟩ := contactRows_carried l a.doorContact b.doorContact v (by rw [pp, h])
  exact ⟨t, carried_append (carried_append hu hv) ht, by rw [pt, pp]⟩

/-- The rows that a change of the input pins brings are carried out, and State then holds what the new levels read (R186). -/
theorem rows_carried (before after : InputPins) (s : State) (h : s.pins.reads before) :
    ∃ t, carried (before.rows after) s t ∧ t.pins.reads after := by
  obtain ⟨u, hu, pu⟩ := emergencyRows_carried before.emergency after.emergency s h.1
  obtain ⟨v, hv, pv⟩ := resetRows_carried before.reset after.reset u
  have lanes : ∀ (ls : List Lane) (w : State), ls.Nodup →
      (∀ l ∈ ls, vget w.pins.contactOpen l = showsOpen l (vget before.lanes l).doorContact) →
      ∃ t, carried (ls.flatMap (fun l => (vget before.lanes l).rows l (vget after.lanes l))) w t ∧
        t.pins.emergencyLine = w.pins.emergencyLine ∧
        ∀ l, vget t.pins.contactOpen l =
          if l ∈ ls then showsOpen l (vget after.lanes l).doorContact else vget w.pins.contactOpen l := by
    intro ls
    induction ls with
    | nil => intro w _ _; exact ⟨w, rfl, rfl, fun l => by simp⟩
    | cons m ms ih =>
      intro w hn hc
      obtain ⟨x, hx, px⟩ := laneRows_carried m _ (vget after.lanes m) w (hc m (by simp))
      have hm : m ∉ ms := (List.nodup_cons.mp hn).1
      obtain ⟨t, ht, pe, pc⟩ := ih x (List.nodup_cons.mp hn).2 (by
        intro l hl
        have : l ≠ m := fun e => hm (e ▸ hl)
        rw [px]
        simp only [vget_vset_other _ _ _ _ this]
        exact hc l (by simp [hl]))
      refine ⟨t, ?_, by rw [pe, px], ?_⟩
      · rw [List.flatMap_cons]; exact carried_append hx ht
      · intro l
        rw [pc l, px]
        by_cases e : l = m
        · subst e; simp [hm]
        · simp only [List.mem_cons, e, false_or, vget_vset_other _ _ _ _ e]
  have hw : v.pins = { s.pins with emergencyLine := emergencyAsserted after.emergency } := pv.trans pu
  obtain ⟨t, ht, pe, pc⟩ := lanes allLanes v (by decide) (by intro l _; rw [hw]; exact h.2 l)
  refine ⟨t, carried_append (carried_append hu hv) ht, by rw [pe, hw], fun l => ?_⟩
  rw [pc l, if_pos (by revert l; decide)]

end Sys2Proof.Machine
end

