-- ==== Sys2Proof/Laws/Memory.lean ====
section
/-! SUPPORT. The words of pages 1–31: a read after a write, and the canonical form that every memory operation keeps. -/

namespace Sys2Proof.Machine

/-- Every address of the list lies above a. -/
abbrev Above (a : Nat) (m : Memory) : Prop := ∀ c ∈ m, a < c.1

theorem memRead_above {a : Nat} {m : Memory} (h : Above a m) : memRead m a = 0 := by
  induction m with
  | nil => rfl
  | cons c rest ih =>
    have h1 := h c (by simp)
    have h2 : a ≠ c.1 := by omega
    simp only [memRead, h2, if_false]
    exact ih (fun d hd => h d (by simp [hd]))

/-- A read of the address written gives the word written. -/
theorem memRead_memInsert_self (m : Memory) (a : Nat) (v : Word) (h : m.Pairwise (fun c d => c.1 < d.1)) :
    memRead (memInsert m a v) a = v := by
  induction m with
  | nil =>
    simp only [memInsert]
    split
    · rename_i hv
      simp [memRead, hv]
    · simp [memRead]
  | cons c rest ih =>
    obtain ⟨b, w⟩ := c
    have habove : Above b rest := fun c hc => List.rel_of_pairwise_cons h hc
    simp only [memInsert]
    split
    · rename_i hab
      split
      · rename_i hv
        subst hv
        exact memRead_above (fun d hd => by
          rcases List.mem_cons.mp hd with rfl | hd
          · exact hab
          · exact Nat.lt_trans hab (habove d hd))
      · simp [memRead]
    · split
      · rename_i hab
        subst hab
        split
        · rename_i hv
          subst hv
          exact memRead_above habove
        · simp [memRead]
      · rename_i hab
        simp only [memRead, hab, if_false]
        exact ih h.of_cons

/-- A write leaves every other address as it was. -/
theorem memRead_memInsert_other (m : Memory) (a c : Nat) (v : Word) (h : c ≠ a) :
    memRead (memInsert m a v) c = memRead m c := by
  induction m with
  | nil =>
    simp only [memInsert]
    split
    · rfl
    · simp [memRead, h]
  | cons d rest ih =>
    obtain ⟨b, w⟩ := d
    simp only [memInsert]
    split
    · split <;> simp [memRead, h]
    · split
      · rename_i hab
        subst hab
        split <;> simp [memRead, h]
      · simp only [memRead]
        split
        · rfl
        · exact ih

theorem mem_memInsert {m : Memory} {a : Nat} {v : Word} {c : Nat × Word} (h : c ∈ memInsert m a v) :
    c ∈ m ∨ (c = (a, v) ∧ v ≠ 0) := by
  induction m with
  | nil =>
    simp only [memInsert] at h
    split at h
    · simp at h
    · rename_i hv
      exact .inr ⟨by simpa using h, hv⟩
  | cons d rest ih =>
    obtain ⟨b, w⟩ := d
    simp only [memInsert] at h
    split at h
    · split at h
      · exact .inl h
      · rename_i hv
        rcases List.mem_cons.mp h with rfl | h
        · exact .inr ⟨rfl, hv⟩
        · exact .inl h
    · split at h
      · split at h
        · exact .inl (by simp [h])
        · rename_i hv
          rcases List.mem_cons.mp h with rfl | h
          · exact .inr ⟨rfl, hv⟩
          · exact .inl (by simp [h])
      · rcases List.mem_cons.mp h with rfl | h
        · exact .inl (by simp)
        · rcases ih h with h | h
          · exact .inl (by simp [h])
          · exact .inr h

theorem memInsert_rising (m : Memory) (a : Nat) (v : Word) (h : m.Pairwise (fun c d => c.1 < d.1)) :
    (memInsert m a v).Pairwise (fun c d => c.1 < d.1) := by
  induction m with
  | nil =>
    simp only [memInsert]
    split <;> simp
  | cons d rest ih =>
    obtain ⟨b, w⟩ := d
    have habove : Above b rest := fun c hc => List.rel_of_pairwise_cons h hc
    simp only [memInsert]
    split
    · rename_i hab
      split
      · exact h
      · refine List.pairwise_cons.mpr ⟨fun d hd => ?_, h⟩
        rcases List.mem_cons.mp hd with rfl | hd
        · exact hab
        · exact Nat.lt_trans hab (habove d hd)
    · split
      · rename_i hab
        subst hab
        split
        · exact h.of_cons
        · exact List.pairwise_cons.mpr ⟨habove, h.of_cons⟩
      · refine List.pairwise_cons.mpr ⟨fun d hd => ?_, ih h.of_cons⟩
        rcases mem_memInsert hd with hd | ⟨rfl, -⟩
        · exact habove d hd
        · simp only
          omega

/-- A write keeps the canonical form. -/
theorem memWrite_wf (m : Memory) (a : Nat) (v : Word) (h : Memory.wf m) : Memory.wf (memWrite m a v) := by
  unfold memWrite
  split
  · rename_i ha
    refine ⟨memInsert_rising m a v h.1, fun c hc => ?_⟩
    rcases mem_memInsert hc with hc | ⟨rfl, hv⟩
    · exact h.2 c hc
    · exact ⟨hv, ha⟩
  · exact h

/-- Writes in a row keep the canonical form. -/
theorem memWriteAll_wf (m : Memory) (ws : List (Nat × Word)) (h : Memory.wf m) : Memory.wf (memWriteAll m ws) := by
  unfold memWriteAll
  induction ws generalizing m with
  | nil => exact h
  | cons w rest ih => exact ih _ (memWrite_wf m w.1 w.2 h)

/-- A buffer's words written keep the canonical form. -/
theorem writeBuffer_wf (m : Memory) (b : Buffer) (out : List Word) (h : Memory.wf m) :
    Memory.wf (writeBuffer m b out) := memWriteAll_wf m _ h

/-- The memory after reset has the canonical form. -/
theorem reset_memory_wf : Memory.wf State.reset.memory := by decide

/-- A word of pages 1–31 written reads as written. -/
theorem memRead_memWrite_self (m : Memory) (a : Nat) (v : Word) (h : Memory.wf m) (h1 : Config.firstPageWord ≤ a)
    (h2 : a < Config.exchangeWords) : memRead (memWrite m a v) a = v := by
  rw [memWrite, if_pos ⟨h1, h2⟩]
  exact memRead_memInsert_self m a v h.1

/-- A write leaves every other word as it was. -/
theorem memRead_memWrite_other (m : Memory) (a c : Nat) (v : Word) (h : c ≠ a) :
    memRead (memWrite m a v) c = memRead m c := by
  unfold memWrite
  split
  · exact memRead_memInsert_other m a c v h
  · rfl

/-- Writes in a row leave every address that none of them names as it was. -/
theorem memRead_memWriteAll_other (m : Memory) (ws : List (Nat × Word)) (c : Nat) (h : ∀ w ∈ ws, c ≠ w.1) :
    memRead (memWriteAll m ws) c = memRead m c := by
  unfold memWriteAll
  induction ws generalizing m with
  | nil => rfl
  | cons w rest ih =>
    rw [List.foldl_cons, ih _ (fun x hx => h x (by simp [hx])), memRead_memWrite_other _ _ _ _ (h w (by simp))]

/-- A written buffer leaves every word outside its places as it was (R179). -/
theorem memRead_writeBuffer_other (m : Memory) (b : Buffer) (out : List Word) (c : Nat)
    (h : ∀ i, i < out.length → c ≠ bufferAddr b i) : memRead (writeBuffer m b out) c = memRead m c := by
  apply memRead_memWriteAll_other
  intro w hw
  simp only [List.mem_map] at hw
  obtain ⟨p, hp, rfl⟩ := hw
  exact h p.2 (by have := List.snd_lt_of_mem_zipIdx hp; omega)

/-- A buffer never leaves the page it starts in (R179). -/
theorem bufferAddr_page (b : Buffer) (i : Nat) : bufferAddr b i / 256 = b.addr.toNat / 256 := by
  unfold bufferAddr
  omega

/-- Two words of one buffer of at most 256 words have different addresses (R179). -/
theorem bufferAddr_inj (b : Buffer) (i j : Nat) (hi : i < 256) (hj : j < 256) (h : bufferAddr b i = bufferAddr b j) :
    i = j := by
  unfold bufferAddr at h
  omega

end Sys2Proof.Machine
end

