-- ==== Sys2Proof/Laws/Sharing.lean ====
section
/-! SUPPORT. The arbiter's cycle (R170), the bus port's cycle (R171) and the engine's turn among the ports' accesses: no command
touches the exchange memory itself, and a turn with no port's access between is the row ENGINE_TURN. -/

namespace Sys2Proof.Machine

/-! ## What a command keeps -/

/-- What a command leaves to the engine: the exchange memory and the arbiter's last grant. -/
def Kept (s t : State) : Prop := t.memory = s.memory ∧ t.control.arbiter = s.control.arbiter

theorem Kept.foldl {α : Type} (f : State → α → State) (h : ∀ s a, Kept s (f s a)) (l : List α) (s : State) :
    Kept s (l.foldl f s) := by
  induction l generalizing s with
  | nil => exact ⟨rfl, rfl⟩
  | cons a l ih => exact ⟨(ih _).1.trans (h s a).1, (ih _).2.trans (h s a).2⟩

theorem minuteEvent_kept (s : State) : Kept s (minuteEvent s) := by
  unfold minuteEvent; split <;> simp [Kept]

theorem setChannel_kept (s : State) (c v) : Kept s (s.setChannel c v) := ⟨rfl, rfl⟩

theorem lapsePassage_kept (l : Lane) (p : PendingPassage) (e : Bool) (s : State) : Kept s (lapsePassage l p e s) := by
  simp [Kept, lapsePassage, clearPassage]

theorem restDoor_kept (l : Lane) (d : DoorStatus) (s : State) : Kept s (restDoor l d s) := by
  unfold restDoor stopHeldBell Kept; split <;> simp_all

theorem classifyFrame_kept (l : Lane) (r : BadgeRead) (s : State) : Kept s (classifyFrame l r s) := by
  unfold classifyFrame refuseFrame loadRed takeMuster takeGrant Kept
  repeat' (first | split | simp_all)

theorem classifyWaiting_kept (l : Lane) (s : State) : Kept s (classifyWaiting l s) := by
  unfold classifyWaiting
  split
  · exact ⟨(classifyFrame_kept ..).1.trans rfl, (classifyFrame_kept ..).2.trans rfl⟩
  · exact ⟨rfl, rfl⟩

theorem reportLapse_kept (l : Lane) (s : State) : Kept s (reportLapse l s) := by
  unfold reportLapse
  split
  · exact ⟨(classifyWaiting_kept ..).1.trans (lapsePassage_kept ..).1,
      (classifyWaiting_kept ..).2.trans (lapsePassage_kept ..).2⟩
  · exact ⟨rfl, rfl⟩

theorem lockDownLane_kept (s : State) (l : Lane) : Kept s (lockDownLane l s) := by
  unfold lockDownLane
  split
  · exact ⟨rfl, rfl⟩
  · exact ⟨(reportLapse_kept ..).1.trans (restDoor_kept ..).1, (reportLapse_kept ..).2.trans (restDoor_kept ..).2⟩

theorem leaveLockdown_kept (s : State) (l : Lane) : Kept s (leaveLockdown l s) := by
  unfold leaveLockdown Kept; repeat' (first | split | simp_all)

theorem run_setClock_kept (o : Port) (op : Operands) (buf : Buffer) (s : State) :
    Kept s (Command.run o op buf s .setClock).1 := by
  simp only [Command.run]
  unfold cmdSetClock; split
  · exact ⟨rfl, rfl⟩
  · have := minuteEvent_kept
      (writeMirror
        (appendEntry (clockSetBody o s.time ⟨(op 0).toNat, (op 1).toNat, (op 2).toNat⟩ (op 3).toNat)
          (s.setTime (s.time.set ⟨(op 0).toNat, (op 1).toNat, (op 2).toNat⟩ (op 3).toNat))))
    exact ⟨by rw [this.1]; simp [writeMirror], by rw [this.2]; simp [writeMirror]⟩

theorem run_trimClock_kept (o : Port) (op : Operands) (buf : Buffer) (s : State) :
    Kept s (Command.run o op buf s .trimClock).1 := by
  simp only [Command.run]
  unfold cmdTrimClock; split <;> exact ⟨rfl, rfl⟩

theorem run_loadRecord_kept (o : Port) (op : Operands) (buf : Buffer) (s : State) :
    Kept s (Command.run o op buf s .loadRecord).1 := by
  simp only [Command.run]
  unfold cmdLoadRecord createRecord Kept; repeat' (first | split | simp_all)

theorem run_readRecord_kept (o : Port) (op : Operands) (buf : Buffer) (s : State) :
    Kept s (Command.run o op buf s .readRecord).1 := by
  simp only [Command.run]
  unfold cmdReadRecord Kept; repeat' (first | split | simp_all)

theorem run_deleteRecord_kept (o : Port) (op : Operands) (buf : Buffer) (s : State) :
    Kept s (Command.run o op buf s .deleteRecord).1 := by
  simp only [Command.run]
  unfold cmdDeleteRecord removeRecord Kept; repeat' (first | split | simp_all)

theorem run_scanIndex_kept (o : Port) (op : Operands) (buf : Buffer) (s : State) :
    Kept s (Command.run o op buf s .scanIndex).1 := by
  simp only [Command.run]
  unfold cmdScanIndex Kept; repeat' (first | split | simp_all)

theorem run_writeLane_kept (o : Port) (op : Operands) (buf : Buffer) (s : State) :
    Kept s (Command.run o op buf s .writeLane).1 := by
  simp only [Command.run]
  unfold cmdWriteLane configureLane adaptSensor Kept; repeat' (first | split | simp_all)

theorem run_readLane_kept (o : Port) (op : Operands) (buf : Buffer) (s : State) :
    Kept s (Command.run o op buf s .readLane).1 := by
  simp only [Command.run]
  unfold cmdReadLane Kept; repeat' (first | split | simp_all)

theorem run_writeShift_kept (o : Port) (op : Operands) (buf : Buffer) (s : State) :
    Kept s (Command.run o op buf s .writeShift).1 := by
  simp only [Command.run]
  unfold cmdWriteShift Kept; repeat' (first | split | simp_all)

theorem run_readShift_kept (o : Port) (op : Operands) (buf : Buffer) (s : State) :
    Kept s (Command.run o op buf s .readShift).1 := by
  simp only [Command.run]
  unfold cmdReadShift Kept; repeat' (first | split | simp_all)

theorem run_writePayClass_kept (o : Port) (op : Operands) (buf : Buffer) (s : State) :
    Kept s (Command.run o op buf s .writePayClass).1 := by
  simp only [Command.run]
  unfold cmdWritePayClass Kept; repeat' (first | split | simp_all)

theorem run_readPayClass_kept (o : Port) (op : Operands) (buf : Buffer) (s : State) :
    Kept s (Command.run o op buf s .readPayClass).1 := by
  simp only [Command.run]
  unfold cmdReadPayClass Kept; repeat' (first | split | simp_all)

theorem run_writeHolidays_kept (o : Port) (op : Operands) (buf : Buffer) (s : State) :
    Kept s (Command.run o op buf s .writeHolidays).1 := by
  simp only [Command.run]
  unfold cmdWriteHolidays Kept; repeat' (first | split | simp_all)

theorem run_readHolidays_kept (o : Port) (op : Operands) (buf : Buffer) (s : State) :
    Kept s (Command.run o op buf s .readHolidays).1 := by
  simp only [Command.run]
  unfold cmdReadHolidays Kept; repeat' (first | split | simp_all)

theorem run_closePeriod_kept (o : Port) (op : Operands) (buf : Buffer) (s : State) :
    Kept s (Command.run o op buf s .closePeriod).1 := by
  simp only [Command.run]
  unfold cmdClosePeriod Kept; repeat' (first | split | simp_all)

theorem run_readTotals_kept (o : Port) (op : Operands) (buf : Buffer) (s : State) :
    Kept s (Command.run o op buf s .readTotals).1 := by
  simp only [Command.run]
  unfold cmdReadTotals Kept; repeat' (first | split | simp_all)

theorem run_listPresent_kept (o : Port) (op : Operands) (buf : Buffer) (s : State) :
    Kept s (Command.run o op buf s .listPresent).1 := by
  simp only [Command.run]
  unfold cmdListPresent Kept; repeat' (first | split | simp_all)

theorem correction_kept (o : Port) (op : Operands) (s : State) : Kept s (runCorrection o op s).1 := by
  have h1 : ∀ e t, Kept s (forceOutEntry o e t s).1 := fun e t => by
    simp [Kept, forceOutEntry, closeEntry, endAttendance]
  have h2 : ∀ a r t, Kept s (forceInRecord o a r t s).1 := fun a r t => by
    unfold forceInRecord openAttendance Kept; dsimp only; split <;> simp
  have h3 : ∀ e, Kept s (cancelEntry o e s).1 := fun e => by simp [Kept, cancelEntry, endAttendance]
  unfold runCorrection cmdForceOut cmdForceIn cmdCancel
  have h0 : ∀ r : Reply, Kept s (s, r).1 := fun _ => ⟨rfl, rfl⟩
  repeat' (first | split | with_reducible exact h0 _ | with_reducible exact h1 _ _ | with_reducible exact h2 _ _ _ |
    with_reducible exact h3 _)

theorem run_releaseDoor_kept (o : Port) (op : Operands) (buf : Buffer) (s : State) :
    Kept s (Command.run o op buf s .releaseDoor).1 := by
  simp only [Command.run]
  unfold cmdReleaseDoor Kept; repeat' (first | split | simp_all)

theorem run_setDoorMode_kept (o : Port) (op : Operands) (buf : Buffer) (s : State) :
    Kept s (Command.run o op buf s .setDoorMode).1 := by
  simp only [Command.run]
  unfold cmdSetDoorMode freeByMode normalByMode Kept; repeat' (first | split | simp_all)

theorem run_lockdown_kept (o : Port) (op : Operands) (buf : Buffer) (s : State) :
    Kept s (Command.run o op buf s .lockdown).1 := by
  simp only [Command.run]
  unfold cmdLockdown
  have h := Kept.foldl (fun s l => lockDownLane l s) lockDownLane_kept allLanes
    (appendEntry (commandBody .lockdownOn o none s) (s.setGate { s.gate with lockdown := true }))
  generalize hu : allLanes.foldl _ _ = u at h
  dsimp only at hu ⊢
  split
  · exact ⟨rfl, rfl⟩
  · rw [hu]
    unfold Kept at h ⊢
    simpa using h

theorem run_clearLockdown_kept (o : Port) (op : Operands) (buf : Buffer) (s : State) :
    Kept s (Command.run o op buf s .clearLockdown).1 := by
  simp only [Command.run]
  unfold cmdClearLockdown
  have h := Kept.foldl (fun s l => leaveLockdown l s) leaveLockdown_kept allLanes
    (appendEntry (commandBody .lockdownOff o none s) (s.setGate { s.gate with lockdown := false }))
  generalize hu : allLanes.foldl _ _ = u at h
  dsimp only at hu ⊢
  split
  · exact ⟨rfl, rfl⟩
  · rw [hu]
    unfold Kept at h ⊢
    simpa using h

theorem run_resetAlarm_kept (o : Port) (op : Operands) (buf : Buffer) (s : State) :
    Kept s (Command.run o op buf s .resetAlarm).1 := by
  simp only [Command.run]
  unfold cmdResetAlarm Kept; repeat' (first | split | simp_all)

theorem run_setReentryWindow_kept (o : Port) (op : Operands) (buf : Buffer) (s : State) :
    Kept s (Command.run o op buf s .setReentryWindow).1 := by
  simp only [Command.run]
  unfold cmdSetReentryWindow Kept; repeat' (first | split | simp_all)

theorem run_writeBellEntry_kept (o : Port) (op : Operands) (buf : Buffer) (s : State) :
    Kept s (Command.run o op buf s .writeBellEntry).1 := by
  simp only [Command.run]
  unfold cmdWriteBellEntry Kept; repeat' (first | split | simp_all)

theorem run_readBellEntry_kept (o : Port) (op : Operands) (buf : Buffer) (s : State) :
    Kept s (Command.run o op buf s .readBellEntry).1 := by
  simp only [Command.run]
  unfold cmdReadBellEntry Kept; repeat' (first | split | simp_all)

theorem run_writePattern_kept (o : Port) (op : Operands) (buf : Buffer) (s : State) :
    Kept s (Command.run o op buf s .writePattern).1 := by
  simp only [Command.run]
  unfold cmdWritePattern Kept; repeat' (first | split | simp_all)

theorem run_readPattern_kept (o : Port) (op : Operands) (buf : Buffer) (s : State) :
    Kept s (Command.run o op buf s .readPattern).1 := by
  simp only [Command.run]
  unfold cmdReadPattern Kept; repeat' (first | split | simp_all)

theorem run_ringZones_kept (o : Port) (op : Operands) (buf : Buffer) (s : State) :
    Kept s (Command.run o op buf s .ringZones).1 := by
  simp only [Command.run]
  unfold cmdRingZones Kept; repeat' (first | split | simp_all)

theorem run_silenceZones_kept (o : Port) (op : Operands) (buf : Buffer) (s : State) :
    Kept s (Command.run o op buf s .silenceZones).1 := by
  simp only [Command.run]
  unfold cmdSilenceZones Kept; repeat' (first | split | simp_all)

theorem run_readBells_kept (o : Port) (op : Operands) (buf : Buffer) (s : State) :
    Kept s (Command.run o op buf s .readBells).1 := by
  simp only [Command.run]
  unfold cmdReadBells Kept; repeat' (first | split | simp_all)

theorem run_readJournal_kept (o : Port) (op : Operands) (buf : Buffer) (s : State) :
    Kept s (Command.run o op buf s .readJournal).1 := by
  simp only [Command.run]
  unfold cmdReadJournal Kept; repeat' (first | split | simp_all)

theorem run_releaseJournal_kept (o : Port) (op : Operands) (buf : Buffer) (s : State) :
    Kept s (Command.run o op buf s .releaseJournal).1 := by
  simp only [Command.run]
  unfold cmdReleaseJournal Kept; repeat' (first | split | simp_all)

theorem run_setConsumer_kept (o : Port) (op : Operands) (buf : Buffer) (s : State) :
    Kept s (Command.run o op buf s .setConsumer).1 := by
  simp only [Command.run]
  unfold cmdSetConsumer Kept; repeat' (first | split | simp_all)

theorem run_journalStatus_kept (o : Port) (op : Operands) (buf : Buffer) (s : State) :
    Kept s (Command.run o op buf s .journalStatus).1 := by
  simp only [Command.run]
  unfold cmdJournalStatus Kept; repeat' (first | split | simp_all)

theorem run_setChannelNotice_kept (o : Port) (op : Operands) (buf : Buffer) (s : State) :
    Kept s (Command.run o op buf s .setChannelNotice).1 := by
  simp only [Command.run]
  unfold cmdSetChannelNotice Kept; repeat' (first | split | simp_all)

theorem run_kept (o : Port) (op : Operands) (buf : Buffer) (s : State) (cmd : Command) :
    Kept s (cmd.run o op buf s).1 := by
  cases cmd
  case setClock => exact run_setClock_kept o op buf s
  case trimClock => exact run_trimClock_kept o op buf s
  case readClock => exact ⟨rfl, rfl⟩
  case acknowledgeStart => exact ⟨rfl, rfl⟩
  case loadRecord => exact run_loadRecord_kept o op buf s
  case readRecord => exact run_readRecord_kept o op buf s
  case deleteRecord => exact run_deleteRecord_kept o op buf s
  case scanIndex => exact run_scanIndex_kept o op buf s
  case writeLane => exact run_writeLane_kept o op buf s
  case readLane => exact run_readLane_kept o op buf s
  case writeShift => exact run_writeShift_kept o op buf s
  case readShift => exact run_readShift_kept o op buf s
  case writePayClass => exact run_writePayClass_kept o op buf s
  case readPayClass => exact run_readPayClass_kept o op buf s
  case writeHolidays => exact run_writeHolidays_kept o op buf s
  case readHolidays => exact run_readHolidays_kept o op buf s
  case closePeriod => exact run_closePeriod_kept o op buf s
  case readTotals => exact run_readTotals_kept o op buf s
  case listPresent => exact run_listPresent_kept o op buf s
  case correctPresence => exact correction_kept o op s
  case releaseDoor => exact run_releaseDoor_kept o op buf s
  case setDoorMode => exact run_setDoorMode_kept o op buf s
  case lockdown => exact run_lockdown_kept o op buf s
  case clearLockdown => exact run_clearLockdown_kept o op buf s
  case resetAlarm => exact run_resetAlarm_kept o op buf s
  case readDoors => exact ⟨rfl, rfl⟩
  case setReentryWindow => exact run_setReentryWindow_kept o op buf s
  case writeBellEntry => exact run_writeBellEntry_kept o op buf s
  case readBellEntry => exact run_readBellEntry_kept o op buf s
  case writePattern => exact run_writePattern_kept o op buf s
  case readPattern => exact run_readPattern_kept o op buf s
  case ringZones => exact run_ringZones_kept o op buf s
  case silenceZones => exact run_silenceZones_kept o op buf s
  case readBells => exact run_readBells_kept o op buf s
  case readJournal => exact run_readJournal_kept o op buf s
  case releaseJournal => exact run_releaseJournal_kept o op buf s
  case setConsumer => exact run_setConsumer_kept o op buf s
  case journalStatus => exact run_journalStatus_kept o op buf s
  case setChannelNotice => exact run_setChannelNotice_kept o op buf s
  case readChannels => exact ⟨rfl, rfl⟩

/-- No command touches the exchange memory or the arbiter: the engine alone reads and writes blocks (R178). -/
theorem carryOut_kept (b : Block) (o : Port) (s : State) : Kept s (carryOut b o s).1 := by
  unfold carryOut
  repeat' (first | split | exact run_kept .. | exact ⟨rfl, rfl⟩)

/-! ## The arbiter -/

theorem access_engine (s : State) : access .engine s = s.setControl { s.control with arbiter := .engine } := by
  unfold access; cases s.control.arbiter <;> rfl

theorem access_engine_self {s : State} (h : s.control.arbiter = .engine) : access .engine s = s := by
  rw [access_engine, ← h]; rfl

theorem engineAccess_alone (s : State) : engineAccess [] s = access .engine s := by
  unfold engineAccess grantToEngine
  cases s.control.arbiter <;> rfl

/-- From any last grant and with everybody asking, the requester x is granted as the third at the latest (R170). -/
theorem granted_within_three (last x : Requester) (asks : Requester → Bool) (h : asks x = true) :
    ∃ a ∈ arbiterGrant last asks, a = x ∨ ∃ b ∈ arbiterGrant a asks, b = x ∨ ∃ c ∈ arbiterGrant b asks, c = x := by
  have : ∀ f : Requester → Bool, f = fun r => match r with | .bus => f .bus | .link => f .link | .engine => f .engine := by
    intro f; funext r; cases r <;> rfl
  rw [this asks] at h ⊢
  generalize asks .bus = p at *
  generalize asks .link = q at *
  generalize asks .engine = r at *
  revert h
  cases last <;> cases x <;> cases p <;> cases q <;> cases r <;> decide

/-! ## The bus cycle (R171) -/

/-- With mains on a read cycle takes the access and drives the word that a port read returns. -/
theorem busCycle_read {s : State} (h : s.time.power = .mainsRun) (a : BitVec 13) (d : Word) :
    busCycle ⟨true, false, a, d⟩ s = (some (portFetch .bus a s).1, (portFetch .bus a s).2) := by
  simp [busCycle, h]

/-- With mains on a write cycle is the port write, and drives nothing. -/
theorem busCycle_write {s : State} (h : s.time.power = .mainsRun) (a : BitVec 13) (d : Word) :
    busCycle ⟨false, true, a, d⟩ s = (none, portWrite .bus a d s) := by
  simp [busCycle, h]

/-- Both strobes together take no access. -/
theorem busCycle_both (s : State) (a : BitVec 13) (d : Word) : busCycle ⟨true, true, a, d⟩ s = (none, s) := by
  unfold busCycle; split <;> rfl

/-- Without mains the bus port floats: no cycle takes an access. -/
theorem busCycle_floats {s : State} (h : s.time.power ≠ .mainsRun) (x : BusCycle) : busCycle x s = (none, s) := by
  simp [busCycle, h]

/-! ## A turn with nobody else -/

theorem memInsert_read {m : Memory} (h : Memory.wf m) (a : Nat) : memInsert m a (memRead m a) = m := by
  obtain ⟨h1, h2⟩ := h
  induction m with
  | nil => rfl
  | cons c rest ih =>
    obtain ⟨b, v⟩ := c
    have hr := List.pairwise_cons.mp h1
    by_cases hb : a = b
    · subst hb
      have := (h2 (a, v) (by simp)).1
      simp_all [memRead, memInsert]
    · have hi := ih hr.2 (fun c hc => h2 c (by simp [hc]))
      by_cases hl : a < b
      · have h0 : memRead rest a = 0 := memRead_above (fun c hc => by have := hr.1 c hc; simp at this; omega)
        simp [memRead, memInsert, hb, hl, h0]
      · simp [memRead, memInsert, hb, hl, hi]

theorem memWrite_read {m : Memory} (h : Memory.wf m) (a : Nat) : memWrite m a (memRead m a) = m := by
  unfold memWrite; split
  · exact memInsert_read h a
  · rfl

theorem memWriteAll_reads {m : Memory} (h : Memory.wf m) (as : List Nat) :
    memWriteAll m (as.zip (as.map (memRead m))) = m := by
  unfold memWriteAll
  induction as with
  | nil => rfl
  | cons a rest ih => simp [memWrite_read h, ih]

theorem readWords_alone (as : List Nat) (s : State) (h : s.control.arbiter = .engine) :
    readWords as [] s = (as.map (memRead s.memory), [], s) := by
  induction as with
  | nil => rfl
  | cons a rest ih => simp [readWords, engineAccess_alone, access_engine_self h, ih]

theorem writeWords_alone (ws : List (Nat × Word)) (s : State) (h : s.control.arbiter = .engine) :
    writeWords ws [] s = ([], s.setMemory (memWriteAll s.memory ws)) := by
  induction ws generalizing s with
  | nil => rfl
  | cons w rest ih =>
    have := ih (s.setMemory (memWrite s.memory w.1 w.2)) (by simpa using h)
    simp [writeWords, engineAccess_alone, access_engine_self h, this, memWriteAll]
    rfl

theorem blockOf_reads (m : Memory) (a : Nat) : blockOf (((List.range 16).map (a + ·)).map (memRead m)) = readBlock m a := rfl

/-- A block is served among no port accesses as the row ENGINE_TURN serves it whole (log 9). -/
theorem serveBlockAmong_alone (c : Channel) (chain : Chain) (s : State) (hm : Memory.wf s.memory) :
    serveBlockAmong [] c chain s = serveBlock c chain (access .engine s) := by
  have ha : (access .engine s).control.arbiter = .engine := by rw [access_engine]; rfl
  have hs : (access .engine s).memory = s.memory := by rw [access_engine]; rfl
  have h1 : readWords ((List.range 16).map (chain.next.toNat + ·)) [] s =
      (((List.range 16).map (chain.next.toNat + ·)).map (memRead s.memory), [], access .engine s) := by
    rw [show List.range 16 = 0 :: (List.range 15).map (· + 1) from rfl, List.map_cons, readWords]
    simp only [engineAccess_alone, List.tail_nil, readWords_alone _ _ ha, hs, List.map_cons]
  generalize access .engine s = u at *
  unfold serveBlockAmong serveBlock
  simp only [h1, blockOf_reads, readWords_alone _ _ ha, ← hs]
  rw [memWriteAll_reads (by rw [hs]; exact hm)]
  have hu : u.setMemory u.memory = u := rfl
  rw [hu]
  have hk := carryOut_kept (readBlock u.memory chain.next.toNat) chain.origin u
  generalize carryOut (readBlock u.memory chain.next.toNat) chain.origin u = d at *
  have hd : d.1.setMemory u.memory = d.1 := by rw [← hk.1]; rfl
  rw [hd, writeWords_alone _ _ (hk.2.trans ha)]
  congr 3
  simp [resultWrites, writeResults, writeBuffer, memWriteAll]

/-- The turn among the ports' accesses, with none of them, is the turn that the row takes (log 9). -/
theorem engineTurnAmong_alone (s : State) (hm : Memory.wf s.memory) : engineTurnAmong [] s = engineTurn s := by
  have : ∀ c, turnAt (serveBlockAmong []) c s = turnAt (fun c chain s1 => serveBlock c chain (access .engine s1)) c s := by
    intro c
    unfold turnAt
    split
    · rfl
    · split
      · exact serveBlockAmong_alone _ _ _ (by simpa [setLastServed] using hm)
      · rfl
  unfold engineTurnAmong engineTurn turnWith
  repeat' (first | split | exact this _ | rfl)

end Sys2Proof.Machine
end

