-- ==== Sys2Proof/Tests/Slice0.lean ====
section
/-! SUPPORT. The model's own tests: ill-formed terms refused, the manual's worked figures, and for every statement with hypotheses a
concrete state and operands that meet them. -/

namespace Sys2Proof.Tests

open Sys2Proof.Machine

/-! ## Well-formedness -/

theorem test_wf_request_cell_refused : (Instr.portWordWrite .bus 0x20 1).wellFormed = false := by decide
theorem test_wf_fault_cell_refused : (Instr.portWordWrite .bus 0x2F 0).wellFormed = false := by decide
theorem test_wf_rearm_cell_refused : (Instr.portWordWrite .link 0x46 0).wellFormed = false := by decide
theorem test_wf_pointer_cell_accepted : (Instr.portWordWrite .link 0x30 0x0300).wellFormed = true := by decide
theorem test_wf_link_address_refused : (Instr.linkTransferStart 0x60 true).wellFormed = false := by decide
theorem test_wf_link_address_accepted : (Instr.linkTransferStart 0x5F true).wellFormed = true := by decide

/-- No row of the table has bits, so no word spells a command (log 11). -/
theorem test_no_word_decodes : decodeTableWord 16 0x0012 = none := by decide

/-! ## Small states -/

/-- Badge 12 / 40,001, issue 1: the frame 6, 3, 0, 9, C, 4, 1, 1, check 2 of section 3.2.1. -/
def frame : List Bool :=
  [6, 3, 0, 9, 12, 4, 1, 1, 2].flatMap (fun n => [decide (8 ≤ n), decide (4 ≤ n % 8), decide (2 ≤ n % 4), decide (n % 2 = 1)])

def key : Key := ⟨12, 40001⟩
def badge : Badge := ⟨key, 1⟩
def otherBadge : Badge := ⟨⟨12, 40002⟩, 1⟩

/-- The record of that badge, OUT, allowed at every lane, shift 3. -/
def person : Record :=
  { key, issue := 1, employee := 7, shift := some 3, payClass := 0, permissions := 0xF, suspended := false, exempt := false
    presence := .out, pendingLane := none, muster := false, lastPassage := none, current := Totals.zero 0
    previous := Totals.zero 65535 }

def inside : Record := { person with presence := .inside }

/-- A roster with one record, in slot 0. -/
def rosterOf (r : Record) : Roster :=
  { records := [(0, r)], index := [⟨key, 0⟩], census := vset (Vector.replicate 64 0) 12 1, occupied := 1 }

/-- Day 3, 08:00:30, a set clock. -/
def time3 : TimeBase := { State.reset.time with clock := ⟨3, 480, 30⟩, clockUnset := false }

/-- A started part with a set clock and one record. -/
def withRecord (r : Record) : State := { State.reset with time := time3, roster := rosterOf r }

/-- An unscheduled attendance of slot 0, due at absolute minute 5,281 (day 3, 16:01). -/
def stay : Attendance := { slot := 0, schedule := none, tIn := ⟨3, 1, 0⟩, deadline := some 5281 }

/-- A part whose one record is IN. -/
def present : State :=
  { withRecord inside with attendance := [stay], control := { State.reset.control with presentMirror := 1 } }

/-- A TOGGLE lane with a rotation sensor. -/
def laneOf (sensor : Sensor) : LaneState := LaneState.empty { LaneConfig.cold with mode := .toggle, sensor }

/-- Lane 1 of a part configured, with bits in its assembly. -/
def atLane (sensor : Sensor) (bits : List Bool) (s : State) : State :=
  s.setLane 1 { laneOf sensor with bits, gap := if bits = [] then 0 else 3 }

/-- A pending passage of slot 0. -/
def passage (kind : PunchKind) : PendingPassage :=
  { slot := 0, badge, kind, softPassback := false, direction := .inward, shiftDay := none, readTime := ⟨3, 480, 20⟩
    reportDue := false }

/-- Lane 1 with a passage of slot 0 pending and its door in a state. -/
def pendingAt (sensor : Sensor) (p : PendingPassage) (door : Door) (s : State) : State :=
  (s.setLane 1 { laneOf sensor with pending := some p }).setDoor 1 door

def released : Door := { Door.cold with status := .released, release := 500 }

/-- The same record, pending at lane 1. -/
def pendingPerson (r : Record) : Record := { r with pendingLane := some 1 }

/-! ## Laws of those states -/

theorem rosterLaw_of (r : Record) (h : r.key = key) : RosterLaw (rosterOf r) where
  slots := by simp [rosterOf]
  keys := by simp [rosterOf]
  indexed := by simp [rosterOf, h]
  backed := by simp [rosterOf, h]
  census := by
    intro site
    simp only [rosterOf, siteCount, List.filter_cons, List.filter_nil, h, apply_ite List.length, List.length_cons, List.length_nil]
    revert site
    decide
  occupied := by simp [rosterOf]

theorem clockLaw_time3 (second : Nat) (m : MinuteLength) (h : second ≤ 59) (h1 : m = .short → second ≤ 58)
    (h2 : m = .longRepeated → second = 59) :
    ClockLaw { time3 with clock := ⟨3, 480, second⟩, minuteLength := m } where
  day := (by decide : 3 ≤ 65535)
  minute := (by decide : 480 ≤ 1439)
  second := h
  short := h1
  repeated := h2
  epoch := (by decide : 0 ≤ 6)
  slewLow := (by decide : (-3600 : Int) ≤ 0)
  slewHigh := (by decide : (0 : Int) ≤ 3600)
  hold := (by decide : 0 ≤ Config.holdLimit)

/-! ## Operands and buffers refused -/

theorem first_here {p : Prop} {l : List Prop} (h : ¬ p) : firstOut (p :: l) 0 :=
  ⟨⟨p, rfl, h⟩, fun m hm => absurd hm (Nat.not_lt_zero m)⟩

theorem first_next {p : Prop} {l : List Prop} {n : Nat} (h : p) (hl : firstOut l n) : firstOut (p :: l) (n + 1) := by
  refine ⟨hl.1, fun m hm q hq => ?_⟩
  cases m with
  | zero => cases hq; exact h
  | succ m => exact hl.2 m (Nat.lt_of_succ_lt_succ hm) q hq

/-- A buffer of n words refused each way, at the words on either side of pages 1–31 and one word short. -/
theorem refused (n : Nat) (h0 : 0 < n) (h : n ≤ 256) :
    bufferRefused ⟨0x00FF, 0x0100⟩ n .badBuffer ∧ bufferRefused ⟨0x2000, 0⟩ n .badBuffer ∧
      bufferRefused ⟨0x1FFF, BitVec.ofNat 16 (n - 1)⟩ n .bufferShort := by
  refine ⟨.inl ⟨by decide, rfl⟩, .inl ⟨by decide, rfl⟩, .inr
    ⟨(by decide : 0x100 ≤ (0x1FFF : Word).toNat), (by decide : (0x1FFF : Word).toNat < 0x2000), ?_, rfl⟩⟩
  simp only [BitVec.toNat_ofNat]
  omega

/-! ## The manual's worked figures -/

/-- Section 3.2.1: the frame is valid and delivers the badge. -/
theorem test_frame_example : frameValid frame = true ∧ frameBadge frame = badge := by decide

/-- R48: one wrong bit of the check nibble makes the frame invalid. -/
theorem test_frame_check_nibble : frameValid (frame.take 35 ++ [true]) = false := by decide

/-- R5: with a remainder above 0 the minute that begins is short and the remainder falls by 1. -/
theorem test_slew_short :
    ({ time3 with clock := ⟨3, 480, 59⟩, slew := 90 } : TimeBase).advance.1 =
      { time3 with clock := ⟨3, 481, 0⟩, slew := 89, minuteLength := .short } := by decide

/-- R6: the day after 65,535 is 65,535, and the day limit flag sets. -/
theorem test_day_limit :
    ({ time3 with clock := ⟨65535, 1439, 59⟩ } : TimeBase).advance.1 =
      { time3 with clock := ⟨65535, 0, 0⟩, dayLimit := true } := by decide

/-- R9: the operand of TRIM CLOCK is held to 3,600, and a negative remainder shows in two's complement. -/
theorem test_trim_clamps : (cmdTrimClock 5000 (withRecord person)).2 = .done [3600, 3600] := by decide
theorem test_trim_negative : (cmdTrimClock 0xFFFF (withRecord person)).2 = .done [0xFFFF, 0xFFFF] := by decide

/-- Section 8.4.1: pattern 1 with on 30, period 50, strokes 3, gap 100, groups 2 plays 400 ticks. -/
def chime : Playing := startPlaying 1 ⟨30, 50, 3, 100, 2, 1⟩ (.manual .bus)
theorem test_cadence_last_tick : (ticksOf 399 (some chime)).isSome = true := by decide +kernel
theorem test_cadence_end : ticksOf 400 (some chime) = none := by decide +kernel
theorem test_cadence_on_part :
    (ticksOf 29 (some chime)).map Playing.output = some true ∧ (ticksOf 30 (some chime)).map Playing.output = some false := by
  decide +kernel

def gapEntry (seq : Seq) (n : Nat) : Entry := { seq, body := { gapBody Time.zero with extra := .gapCount n } }
def shortEntry (seq : Seq) : Entry := { seq, body := plainBody .lockdownOn Time.zero }
def longEntry (seq : Seq) : Entry := { seq, body := { plainBody .warmStart Time.zero with extra := .hold 9 } }

/-- The journal of section 9.10, from 5,000 on, with the LINK cursor at 5,000. -/
def draining : Journal :=
  { Journal.empty with
    entries := [shortEntry 5000, longEntry 5001, shortEntry 5002, gapEntry 5003 3, longEntry 5006], writePoint := 5007
    freePoint := 5000, bus := { Consumer.cold with cursor := 5000 }, link := { Consumer.cold with cursor := 5000 } }

def drainingState : State := { State.reset with journal := draining }

theorem test_unread_words : draining.unread draining.bus = 56 := by decide
theorem test_read_journal_next :
    (cmdReadJournal 0 0 0 0 ⟨0x0300, 40⟩ drainingState).2.results =
      fromWord8 [4, 0, 5006, 0, 5007] := by decide
theorem test_release_inside_gap :
    (cmdReleaseJournal 0 0 5004 drainingState).2 = .done [0, 5006, 0, 16] := by decide
theorem test_release_beyond : (cmdReleaseJournal 0 0 5010 drainingState).2 = .refuse .range := by decide
theorem test_explicit_inside_gap :
    (cmdReadJournal 0 1 0 5004 ⟨0x0300, 16⟩ drainingState).2.results = fromWord8 [1, 0, 5006, 0, 5007] := by decide
theorem test_buffer_short :
    (cmdReadJournal 0 1 0 5006 ⟨0x0300, 8⟩ drainingState).2 = .refuse .bufferShort := by decide

/-- Section 10.7: over the link port, word 0001h written to request cell 025h is a request taken. -/
theorem test_link_request :
    ((dataLowByte 0x01
      { State.reset with
        link := { State.reset.link with pointer := 0x0025, phase := .data false, heldHigh := some 0 } }).channel 5).queue =
      [⟨0, .link⟩] := by decide

/-- R179: a buffer that runs past its page goes on at the page's first word. -/
theorem test_buffer_wraps : bufferAddr ⟨0x01FE, 8⟩ 3 = 0x0101 := by decide

/-- R175: 0101h is no request. -/
theorem test_request_other_word : writeRequestCell .bus 2 0x0101 State.reset = State.reset := by decide

/-! ## States that meet the statements' hypotheses

One theorem for each statement with hypotheses; the clauses of one statement stand in their order, with boundary values. -/

/-- A started part with a set clock. -/
def started : State := withRecord person
/-- The same in BATTERY-HOLD. -/
def held : State := { started with time := { time3 with power := .batteryHold } }
/-- The same without supply, as a fresh part. -/
def unpowered : State := { State.reset with time := { State.reset.time with power := .noSupply, retentionMark := false } }
/-- A start at its self-test. -/
def testing (kind : StartKind) : State :=
  { started with time := { time3 with start := some ⟨kind, .selfTest⟩, selfTest := .testing, clockUnset := true } }
/-- The clock at a second of a minute of a length. -/
def atSecond (second : Nat) (m : MinuteLength) (s : State) : State :=
  { s with time := { time3 with clock := ⟨3, 480, second⟩, minuteLength := m } }

theorem laneLaw_reset (l : Lane) : LaneLaw (State.reset.lane l) := by
  unfold LaneLaw; revert l; decide

theorem witness_StepRunsFrontCommand : ({ started with pending := [.readClock] } : State).pending = .readClock :: [] := by
  decide

/-- A lane that counts and a released door, neither at its last tick. -/
def counting : State := (started.setLane 1 { laneOf .rotation with bits := [true], gap := 2 }).setDoor 1 released
theorem witness_TickLowersCountdowns :
    counting.pending = [] ∧ running counting = true ∧ ∀ l, noExpiry counting l ∧ LaneLaw (counting.lane l) := by
  refine ⟨by decide, by decide, ?_⟩
  unfold noExpiry LaneLaw; decide

/-- Every countdown of lane 1 at its last tick: a released door and a gap; a held countdown at lane 2. -/
def expiring : State :=
  ((started.setLane 1 { laneOf .rotation with bits := [true], gap := 1 }).setDoor 1 { released with release := 1 }).setDoor 2
    { Door.cold with status := .passing, heldCount := 1 }
theorem witness_TickLowersCountdowns_expiries :
    expiring.pending = [] ∧ running expiring = true ∧ (∀ l, LaneLaw (expiring.lane l)) ∧ (expiring.lane 1).gap = 1 ∧
      (expiring.door 1).release = 1 ∧ (expiring.door 2).heldCount = 1 := by
  refine ⟨by decide, by decide, ?_, by decide, by decide, by decide⟩
  unfold LaneLaw; decide

theorem witness_CrystalSecondWithinMinute :
    (running (atSecond 58 .ordinary started) = true ∧ (atSecond 58 .ordinary started).time.minuteLength ≠ .longRepeated ∧
      (58 : Nat) < MinuteLength.ordinary.last) ∧ (57 : Nat) < MinuteLength.short.last ∧
      running (atSecond 59 .long started) = true ∧ (atSecond 59 .long started).time.minuteLength ≠ .longRepeated := by
  decide

theorem atMinuteEnd_each :
    (atSecond 59 .ordinary started).time.atMinuteEnd ∧ (atSecond 58 .short started).time.atMinuteEnd ∧
      (atSecond 59 .longRepeated started).time.atMinuteEnd := by
  unfold TimeBase.atMinuteEnd; decide

theorem witness_CrystalSecondEndsMinute :
    running (atSecond 59 .ordinary started) = true ∧ ClockLaw (atSecond 59 .ordinary started).time ∧
      (atSecond 59 .ordinary started).time.atMinuteEnd ∧ ClockLaw (atSecond 58 .short started).time ∧
      ClockLaw (atSecond 59 .longRepeated started).time :=
  ⟨by decide, clockLaw_time3 59 _ (by decide) (by decide) (by decide), atMinuteEnd_each.1,
    clockLaw_time3 58 _ (by decide) (by decide) (by decide), clockLaw_time3 59 _ (by decide) (by decide) (by decide)⟩

/-- The one attendance is due when minute 481 of day 3 begins. -/
def due : State := { atSecond 59 .ordinary present with attendance := [{ stay with deadline := some 4801 }] }
/-- The presence law of a part with one record, whose list holds its attendance exactly when it is IN. -/
theorem presenceLaw_of (s : State) (r : Record) (hr : s.roster = rosterOf r)
    (ha : s.attendance.map Attendance.slot = if r.presence = .inside then [0] else [])
    (hp : ∀ l, ∀ p ∈ (s.lane l).pending, p.slot = 0 ∧ r.pendingLane = some l ∧ p.kind.fits r.presence) : PresenceLaw s where
  single := by rw [ha]; split <;> simp
  present := by
    intro e he
    have hm := List.mem_map_of_mem (f := Attendance.slot) he
    rw [ha] at hm
    split at hm
    · rw [List.mem_singleton.mp hm, State.record, hr]; exact ⟨r, rfl, ‹_›⟩
    · cases hm
  listed := by
    intro a x hx hin
    simp only [State.record, hr, rosterOf, recordAt] at hx
    split at hx
    · cases hx; rw [ha, if_pos hin]; simp [*]
    · cases hx
  pending := by
    intro l p h
    obtain ⟨h1, h2, h3⟩ := hp l p h
    exact ⟨r, by rw [State.record, hr, h1]; rfl, h2, h3⟩

theorem presenceLaw_present (deadline : Option Nat) (s : State) (h : s.attendance = [{ stay with deadline }])
    (hr : s.roster = rosterOf inside) (hl : ∀ l, (s.lane l).pending = none) : PresenceLaw s :=
  presenceLaw_of s inside hr (by rw [h]; rfl) (fun l p hp => by rw [hl l] at hp; cases hp)
theorem lanes_reset : ∀ l : Lane, (State.reset.lane l).pending = none := by decide

/-- The presence law of a passage of slot 0 pending at lane 1. -/
theorem presenceLaw_pendingAt (sensor : Sensor) (p : PendingPassage) (d : Door) (s : State) (r : Record) (hr : s.roster = rosterOf r)
    (ha : s.attendance.map Attendance.slot = if r.presence = .inside then [0] else []) (h0 : p.slot = 0)
    (h1 : r.pendingLane = some 1) (h2 : p.kind.fits r.presence) (hl : ∀ l, (s.lane l).pending = none) :
    PresenceLaw (pendingAt sensor p d s) := by
  refine presenceLaw_of _ r hr ha ?_
  intro l q hq
  by_cases h : l = 1
  · subst h
    have : ((pendingAt sensor p d s).lane 1).pending = some p := by simp [pendingAt, laneOf, LaneState.empty]
    rw [this] at hq
    cases hq
    exact ⟨h0, h1, h2⟩
  · have : ((pendingAt sensor p d s).lane l) = s.lane l := by simp [pendingAt, h]
    rw [this, hl] at hq
    cases hq

theorem witness_MinuteEventClosesDueAttendances :
    running due = true ∧ ClockLaw due.time ∧ due.time.atMinuteEnd ∧ due.time.clockUnset = false ∧ OrderLaw due ∧
      PresenceLaw due ∧ MirrorLaw due ∧ ∃ e ∈ due.attendance, e.closesAt due 4801 := by
  refine ⟨by decide, clockLaw_time3 59 _ (by decide) (by decide) (by decide), atMinuteEnd_each.1, by decide, ?_,
    presenceLaw_present _ _ rfl rfl lanes_reset, fun _ => rfl, ?_⟩
  · unfold OrderLaw; simp [due]
  · refine ⟨_, List.mem_singleton.mpr rfl, ?_⟩
    unfold Attendance.closesAt; decide

/-- Two entries ring in minute 481 of day 3 at zone 0: entry 4 with a higher priority than entry 9. -/
def ringing : State :=
  let e : BellEntry := { BellEntry.cold with enabled := true, minute := 481, dayMask := 0x7F, zones := 1 }
  { atSecond 59 .ordinary started with
    bells :=
      { Bells.cold with
        schedule := vset (vset Bells.cold.schedule 9 e) 4 { e with pattern := 1 }
        patterns := vset (vset Bells.cold.patterns 0 ⟨5, 9, 1, 0, 1, 1⟩) 1 ⟨5, 9, 1, 0, 1, 2⟩ } }
theorem witness_MinuteEventRingsSchedule :
    running ringing = true ∧ ClockLaw ringing.time ∧ ringing.time.atMinuteEnd ∧ ringing.time.clockUnset = false ∧
      bellCandidate ringing 3 481 0 4 ∧ bellCandidate ringing 3 481 0 9 ∧ ringing.bells.accepts 0 1 := by
  refine ⟨by decide, clockLaw_time3 59 _ (by decide) (by decide) (by decide), atMinuteEnd_each.1, by decide, ?_, ?_, ?_⟩
  · unfold bellCandidate bellFires; refine ⟨⟨by decide, ?_⟩, by decide, by decide⟩; rw [if_pos (by decide)]; decide
  · unfold bellCandidate bellFires; refine ⟨⟨by decide, ?_⟩, by decide, by decide⟩; rw [if_pos (by decide)]; decide
  · unfold Bells.accepts; decide

theorem witness_EventsInHold :
    (held.time.power = .batteryHold ∧ held.time.minuteLength ≠ .longRepeated ∧
      held.time.clock.second < held.time.minuteLength.last) ∧
    (∀ s ∈ [testing .warm, testing .reset], s.time.power = .mainsRun ∧ s.time.start ≠ none ∧
      s.time.minuteLength ≠ .longRepeated ∧ s.time.clock.second < s.time.minuteLength.last) ∧
    ∀ power ∈ [PowerState.batteryHold, .mainsRun],
      ∀ s ∈ [{ atSecond 59 .long (testing .warm) with
          time := { (atSecond 59 .long (testing .warm)).time with power, start := some ⟨.warm, .selfTest⟩ } }],
        s.time.power = power ∧ s.time.start ≠ none ∧ s.time.minuteLength = .long ∧ s.time.clock.second = 59 := by
  decide

/-- The minute ends in the hold, and in a start. -/
theorem witness_EventsInHold_minuteEnd (power : PowerState) (start : Option StartProgress) :
    ClockLaw { (atSecond 59 .ordinary started).time with power, start } ∧
      ({ (atSecond 59 .ordinary started).time with power, start } : TimeBase).atMinuteEnd := by
  obtain ⟨h1, h2, h3, h4, h5, h6, h7, h8, h9⟩ := clockLaw_time3 59 .ordinary (by decide) (by decide) (by decide)
  exact ⟨⟨h1, h2, h3, h4, h5, h6, h7, h8, h9⟩, .inl ⟨rfl, rfl⟩⟩

/-- Each clause: no attendance due, one due on day 4, entries that ring at 08:01, none enabled. -/
theorem witness_SetClockResult :
    (engineOpen State.reset = true ∧ (0x059F : Word).toNat ≤ 1439 ∧ (0x003B : Word).toNat ≤ 59 ∧ (6 : Word).toNat ≤ 6 ∧
      (∀ e ∈ State.reset.attendance, ∀ d ∈ e.deadline, 3 * 1440 + 1439 < d) ∧
      ∀ i, (vget State.reset.bells.schedule i).enabled = false) ∧
    (engineOpen present = true ∧ OrderLaw present ∧ PresenceLaw present ∧ MirrorLaw present ∧
      ∃ e ∈ present.attendance, e.closesAt present (4 * 1440)) ∧
    engineOpen ringing = true ∧ bellCandidate ringing 3 481 0 4 := by
  refine ⟨⟨by decide, by decide, by decide, by decide, by decide, ?_⟩,
    ⟨by decide, ?_, presenceLaw_present _ _ rfl rfl lanes_reset, fun _ => rfl, ?_⟩, by decide,
    witness_MinuteEventRingsSchedule.2.2.2.2.1⟩
  · intro i; simp [State.reset, Bells.cold, BellEntry.cold]
  · unfold OrderLaw; simp [present]
  · refine ⟨_, List.mem_singleton.mpr rfl, ?_⟩
    unfold Attendance.closesAt; decide

theorem witness_SetClockResult_refused :
    firstOut [True, (1440 : Word).toNat ≤ 1439, (60 : Word).toNat ≤ 59, (7 : Word).toNat ≤ 6] 1 ∧
      firstOut [True, (1439 : Word).toNat ≤ 1439, (59 : Word).toNat ≤ 59, (7 : Word).toNat ≤ 6] 3 :=
  ⟨first_next trivial (first_here (by decide)),
    first_next trivial (first_next (by decide) (first_next (by decide) (first_here (by decide))))⟩

theorem witness_TrimReadAcknowledge :
    engineOpen State.reset = true ∧ State.reset.time.clockUnset = true ∧ engineOpen started = true ∧
      started.time.clockUnset = false := by
  decide

theorem witness_MainsTripKeepsRetained : started.time.power = .mainsRun := by decide

theorem witness_MainsArrivalDecides :
    held.time.power ≠ .mainsRun ∧ held.time.retentionLatch = false ∧ held.time.retentionMark = true ∧
      unpowered.time.power ≠ .mainsRun ∧ unpowered.time.retentionMark = false ∧
      ({ held with time := { held.time with retentionLatch := true } } : State).time.retentionLatch = true := by
  decide

theorem witness_UnpoweredPartComesUpFresh :
    unpowered.time.power = .noSupply ∧ unpowered.time.retentionMark = false ∧ unpowered.time.retentionLatch = false ∧
      unpowered.pins = State.reset.pins := by
  decide

/-- The hold with a record pending. -/
def heldPending : State := { held with roster := rosterOf (pendingPerson person) }
theorem lapsed_one (s : State) (h : s.roster = rosterOf (pendingPerson person)) :
    pendingRecords s [(0, pendingPerson person)] := by
  refine ⟨List.pairwise_singleton _ _, fun a r => ?_⟩
  simp only [List.mem_singleton, Prod.mk.injEq, State.record, h, rosterOf, recordAt]
  constructor
  · rintro ⟨rfl, rfl⟩; exact ⟨rfl, by decide⟩
  · rintro ⟨h1, -⟩
    split at h1
    · cases h1; exact ⟨by simp_all, rfl⟩
    · cases h1

theorem witness_WarmStartKeepsRetained :
    (held.time.power = .batteryHold ∧ held.time.retentionLatch = false ∧ held.time.retentionMark = true ∧
      ∀ p ∈ held.roster.records, p.2.pendingLane = none) ∧
    heldPending.time.power = .batteryHold ∧ heldPending.time.retentionLatch = false ∧ heldPending.time.retentionMark = true ∧
      RosterLaw heldPending.roster ∧ pendingRecords heldPending [(0, pendingPerson person)] :=
  ⟨by decide, by decide, by decide, by decide, rosterLaw_of _ rfl, lapsed_one _ rfl⟩

/-- A part with a record pending, started or at a stage of a start. -/
def startingAt (start : Option StartProgress) : State :=
  { withRecord (pendingPerson person) with time := { time3 with start, selfTest := .testing } }
theorem witness_ResetAssertRestarts :
    (running started = true ∧ running (startingAt none) = true) ∧
      ∀ start, RosterLaw (startingAt start).roster ∧ pendingRecords (startingAt start) [(0, pendingPerson person)] ∧
        (startingAt start).time.power = .mainsRun ∧ (startingAt start).time.start = start :=
  ⟨by decide, fun _ => ⟨rosterLaw_of _ rfl, lapsed_one _ rfl, rfl, rfl⟩⟩

theorem witness_SelfTestEndOpensGate :
    ((testing .warm).time.power = .mainsRun ∧ (testing .warm).time.start = some ⟨.warm, .selfTest⟩ ∧
      (testing .warm).pins.emergencyLine = false ∧ (testing .warm).gate.emergency = false ∧
      (testing .reset).time.start = some ⟨.reset, .selfTest⟩ ∧ (testing .reset).time.clockUnset = true) ∧
    ∀ line ∈ [true, false], ∀ emergency ∈ [true, false],
      ∀ s ∈ [{ testing .warm with
          pins := { (testing .warm).pins with emergencyLine := line }, gate := { (testing .warm).gate with emergency } }],
        s.time.power = .mainsRun ∧ s.time.start = some ⟨.warm, .selfTest⟩ ∧ s.pins.emergencyLine = line ∧
          s.gate.emergency = emergency := by
  decide

/-! ### Roster -/

/-- The load image of the badge at 0300h, over a state. -/
def withImage (s : State) : State :=
  { s with
    memory :=
      [(0x0300, 12), (0x0302, 40001), (0x0303, 1), (0x0305, 7), (0x0306, 3), (0x0308, 0xF)] }
def buffer : Buffer := ⟨0x0300, 0x0100⟩

theorem fits (n : Nat) (h : n ≤ 256) : bufferFits buffer n := by
  refine ⟨by decide, by decide, ?_⟩
  have : min buffer.len.toNat 256 = 256 := by decide
  omega

theorem image_inRange (s : State) : (readLoadImage (withImage s).memory buffer).inRange := by
  unfold LoadImage.inRange
  simp only [withImage]
  decide

theorem rosterLaw_empty : RosterLaw Roster.empty where
  slots := by simp [Roster.empty]
  keys := by simp [Roster.empty]
  indexed := by simp [Roster.empty]
  backed := by simp [Roster.empty]
  census := by decide
  occupied := by decide

theorem witness_LoadRecordCreates :
    engineOpen (withImage State.reset) = true ∧ RosterLaw (withImage State.reset).roster ∧ bufferFits buffer 10 ∧
      (readLoadImage (withImage State.reset).memory buffer).inRange ∧
      (∀ e ∈ (withImage State.reset).roster.index, e.key ≠ (readLoadImage (withImage State.reset).memory buffer).key) ∧
      (withImage State.reset).record 0 = none ∧ ∀ b : Slot, b < 0 → ((withImage State.reset).record b).isSome = true :=
  ⟨by decide, rosterLaw_empty, fits 10 (by decide), image_inRange _, by simp [withImage, State.reset, Roster.empty],
    by decide, fun b h => absurd h (Fin.not_lt_zero b)⟩

/-- A roster with every slot occupied, by the keys 0 / 0 to 0 / 2047. -/
def numbered (a : Slot) : Key := ⟨0, BitVec.ofNat 18 a.val⟩
def fullRoster : Roster :=
  { records := (List.finRange 2048).map (fun a => (a, { person with key := numbered a }))
    index := (List.finRange 2048).map (fun a => ⟨numbered a, a⟩)
    census := vset (Vector.replicate 64 0) 0 2048, occupied := 2048 }
def full : State := withImage { started with roster := fullRoster }

theorem rank_numbered (a : Slot) : (numbered a).rank = a.val := by
  have : a.val < 262144 := by omega
  simp [numbered, Key.rank, Nat.mod_eq_of_lt this]

theorem rosterLaw_full : RosterLaw fullRoster where
  slots := by
    simp only [fullRoster, List.pairwise_map]
    exact List.pairwise_lt_finRange 2048
  keys := by
    simp only [fullRoster, List.pairwise_map, rank_numbered]
    exact List.pairwise_lt_finRange 2048
  indexed := by simp [fullRoster]
  backed := by simp [fullRoster]
  census := by
    intro site
    have h : ∀ a : Slot, siteNumber (numbered a) = 0 := fun a => rfl
    simp only [fullRoster, siteCount, List.filter_map, Function.comp_def, h]
    by_cases hs : site = 0
    · subst hs; simp
    · simp [hs, Ne.symm hs]
  occupied := by simp [fullRoster]

theorem recordAt_isSome (a : Slot) (l : List Slot) (h : a ∈ l) :
    (recordAt (l.map (fun a => (a, { person with key := numbered a }))) a).isSome = true := by
  induction l with
  | nil => cases h
  | cons b l ih =>
    rw [List.map_cons, recordAt]
    split
    · rfl
    · rename_i hne; exact ih ((List.mem_cons.mp h).resolve_left hne)

theorem witness_LoadRecordCreates_refused :
    engineOpen full = true ∧ RosterLaw full.roster ∧ bufferFits buffer 10 ∧ (readLoadImage full.memory buffer).inRange ∧
      (∀ e ∈ full.roster.index, e.key ≠ (readLoadImage full.memory buffer).key) ∧ (∀ a, (full.record a).isSome = true) ∧
      firstOut (readLoadImage [(0x0309, 4)] buffer).ranges 9 := by
  refine ⟨by unfold full withImage; generalize fullRoster = r; rfl, rosterLaw_full, fits 10 (by decide),
    image_inRange { started with roster := fullRoster }, ?_,
    fun a => by simpa only [State.record, full, withImage, fullRoster] using recordAt_isSome a _ (List.mem_finRange a), ?_⟩
  · have hk : (readLoadImage full.memory buffer).key.site ≠ 0 := by simp only [full, withImage]; decide
    intro e he heq
    simp only [full, withImage, fullRoster, List.mem_map] at he
    obtain ⟨a, -, rfl⟩ := he
    rw [← heq] at hk
    exact hk rfl
  · exact first_next (by decide) <| first_next (by decide) <| first_next (by decide) <| first_next (by decide) <|
      first_next (by decide) <| first_next (by decide) <| first_next (by decide) <| first_next (by decide) <|
      first_next (by decide) <| first_here (by decide)

theorem witness_LoadRecordUpdates :
    engineOpen (withImage started) = true ∧ RosterLaw (withImage started).roster ∧ bufferFits buffer 10 ∧
      (readLoadImage (withImage started).memory buffer).inRange ∧ (withImage started).record 0 = some person ∧
      person.key = (readLoadImage (withImage started).memory buffer).key ∧ person.pendingLane = none ∧
      (withImage (withRecord (pendingPerson person))).record 0 = some (pendingPerson person) ∧
      (pendingPerson person).pendingLane ≠ none :=
  ⟨by decide, rosterLaw_of _ rfl, fits 10 (by decide), image_inRange _, by decide, by decide, by decide, by decide,
    by decide⟩

theorem refers (r : Record) (h : r.key = key) : refersTo 1 0 5 6 0 r ∧ refersTo 0 12 0 40001 0 r := by
  refine ⟨.inl ⟨rfl, by decide⟩, .inr ⟨rfl, ?_, ?_⟩⟩ <;> rw [h] <;> decide

theorem witness_DeleteRecordResult :
    engineOpen started = true ∧ RosterLaw started.roster ∧ started.record 0 = some person ∧
      refersTo 1 0 5 6 0 person ∧ refersTo 0 12 0 40001 0 person ∧ person.pendingLane = none ∧ person.presence = .out ∧
      (withRecord inside).record 0 = some inside ∧ inside.pendingLane = none ∧ inside.presence = .inside ∧
      (pendingPerson person).pendingLane ≠ none :=
  ⟨by decide, rosterLaw_of _ rfl, by decide, (refers _ rfl).1, (refers _ rfl).2, by decide, by decide, by decide,
    by decide, by decide, by decide⟩

/-- The free slot 2,047, and the key 12 / 40,002 of no record. -/
theorem nowhere (s : State) (r : Record) (hs : s.roster = rosterOf r) (hk : r.key = key) :
    refersNowhere s 1 2047 0 0 ∧ refersNowhere s 0 12 0 40002 := by
  have h : ∀ a x, s.record a = some x → a = 0 ∧ x = r := by
    intro a x hx
    rw [State.record, hs] at hx
    simp only [rosterOf, recordAt] at hx
    split at hx
    · cases hx; exact ⟨by assumption, rfl⟩
    · cases hx
  refine ⟨⟨by decide, fun a x hx => ?_⟩, ⟨by decide, fun a x hx => ?_⟩⟩ <;> obtain ⟨rfl, rfl⟩ := h a x hx <;>
    unfold refersTo <;> rw [hk] <;> decide

/-- A slot, a site, a number high part and a selector above their ranges, and the highest of each in range. -/
theorem references (base : Nat) :
    badReference base 1 2048 0 = some (base + 1) ∧ badReference base 0 64 4 = some (base + 1) ∧
      badReference base 0 63 4 = some (base + 2) ∧ badReference base 2 0 0 = some base ∧
      badReference base 1 2047 0 = none ∧ badReference base 0 63 3 = none :=
  ⟨rfl, rfl, rfl, rfl, rfl, rfl⟩

theorem witness_DeleteRecordResult_refused :
    badReference 0 1 2048 0 = some 1 ∧ badReference 0 0 63 4 = some 2 ∧ RosterLaw started.roster ∧
      refersNowhere started 1 2047 0 0 ∧ refersNowhere started 0 12 0 40002 :=
  ⟨(references 0).1, (references 0).2.2.1, rosterLaw_of _ rfl, (nowhere _ _ rfl rfl).1, (nowhere _ _ rfl rfl).2⟩

theorem witness_ReadRecordAndTotals_refused :
    badReference 0 2 0 0 = some 0 ∧ badReference 0 0 63 3 = none ∧ bufferRefused ⟨0x1FFF, 35⟩ 36 .bufferShort ∧
      bufferRefused ⟨0x2000, 0⟩ 20 .badBuffer ∧ refersNowhere started 1 2047 0 0 ∧ bufferFits buffer 36 ∧
      bufferFits buffer 20 :=
  ⟨(references 0).2.2.2.1, (references 0).2.2.2.2.2, (refused 36 (by decide) (by decide)).2.2,
    (refused 20 (by decide) (by decide)).2.1, (nowhere _ _ rfl rfl).1, fits 36 (by decide), fits 20 (by decide)⟩

theorem witness_ReadRecordAndTotals :
    engineOpen started = true ∧ RosterLaw started.roster ∧ started.record 0 = some person ∧
      refersTo 1 0 5 6 0 person ∧ bufferFits buffer 36 ∧ bufferFits buffer 20 :=
  ⟨by decide, rosterLaw_of _ rfl, by decide, (refers _ rfl).1, fits 36 (by decide), fits 20 (by decide)⟩

theorem witness_ScanIndexResult :
    engineOpen started = true ∧ RosterLaw started.roster ∧ bufferFits buffer 4 ∧ (63 : Word).toNat ≤ 63 ∧
      (3 : Word).toNat ≤ 3 :=
  ⟨by decide, rosterLaw_of _ rfl, fits 4 (by decide), by decide, by decide⟩

theorem witness_ScanIndexResult_refused :
    firstOut [(63 : Word).toNat ≤ 63, (4 : Word).toNat ≤ 3] 1 ∧ bufferRefused ⟨0x1FFF, 3⟩ 4 .bufferShort :=
  ⟨first_next (by decide) (first_here (by decide)), (refused 4 (by decide) (by decide)).2.2⟩

/-! ### Lanes and punches -/

theorem witness_LaneConfiguration_refused :
    firstOut
        [(3 : Word).toNat ≤ 3, (3 : Word).toNat ≤ 3, (2 : Word).toNat ≤ 2, 1 ≤ (1 : Word).toNat ∧ (1 : Word).toNat ≤ 255,
         1 ≤ (0 : Word).toNat ∧ (0 : Word).toNat ≤ 255, (2 : Word).toNat ≤ 2, (1 : Word).toNat ≤ 1,
         ((0x0700 : Word).toNat / 256) % 8 ≠ 7] 4 ∧
      3 < (4 : Word).toNat ∧ bufferRefused ⟨0x1FFF, 31⟩ 32 .bufferShort :=
  ⟨first_next (by decide) <| first_next (by decide) <| first_next (by decide) <| first_next (by decide) <|
      first_here (by decide), by decide, (refused 32 (by decide) (by decide)).2.2⟩

theorem witness_LaneConfiguration :
    engineOpen started = true ∧ (3 : Word).toNat ≤ 3 ∧ (2 : Word).toNat ≤ 2 ∧ 1 ≤ (1 : Word).toNat ∧
      (255 : Word).toNat ≤ 255 ∧ (1 : Word).toNat ≤ 1 ∧ ((0x06FF : Word).toNat / 256) % 8 ≠ 7 ∧
      (started.lane 1).pending = none ∧
      ((pendingAt .rotation (passage .inPunch) released started).lane 1).pending ≠ none ∧ bufferFits buffer 32 ∧
      ∀ bell ∈ [true, false],
        ∀ s ∈ [(started.setLane 1 (laneOf .contact)).setDoor 1 { Door.cold with status := .passing, heldBell := bell }],
          engineOpen s = true ∧ (s.lane 1).pending = none ∧ (s.lane 1).config.sensor = .contact ∧
            (s.door 1).status = .passing ∧ (s.door 1).heldBell = bell :=
  ⟨by decide, by decide, by decide, by decide, by decide, by decide, by decide, by decide, by decide, fits 32 (by decide),
    by decide⟩

/-- Section 11.3: words 13–31 of the image of a lane that holds a passage with an instance and an untimed waiting read. -/
theorem test_lane_image_words :
    ({ passage .exitAgain with slot := 5, softPassback := true, direction := .outward, shiftDay := some ⟨3, 9⟩ } :
        PendingPassage).words = [5, 12, 0, 40001, 1, 5 + 32 + 128 + 256, 3, 9, 3, 480, 20] ∧
      (⟨⟨⟨63, 0x30001⟩, 15⟩, ⟨1, 2, 3⟩, true⟩ : BadgeRead).words = [63, 3, 1, 15, 1, 2, 3, 1] := by
  decide

theorem witness_ReaderClockPulseAppends :
    (started.lane 1).config.mode = .disabled ∧ running held = false ∧
      running (atLane .contact (frame.take 35) started) = true ∧
      ((atLane .contact (frame.take 35) started).lane 1).config.mode ≠ .disabled ∧
      ((atLane .contact (frame.take 35) started).lane 1).bits.length < 36 := by
  decide

/-- Lane 1 with a frame in its assembly and a passage of another badge pending. -/
def busy (waiting : Option BadgeRead) : State :=
  started.setLane 1
    { laneOf .rotation with
      bits := frame, gap := 3, pending := some { passage .reEntry with badge := otherBadge }, waiting }

theorem witness_FramesOutsideClassification :
    (running (atLane .none [true] started) = true ∧ ((atLane .none [true] started).lane 1).config.mode ≠ .disabled ∧
      ((atLane .none [true] started).lane 1).bits ≠ [] ∧ frameValid ((atLane .none [true] started).lane 1).bits = false) ∧
    ((busy none).lane 1).bits.length = 36 ∧ frameValid ((busy none).lane 1).bits = true ∧
      ((busy none).lane 1).pending = some { passage .reEntry with badge := otherBadge } ∧
      frameBadge ((busy none).lane 1).bits ≠ otherBadge ∧ ((busy none).lane 1).waiting = none ∧
      ((busy (some ⟨badge, time3.clock, false⟩)).lane 1).waiting = some ⟨badge, time3.clock, false⟩ ∧
      ((busy (some ⟨⟨key, 2⟩, time3.clock, false⟩)).lane 1).waiting = some ⟨⟨key, 2⟩, time3.clock, false⟩ ∧
      frameBadge ((busy none).lane 1).bits ≠ ⟨key, 2⟩ := by
  decide

theorem witness_UnknownBadgeIsDenied :
    running (atLane .none frame State.reset) = true ∧
      ((atLane .none frame State.reset).lane 1).config.mode ≠ .disabled ∧
      frameValid ((atLane .none frame State.reset).lane 1).bits = true ∧
      ((atLane .none frame State.reset).lane 1).pending = none ∧ RosterLaw (atLane .none frame State.reset).roster ∧
      ∀ e ∈ (atLane .none frame State.reset).roster.index, e.key ≠ key :=
  ⟨by decide, by decide, by decide, by decide, rosterLaw_empty,
    by simp [atLane, State.setLane, State.setLanes, State.reset, Roster.empty]⟩

/-- Lane 1 with the badge's frame, in a lane mode, over a state whose one record is r. -/
def reading (mode : LaneMode) (passback : PassbackPolicy) (s : State) : State :=
  s.setLane 1
    { LaneState.empty { LaneConfig.cold with mode, sensor := .rotation, passback } with bits := frame, gap := 3 }

theorem reading_lane (mode : LaneMode) (passback : PassbackPolicy) (s : State) :
    (reading mode passback s).lane 1 =
      ⟨{ LaneConfig.cold with mode, sensor := .rotation, passback }, frame, 3, 0, none, none⟩ :=
  State.lane_setLane_self s 1 _

theorem finds (mode : LaneMode) (passback : PassbackPolicy) (h : mode ≠ .disabled) (s : State) (r : Record)
    (hs : running s = true) (hr : s.roster = rosterOf r) (hk : r.key = key) (hi : r.issue = 1) (hu : r.suspended = false)
    (hp : r.permissions = 0xF) : frameFinds (reading mode passback s) 1 0 r := by
  have e : (reading mode passback s).roster = rosterOf r := hr
  refine ⟨hs, ?_, ?_, ?_, ?_, ?_, ?_, hu, ?_⟩
  · rw [reading_lane]; exact h
  · rw [reading_lane]; exact test_frame_example.1
  · rw [reading_lane]
  · rw [e]; exact rosterLaw_of r hk
  · rw [State.record, e]; rfl
  · rw [reading_lane, hk, hi]; exact test_frame_example.2
  · rw [hp]; decide

theorem witness_GrantMakesPending :
    frameFinds (reading .toggle .hard started) 1 0 person ∧ (reading .toggle .hard started).gate.emergency = false ∧
      (reading .toggle .hard started).gate.lockdown = false ∧ person.pendingLane = none ∧
      (reading .toggle .hard started).time.clockUnset = false ∧
      ((reading .toggle .hard started).lane 1).config.sensor ≠ .none ∧
      ((reading .toggle .hard started).door 1).status = .locked ∧ person.presence = .out ∧
      frameFinds (reading .exit .hard present) 1 0 inside ∧ inside.presence = .inside ∧
      ((reading .exit .hard present).attendance.map Attendance.slot).Nodup ∧ stay ∈ (reading .exit .hard present).attendance ∧
      stay.slot = 0 :=
  ⟨finds _ _ (by decide) _ _ (by decide) rfl rfl rfl rfl rfl, by decide, by decide, by decide, by decide, by decide,
    by decide, by decide, finds _ _ (by decide) _ _ (by decide) rfl rfl rfl rfl rfl, by decide, by decide, by decide,
    by decide⟩

/-- The clause of every classification: a frame at a lane with any sensor and any door. -/
theorem witness_GrantMakesPending_classified (sensor : Sensor) (d : Door) :
    ∀ s ∈ [(started.setLane 1 { laneOf sensor with bits := frame, gap := 3 }).setDoor 1 d],
      running s = true ∧ (s.lane 1).config.mode ≠ .disabled ∧ frameValid (s.lane 1).bits = true ∧
        (s.lane 1).pending = none ∧ (s.lane 1).waiting = none ∧ RosterLaw s.roster ∧ PresenceLaw s ∧ (s.door 1).status = d.status := by
  intro s hs
  rw [List.mem_singleton.mp hs]
  have hl : ∀ l, (((started.setLane 1 { laneOf sensor with bits := frame, gap := 3 }).setDoor 1 d).lane l).pending = none := by
    intro l
    by_cases h : l = 1
    · subst h; simp [laneOf, LaneState.empty]
    · rw [State.lane_setDoor, State.lane_setLane_other _ _ _ _ h]; exact lanes_reset l
  refine ⟨rfl, ?_, ?_, hl 1, ?_, rosterLaw_of _ rfl, presenceLaw_of _ person rfl rfl ?_, ?_⟩
  · simp [laneOf, LaneState.empty]
  · simpa using test_frame_example.1
  · simp [laneOf, LaneState.empty]
  · intro l p hp; rw [hl l] at hp; cases hp
  · simp

/-- The same part with the clock unset. -/
def untimed : State := { started with time := { time3 with clockUnset := true } }

theorem witness_PassbackAndUntimed :
    frameFinds (reading .entry .hard untimed) 1 0 person ∧ (reading .entry .hard untimed).time.clockUnset = true ∧
      frameFinds (reading .entry .soft present) 1 0 inside ∧ (reading .entry .soft present).time.clockUnset = false ∧
      ((reading .entry .soft present).lane 1).config.mode = .entry ∧ inside.presence = .inside ∧
      frameFinds (reading .exit .hard started) 1 0 person ∧ ((reading .exit .hard started).lane 1).config.mode = .exit ∧
      person.presence = .out ∧ person.exempt = false ∧ (reading .entry .soft present).gate.windowCountdown = 0 ∧
      ((reading .exit .hard started).door 1).status = .locked :=
  ⟨finds _ _ (by decide) _ _ (by decide) rfl rfl rfl rfl rfl, by decide,
    finds _ _ (by decide) _ _ (by decide) rfl rfl rfl rfl rfl, by decide, by decide, by decide,
    finds _ _ (by decide) _ _ (by decide) rfl rfl rfl rfl rfl, by decide, by decide, by decide, by decide, by decide⟩

theorem witness_RefusalsAndMuster :
    ∀ r ∈ [{ person with issue := 2 }, { person with suspended := true }, { person with permissions := 0xD }, person],
      running (reading .toggle .hard (withRecord r)) = true ∧
        ((reading .toggle .hard (withRecord r)).lane 1).config.mode ≠ .disabled ∧
        frameValid ((reading .toggle .hard (withRecord r)).lane 1).bits = true ∧
        ((reading .toggle .hard (withRecord r)).lane 1).pending = none ∧
        RosterLaw (reading .toggle .hard (withRecord r)).roster ∧
        (reading .toggle .hard (withRecord r)).record 0 = some r ∧
        (frameBadge ((reading .toggle .hard (withRecord r)).lane 1).bits).key = r.key := by
  intro r hr
  have hk : r.key = key := by simp at hr; rcases hr with h | h | h | h <;> rw [h] <;> rfl
  refine ⟨rfl, ?_, ?_, ?_, rosterLaw_of r hk, rfl, ?_⟩ <;> rw [reading_lane]
  · decide
  · exact test_frame_example.1
  · rw [hk]; exact congrArg Badge.key test_frame_example.2

theorem witness_PassageOpensAttendance :
    ∀ p ∈ [{ passage .inPunch with shiftDay := some ⟨3, 3⟩ }, passage .inUnscheduled],
      ∀ s ∈ [pendingAt .rotation p released (withRecord (pendingPerson person))],
        running s = true ∧ (s.lane 1).config.sensor = .rotation ∧ (s.door 1).status = .released ∧
          (s.lane 1).pending = some p ∧ (s.lane 1).waiting = none ∧ s.record p.slot = some (pendingPerson person) ∧
          ((p.kind = .inPunch ∧ p.shiftDay ≠ none) ∨ p.kind = .inUnscheduled) := by
  decide

theorem witness_PassageClosesAttendance :
    ∀ s ∈ [pendingAt .contact (passage .outPunch) released
        { present with roster := rosterOf (pendingPerson inside) }],
      running s = true ∧ (s.lane 1).config.sensor = .contact ∧ (s.door 1).status = .released ∧
        (s.lane 1).pending = some (passage .outPunch) ∧ (s.lane 1).waiting = none ∧ (passage .outPunch).kind = .outPunch ∧
        s.record 0 = some (pendingPerson inside) ∧ (s.attendance.map Attendance.slot).Nodup ∧ stay ∈ s.attendance ∧
        stay.slot = (passage .outPunch).slot := by
  decide

theorem witness_PendingPassageEnds :
    (∀ s ∈ [pendingAt .rotation (passage .inPunch) { released with release := 1 } (withRecord (pendingPerson person))],
      running s = true ∧ (s.lane 1).pending = some (passage .inPunch) ∧ (s.lane 1).waiting = none ∧
        s.record 0 = some (pendingPerson person) ∧ (s.door 1).status = .released ∧ 0 < (s.door 1).release) ∧
    ∀ s ∈ [pendingAt .contact { passage .untimedGrant with reportDue := true }
        { Door.cold with status := .passing, heldCount := 3000 } (withRecord (pendingPerson person))],
      running s = true ∧ (s.lane 1).pending = some { passage .untimedGrant with reportDue := true } ∧
        (s.lane 1).waiting = none ∧ s.record 0 = some (pendingPerson person) := by
  decide

/-- The same with a read waiting. -/
def waitingToo (s : State) : State := s.setLane 1 { s.lane 1 with waiting := some ⟨otherBadge, time3.clock, false⟩ }
theorem presenceLaw_waitingToo (s : State) (h : PresenceLaw s) : PresenceLaw (waitingToo s) where
  single := h.single
  present := h.present
  listed := h.listed
  pending := by
    intro l p hp
    refine h.pending l p ?_
    by_cases hl : l = 1
    · subst hl; simpa [waitingToo] using hp
    · simpa [waitingToo, hl] using hp

/-- Each kind of report, with and without a read waiting: the laws and the lane hold for every punch kind that fits. -/
theorem witness_PendingPassageEnds_resolves (sensor : Sensor) (d : Door) (p : PendingPassage) (h0 : p.slot = 0)
    (hk : p.kind.fits .out) :
    ∀ s ∈ [pendingAt sensor p d (withRecord (pendingPerson person)),
        waitingToo (pendingAt sensor p d (withRecord (pendingPerson person)))],
      running s = true ∧ (s.lane 1).pending = some p ∧ s.record p.slot = some (pendingPerson person) ∧
        (s.lane 1).config.mode ≠ .disabled ∧ RosterLaw s.roster ∧ PresenceLaw s ∧ (s.lane 1).config.sensor = sensor ∧
        (s.door 1) = d := by
  have law := presenceLaw_pendingAt sensor p d (withRecord (pendingPerson person)) (pendingPerson person) rfl rfl h0 rfl hk
    lanes_reset
  have hr : recordAt (rosterOf (pendingPerson person)).records p.slot = some (pendingPerson person) := by rw [h0]; rfl
  intro s hs
  rcases List.mem_cons.mp hs with h | h
  · rw [h]
    refine ⟨rfl, ?_, hr, ?_, rosterLaw_of _ rfl, law, ?_, ?_⟩ <;> simp [pendingAt, laneOf, LaneState.empty]
  · rw [List.mem_singleton.mp h]
    refine ⟨rfl, ?_, hr, ?_, rosterLaw_of _ rfl, presenceLaw_waitingToo _ law, ?_, ?_⟩ <;>
      simp [waitingToo, pendingAt, laneOf, LaneState.empty]

/-- The punches that close find the record IN and its attendance in the list. -/
theorem witness_PendingPassageEnds_closes :
    ∀ k ∈ [PunchKind.outPunch, .outUnscheduled], k.fits .inside ∧
      ∀ s ∈ [pendingAt .rotation (passage k) released { present with roster := rosterOf (pendingPerson inside) }],
        PresenceLaw s ∧ stay ∈ s.attendance ∧ stay.slot = (passage k).slot ∧ stay.schedule = none := by
  intro k hk
  have hf : k.fits .inside := by
    rcases List.mem_cons.mp hk with h | h
    · rw [h]; rfl
    · rw [List.mem_singleton.mp h]; rfl
  refine ⟨hf, fun s hs => ?_⟩
  rw [List.mem_singleton.mp hs]
  exact ⟨presenceLaw_pendingAt _ _ _ _ (pendingPerson inside) rfl rfl rfl rfl hf lanes_reset, List.mem_singleton.mpr rfl, rfl, rfl⟩

/-! ### Doors -/

theorem witness_ExpiryRows : running started = true := by decide

/-- Lane 1 with a sensor and a door. -/
def doorAt (sensor : Sensor) (d : Door) : State := (started.setLane 1 (laneOf sensor)).setDoor 1 d

theorem witness_DoorAlarms :
    (running (doorAt .rotation Door.cold) = true ∧ ((doorAt .rotation Door.cold).lane 1).config.sensor = .rotation ∧
      ((doorAt .rotation Door.cold).door 1).status = .locked ∧ ((doorAt .rotation Door.cold).door 1).forced = false) ∧
    ((doorAt .rotation { Door.cold with status := .lockdown, forced := true }).door 1).status = .lockdown ∧
      ((doorAt .rotation { Door.cold with status := .lockdown, forced := true }).door 1).forced = true ∧
    ∀ latch ∈ [true, false], ∀ s ∈ [doorAt .contact { Door.cold with status := .passing, heldCount := 1, held := latch }],
      running s = true ∧ (s.door 1).status = .passing ∧ 0 < (s.door 1).heldCount ∧ (s.door 1).held = latch := by
  decide

/-- A RELEASED door without a pending passage, at each sensor, its countdown at its last tick or at the longest release time. -/
theorem witness_DoorAlarms_released :
    ∀ sensor ∈ [Sensor.none, .rotation, .contact], ∀ ticks ∈ [1, 2550],
      ∀ s ∈ [doorAt sensor { Door.cold with status := .released, release := ticks }],
        running s = true ∧ (s.door 1).status = .released ∧ (s.lane 1).pending = none ∧ (s.lane 1).config.sensor = sensor ∧
          0 < (s.door 1).release := by
  decide

/-- A contact opening at each door it does not release, and each sensor. -/
theorem witness_DoorAlarms_openings :
    ∀ sensor ∈ [Sensor.none, .rotation, .contact], ∀ status ∈ [DoorStatus.locked, .lockdown, .passing, .free],
      ∀ latch ∈ [true, false], ∀ s ∈ [doorAt sensor { Door.cold with status, forced := latch }],
        running s = true ∧ (s.lane 1).config.sensor = sensor ∧ (s.door 1).status = status ∧ (s.door 1).forced = latch := by
  decide

/-- R186: a broken wire to the fire panel is an assertion, one at the reset line is none; the reader's bit is 1 with its data low. -/
theorem test_line_levels :
    emergencyRows .high .openCircuit = [.emergencyAssert] ∧ emergencyRows .openCircuit .low = [] ∧
      emergencyRows .low .high = [.emergencyRelease] ∧ resetRows .high .low = [.resetAssert] ∧
      resetRows .high .openCircuit = [] ∧ resetRows .low .openCircuit = [] ∧
      readerRows 2 .high .low .low = [.readerClockPulse 2 true] ∧
      readerRows 2 .high .low .high = [.readerClockPulse 2 false] ∧ readerRows 2 .low .high .low = [] := by
  decide

theorem witness_ContactClosingLocks :
    (running (doorAt .contact Door.cold) = true ∧ ((doorAt .contact Door.cold).lane 1).config.sensor = .contact ∧
      ((doorAt .contact Door.cold).door 1).status ≠ .passing) ∧
    ∀ bell ∈ [true, false],
      ((doorAt .contact { Door.cold with status := .passing, heldBell := bell }).door 1).status = .passing ∧
        ((doorAt .contact { Door.cold with status := .passing, heldBell := bell }).door 1).heldBell = bell := by
  decide

theorem witness_DoorCommands :
    engineOpen started = true ∧ started.gate.lockdown = false ∧ (started.lane 1).pending = none ∧
      (started.door 1).status = .locked ∧
      ({ started with gate := { started.gate with lockdown := true } } : State).gate.lockdown = true ∧
      ((pendingAt .rotation (passage .inPunch) released started).lane 1).pending ≠ none ∧
      ((doorAt .none { Door.cold with status := .free }).door 1).status = .free ∧
      ((doorAt .none { Door.cold with status := .free }).door 1).freed = false ∧ (60 : Word).toNat ≤ 60 ∧
      60 < (61 : Word).toNat := by
  decide

/-- FREE over a pending passage, at every door state, with and without a read waiting; lockdown over it. -/
theorem witness_DoorCommands_pending (d : Door) :
    ∀ s ∈ [pendingAt .rotation (passage .inPunch) d (withRecord (pendingPerson person)),
        waitingToo (pendingAt .rotation (passage .inPunch) d (withRecord (pendingPerson person)))],
      engineOpen s = true ∧ s.gate.lockdown = false ∧ (s.lane 1).pending = some (passage .inPunch) ∧
        s.record 0 = some (pendingPerson person) ∧ (s.lane 1).config.mode ≠ .disabled ∧ RosterLaw s.roster ∧
        PresenceLaw s ∧ s.door 1 = d := by
  intro s hs
  obtain ⟨-, h2, h3, h4, h5, h6, -, h8⟩ :=
    witness_PendingPassageEnds_resolves .rotation d (passage .inPunch) rfl rfl s hs
  refine ⟨?_, ?_, h2, h3, h4, h5, h6, h8⟩ <;> simp only [List.mem_cons, List.not_mem_nil, or_false] at hs <;>
    rcases hs with h | h <;> rw [h] <;> rfl

theorem witness_DoorCommands_refused :
    3 < (4 : Word).toNat ∧ firstOut [(4 : Word).toNat ≤ 3, (2 : Word).toNat ≤ 1] 0 ∧
      firstOut [(3 : Word).toNat ≤ 3, (2 : Word).toNat ≤ 1] 1 :=
  ⟨by decide, first_here (by decide), first_next (by decide) (first_here (by decide))⟩

theorem witness_LockdownAndItsClearing :
    engineOpen started = true ∧ (∀ l, LaneLaw (started.lane l)) ∧ started.gate.lockdown = false ∧
      (started.door 1).freed = false ∧
      engineOpen { started with gate := { started.gate with lockdown := true } } = true ∧
      (∀ l, LaneLaw (({ started with gate := { started.gate with lockdown := true } } : State).lane l)) ∧
      ((doorAt .none { Door.cold with status := .lockdown, mode := .free }).door 1).mode = .free :=
  ⟨by decide, laneLaw_reset, by decide, by decide, by decide, laneLaw_reset, by decide⟩

theorem witness_LockdownAndItsClearing_passage :
    ∀ s ∈ [pendingAt .rotation (passage .inPunch) released (withRecord (pendingPerson person)),
        waitingToo (pendingAt .rotation (passage .inPunch) released (withRecord (pendingPerson person)))],
      (∀ l, LaneLaw (s.lane l)) ∧ engineOpen s = true ∧ s.gate.lockdown = false ∧ RosterLaw s.roster ∧ PresenceLaw s := by
  intro s hs
  obtain ⟨h1, h2, -, -, -, h6, h7, -⟩ := witness_DoorCommands_pending released s hs
  refine ⟨fun l => ?_, h1, h2, h6, h7⟩
  have h0 := laneLaw_reset l
  simp only [List.mem_cons, List.not_mem_nil, or_false] at hs
  rcases hs with h | h <;> rw [h] <;> by_cases hl : l = 1
  · subst hl; simp [LaneLaw, pendingAt, laneOf, LaneState.empty]
  · rw [show (pendingAt _ _ _ _).lane l = (withRecord (pendingPerson person)).lane l by simp [pendingAt, hl]]; exact h0
  · subst hl; simp [LaneLaw, waitingToo, pendingAt, laneOf, LaneState.empty]
  · rw [show (waitingToo _).lane l = (withRecord (pendingPerson person)).lane l by simp [waitingToo, pendingAt, hl]]; exact h0

theorem witness_EmergencyAssertFreesDoors :
    running started = true ∧ started.gate.emergency = false ∧ started.bells.emergencyMask.getLsbD 7 = true ∧
      (vget started.bells.patterns 7).priority = 4 ∧ (vget started.bells.patterns 7).period ≠ 0 := by
  decide

theorem witness_EmergencyReleaseReturnsDoors :
    ∀ lockdown ∈ [true, false],
      ∀ s ∈ [{ doorAt .none { Door.cold with status := .free, freed := true } with
          gate := { (doorAt .none { Door.cold with status := .free, freed := true }).gate with
            emergency := true, lockdown } }],
        running s = true ∧ s.gate.emergency = true ∧ (s.door 1).freed = true ∧ s.gate.lockdown = lockdown := by
  decide

/-! ### Pay tables and attendance -/

/-- Shift 15 as a fifteen-word image at 0300h, every field at its limit. -/
def shiftWords : List Word := [15, 1, 1439, 960, 240, 30, 30, 30, 120, 960, 960, 1439, 1439, 127, 720]
def withShift : State := { started with memory := (shiftWords.zipIdx 0x0300).map (fun p => (p.2, p.1)) }
theorem shiftWords_read : bufferWords withShift.memory buffer 15 = shiftWords := by decide +kernel
theorem witness_ShiftTableCommands :
    engineOpen withShift = true ∧ bufferFits buffer 15 ∧ shiftInRange (bufferWords withShift.memory buffer 15) ∧
      (15 : ShiftNumber).val = ((bufferWords withShift.memory buffer 15).getD 0 0).toNat := by
  refine ⟨by decide, fits 15 (by decide), ?_, ?_⟩ <;> rw [shiftWords_read]
  · unfold shiftInRange; decide
  · decide

/-- A shift image in range is stored field by field (R82). -/
theorem test_write_shift : ((cmdWriteShift buffer withShift).2.code, (vget (cmdWriteShift buffer withShift).1.pay.shifts 15).length) =
    (.done, 960) := by decide +kernel

/-- An image with the night start and end both 1440: the night start is named. -/
theorem witness_ShiftTableCommands_refused :
    firstOut (shiftRanges [15, 1, 1439, 960, 240, 30, 30, 30, 120, 960, 960, 1440, 1440, 127, 720]) 11 ∧
      bufferRefused ⟨0x1FFF, 14⟩ 15 .bufferShort ∧ bufferRefused ⟨0x00FF, 0x0100⟩ 15 .badBuffer ∧ 15 < (16 : Word).toNat := by
  refine ⟨?_, (refused 15 (by decide) (by decide)).2.2, (refused 15 (by decide) (by decide)).1, by decide⟩
  iterate 11 refine first_next (by decide) ?_
  exact first_here (by decide)

theorem witness_ReadPayClassReturnsClass :
    engineOpen started = true ∧ 15 < (16 : Word).toNat ∧ (15 : Word) = word (15 : ClassNumber).val := by decide

theorem witness_ReadHolidaysCopiesList :
    engineOpen started = true ∧ (0x00FF : Word).toNat < 0x100 ∧ 0x2000 ≤ (0x2000 : Word).toNat ∧
      0x100 ≤ (0x0100 : Word).toNat ∧ (0x1FFF : Word).toNat < 0x2000 := by
  decide

theorem witness_PayTableWrites :
    engineOpen started = true ∧ (32 : Word).toNat ≤ 32 ∧ bufferFits buffer 32 ∧ (0 : Word) = 0 :=
  ⟨by decide, by decide, fits 32 (by decide), rfl⟩

theorem witness_PayTableWrites_refused :
    15 < (16 : Word).toNat ∧ 32 < (33 : Word).toNat ∧ (32 : Word) ≠ 0 ∧ bufferRefused ⟨0x1FFF, 31⟩ 32 .bufferShort :=
  ⟨by decide, by decide, by decide, (refused 32 (by decide) (by decide)).2.2⟩

/-- A shift of 480 minutes from 08:00 with grace 5 and unit 15, on day 3. -/
def day8 : ShiftDef := { ShiftDef.cold with start := 480, graceIn := 5, graceOut := 5, unit := 15 }
def schedule8 : Schedule := ⟨3, 3, 4800, 5280⟩
theorem witness_ClosingFigures :
    0 < day8.unit ∧ (4805 : Nat) ≤ schedule8.startMinute + day8.graceIn ∧ schedule8.startMinute + day8.graceIn < 4806 ∧
      (5285 : Nat) ≤ schedule8.endMinute + day8.graceOut ∧ schedule8.endMinute ≤ 5275 + day8.graceOut ∧
      5274 + day8.graceOut < schedule8.endMinute ∧ schedule8.endMinute + day8.graceOut < 5286 ∧ stay.schedule = none ∧
      ({ stay with schedule := some schedule8 } : Attendance).schedule = some schedule8 := by
  decide

/-- R90, R91: in by 6 minutes late counts from the next unit, out past the grace to the last whole unit. -/
theorem test_effective_times :
    (scheduledFigures day8 PayClass.cold [] 0 schedule8 4806 (some 5296)).ein = 4815 ∧
      (scheduledFigures day8 PayClass.cold [] 0 schedule8 4806 (some 5296)).eout = 5295 := by
  decide

theorem witness_NightMinutesCounted :
    (ShiftDef.cold.nightStart ≤ 1439 ∧ ShiftDef.cold.nightEnd ≤ 1439 ∧ (0 : Int) ≤ 0) ∧
      ({ ShiftDef.cold with nightStart := 1439, nightEnd := 0 } : ShiftDef).nightStart ≤ 1439 ∧
      ShiftDef.cold.nightStart = ShiftDef.cold.nightEnd ∧
      ({ day8 with nightStart := 1320, nightEnd := 360 } : ShiftDef).nightStart ≠
        ({ day8 with nightStart := 1320, nightEnd := 360 } : ShiftDef).nightEnd := by
  decide

/-- R94: of a night from 22:00 to 06:00 and an interval from day 3, 21:00 to day 4, 07:00, 480 minutes are night. -/
theorem test_night_window :
    meetOf (5580, 6180) (({ day8 with nightStart := 1320, nightEnd := 360 } : ShiftDef).windowOf 3) = 480 ∧
      meetOf (5580, 6180) (({ day8 with nightStart := 1320, nightEnd := 360 } : ShiftDef).windowOf 2) = 0 := by
  decide

/-- R98: a figure that would pass its limit stands at it, and the set is marked saturated. -/
theorem test_totals_saturate :
    ({ Totals.zero 0 with regular := 65000 }.addClosing
      ⟨none, 0, 0, 600, 0, 0, 0, 7, 0, true, true, false⟩) =
      { Totals.zero 0 with regular := 65535, pay := 7, closed := 1, exceptions := 2, saturated := true } := by
  decide

theorem witness_CorrectionsOfPresence :
    (engineOpen started = true ∧ RosterLaw started.roster ∧ refersTo 1 0 5 6 0 person ∧ started.time.clockUnset = false ∧
      (1439 : Word).toNat ≤ 1439 ∧ (59 : Word).toNat ≤ 59 ∧ started.record 0 = some person ∧ person.pendingLane = none ∧
      person.presence = .out) ∧
    (engineOpen present = true ∧ RosterLaw present.roster ∧ refersTo 0 12 0 40001 0 inside ∧
      present.time.clockUnset = false ∧ present.record 0 = some inside ∧ inside.pendingLane = none ∧
      inside.presence = .inside ∧ (present.attendance.map Attendance.slot).Nodup ∧ stay ∈ present.attendance ∧
      stay.slot = 0) :=
  ⟨⟨by decide, rosterLaw_of _ rfl, (refers _ rfl).1, by decide, by decide, by decide, by decide, by decide, by decide⟩,
    by decide, rosterLaw_of _ rfl, (refers _ rfl).2, by decide, by decide, by decide, by decide, by decide, by decide,
    by decide⟩

/-- Each refusal of R112, in their order: a word out of range, an unset clock, no record, a pending record, one OUT, one IN. -/
theorem witness_CorrectionsOfPresence_refused :
    badReference 1 2 0 0 = some 1 ∧ badReference 1 1 0 5 = none ∧ badReference 1 1 2047 0 = none ∧
      firstOut [True, (1439 : Word).toNat ≤ 1439, (60 : Word).toNat ≤ 59] 2 ∧ State.reset.time.clockUnset = true ∧
      refersNowhere started 1 2047 0 0 ∧ started.time.clockUnset = false ∧
      (∀ r ∈ [person, inside, pendingPerson person], RosterLaw (withRecord r).roster ∧
        (withRecord r).time.clockUnset = false ∧ (withRecord r).record 0 = some r ∧ refersTo 1 0 5 6 0 r) ∧
      (pendingPerson person).pendingLane ≠ none ∧ person.presence = .out ∧ inside.pendingLane = none ∧
      inside.presence = .inside := by
  refine ⟨(references 1).2.2.2.1, rfl, (references 1).2.2.2.2.1,
    first_next trivial (first_next (by decide) (first_here (by decide))), by decide, (nowhere _ _ rfl rfl).1, by decide,
    ?_, by decide, by decide, by decide, by decide⟩
  intro r hr
  simp only [List.mem_cons, List.not_mem_nil, or_false] at hr
  rcases hr with rfl | rfl | rfl <;> exact ⟨rosterLaw_of _ rfl, by decide, by decide, (refers _ rfl).1⟩

theorem witness_ListPresentCopiesEntries :
    engineOpen present = true ∧ (1 : Word).toNat ≤ 1 ∧ (2047 : Word).toNat ≤ 2047 ∧ bufferFits buffer 10 ∧
      ∀ e ∈ present.attendance, (present.record e.slot).isSome = true :=
  ⟨by decide, by decide, by decide, fits 10 (by decide), by decide⟩

theorem witness_ListPresentCopiesEntries_refused :
    firstOut [(1 : Word).toNat ≤ 1, (2048 : Word).toNat ≤ 2047] 1 ∧ bufferRefused ⟨0x1FFF, 9⟩ 10 .bufferShort :=
  ⟨first_next (by decide) (first_here (by decide)), (refused 10 (by decide) (by decide)).2.2⟩

/-! ### Bells -/

theorem witness_BellTableCommands :
    engineOpen started = true ∧
      (((9 : Word).toNat / 2) % 4 ≤ 2 ∧ (255 : Word).toNat ≤ 255 ∧ (6 : Word).toNat ≤ 6 ∧ ((9 : Word).toNat / 2) % 4 = 0 ∧
        (1439 : Word).toNat ≤ 1439 ∧ (127 : Word).toNat ≤ 127) ∧
      (((5 : Word).toNat / 2) % 4 ≤ 2 ∧ ((5 : Word).toNat / 2) % 4 ≠ 0 ∧ (15 : Word).toNat ≤ 15 ∧
        -120 ≤ (0xFF88 : Word).toInt ∧ (0x0078 : Word).toInt ≤ 120) ∧
      (1 ≤ (1 : Word).toNat ∧ (255 : Word).toNat ≤ 255 ∧ (15 : Word).toNat ≤ 15 ∧ (3 : Word).toNat ≤ 3) ∧
      ((7 : PatternNumber) = 7 → (1 : Word) ≠ 0) := by
  decide

/-- A SHIFT entry of offset 121, a CLOCK entry of day mask 128, and patterns 6 and 7 with the last word one too high. -/
theorem witness_BellTableCommands_refused :
    firstOut
        [(63 : Word).toNat ≤ 63, ((5 : Word).toNat / 2) % 4 ≤ 2,
         (15 : Word).toNat ≤ (if ((5 : Word).toNat / 2) % 4 = 0 then 1439 else 15),
         ((5 : Word).toNat / 2) % 4 ≠ 0 → -120 ≤ (121 : Word).toInt ∧ (121 : Word).toInt ≤ 120,
         ((5 : Word).toNat / 2) % 4 = 0 → (128 : Word).toNat ≤ 127, (256 : Word).toNat ≤ 255, (7 : Word).toNat ≤ 6] 3 ∧
      firstOut
        [(63 : Word).toNat ≤ 63, ((1 : Word).toNat / 2) % 4 ≤ 2,
         (1439 : Word).toNat ≤ (if ((1 : Word).toNat / 2) % 4 = 0 then 1439 else 15),
         ((1 : Word).toNat / 2) % 4 ≠ 0 → -120 ≤ (121 : Word).toInt ∧ (121 : Word).toInt ≤ 120,
         ((1 : Word).toNat / 2) % 4 = 0 → (128 : Word).toNat ≤ 127, (256 : Word).toNat ≤ 255, (7 : Word).toNat ≤ 6] 4 ∧
      63 < (64 : Word).toNat ∧ 7 < (8 : Word).toNat ∧
      ∀ p ∈ ([(6, 4), (7, 256)] : List (Word × Word)),
        firstOut
          [p.1.toNat ≤ 7, 1 ≤ (1 : Word).toNat ∧ (1 : Word).toNat ≤ 255,
           (255 : Word).toNat ≤ 255 ∧ (p.1 = 7 → (255 : Word) ≠ 0), 1 ≤ (15 : Word).toNat ∧ (15 : Word).toNat ≤ 15,
           (255 : Word).toNat ≤ 255, (255 : Word).toNat ≤ 255, p.2.toNat ≤ (if p.1 = 7 then 255 else 3)] 6 := by
  refine ⟨?_, ?_, by decide, by decide, ?_⟩
  · iterate 3 refine first_next (by decide) ?_
    exact first_here (by decide)
  · iterate 4 refine first_next (by decide) ?_
    exact first_here (by decide)
  · intro p hp
    simp only [List.mem_cons, List.not_mem_nil, or_false] at hp
    rcases hp with rfl | rfl
    all_goals
      iterate 6 refine first_next (by decide) ?_
      exact first_here (by decide)

/-- An emergency with every zone locked. -/
def evacuating : State :=
  { started with gate := { started.gate with emergency := true }, bells := { Bells.cold with locked := 0xFF } }
theorem witness_ZoneCommands :
    engineOpen started = true ∧ (255 : Word).toNat ≤ 255 ∧ (6 : PatternNumber).val ≤ 6 ∧ started.gate.emergency = false ∧
      engineOpen evacuating = true ∧ evacuating.gate.emergency = true ∧
      (255 : Word).setWidth 8 &&& evacuating.bells.locked ≠ 0 ∧ bufferFits buffer 24 :=
  ⟨by decide, by decide, by decide, by decide, by decide, by decide, by decide, fits 24 (by decide)⟩

theorem witness_ZoneCommands_refused :
    firstOut [(256 : Word).toNat ≤ 255, (7 : Word).toNat ≤ 6] 0 ∧
      firstOut [(255 : Word).toNat ≤ 255, (7 : Word).toNat ≤ 6] 1 ∧
      255 < (256 : Word).toNat ∧ bufferRefused ⟨0x1FFF, 23⟩ 24 .bufferShort :=
  ⟨first_here (by decide), first_next (by decide) (first_here (by decide)), by decide, (refused 24 (by decide) (by decide)).2.2⟩

theorem witness_PatternPlaysItsTicks :
    (0 < (vget ringing.bells.patterns 1).period ∧ 0 < (vget ringing.bells.patterns 1).strokes ∧
      0 < (vget ringing.bells.patterns 1).groups) ∧
      0 < (vget Bells.cold.patterns 7).period ∧ 0 < (vget Bells.cold.patterns 7).strokes ∧
      (vget Bells.cold.patterns 7).groups = 0 ∧ 1 < chime.counter ∧ chime.phase = .stroke ∧ 1 < chime.strokesLeft ∧
      chime.copy.groups ≠ 0 ∧ 1 < chime.groupsLeft := by
  decide

/-! ### Journal -/

theorem draining_law : JournalLaw draining where
  tiles := by simp only [draining, Tiles]; decide
  counts := by decide
  span := by decide
  room := by decide
  reserve := by decide
  gap := fun h => by cases h
  cursors := by intro p; cases p <;> decide
  oldest := by
    intro e he
    have : e = shortEntry 5000 := by simpa [draining, eq_comm] using he
    subst this
    unfold Entry.liesBefore
    decide

/-- An open GAP in a ring with too little room, 8,192 short entries long. -/
def shortRun : Nat → Seq → List Entry
  | 0, _ => []
  | n + 1, q => shortEntry q :: shortRun n (q + 1)

/-- A journal of n short entries from 0 on, closed by a GAP where `gap` says so. -/
def filled (n : Nat) (gap : Option Nat) : Journal :=
  match gap with
  | none => { Journal.empty with entries := shortRun n 0, writePoint := BitVec.ofNat 32 n }
  | some k =>
    { Journal.empty with
      entries := shortRun n 0 ++ [gapEntry (BitVec.ofNat 32 n) k], writePoint := BitVec.ofNat 32 (n + k), openGap := true }

theorem shortRun_words (n : Nat) (q : Seq) : wordsOf (shortRun n q) = 8 * n := by
  induction n generalizing q with
  | zero => rfl
  | succ n ih =>
    have := ih (q + 1)
    simp only [wordsOf, shortRun, List.map_cons, List.sum_cons] at this ⊢
    rw [this]
    show 8 + 8 * n = 8 * (n + 1)
    omega

theorem shortRun_tiles (n : Nat) (q : Seq) (rest : List Entry) (w : Seq) (h : Tiles rest (q + BitVec.ofNat 32 n) w) :
    Tiles (shortRun n q ++ rest) q w := by
  induction n generalizing q with
  | zero => simpa [shortRun] using h
  | succ n ih =>
    refine ⟨rfl, ih (q + 1) ?_⟩
    have : q + 1 + BitVec.ofNat 32 n = q + BitVec.ofNat 32 (n + 1) := by
      have h1 : (1 : Seq).toNat = 1 := rfl
      apply BitVec.eq_of_toNat_eq; simp only [BitVec.toNat_add, BitVec.toNat_ofNat, h1]; omega
    rwa [this]

theorem shortRun_covers (n : Nat) (q : Seq) : ∀ e ∈ shortRun n q, e.covers = 1 := by
  induction n generalizing q with
  | zero => intro e h; cases h
  | succ n ih =>
    intro e h
    rcases List.mem_cons.mp h with h | h
    · rw [h]; rfl
    · exact ih (q + 1) e h

theorem shortRun_sum (n : Nat) (q : Seq) : ((shortRun n q).map Entry.covers).sum = n := by
  induction n generalizing q with
  | zero => rfl
  | succ n ih =>
    simp only [shortRun, List.map_cons, List.sum_cons, ih]
    show 1 + n = n + 1
    omega

theorem shortRun_length (n : Nat) (q : Seq) : (shortRun n q).length = n := by
  induction n generalizing q with
  | zero => rfl
  | succ n ih => simp [shortRun, ih]

theorem filled_law (n : Nat) (gap : Option Nat) (h0 : 0 < n) (hn : n ≤ 8191) (hk : ∀ k ∈ gap, 1 ≤ k ∧ k + n ≤ 2147483647) :
    JournalLaw (filled n gap) := by
  have hh : ∀ es : List Entry, (shortRun n 0 ++ es).head? = some (shortEntry 0) := by
    intro es; obtain ⟨m, rfl⟩ : ∃ m, n = m + 1 := ⟨n - 1, by omega⟩; rfl
  have hlast : (shortEntry 0).seq + BitVec.ofNat 32 (shortEntry 0).covers - 1 = (0 : Seq) := by decide
  have hc : ∀ g, (filled n g).earliest = 0 := by
    intro g; cases g <;> simp [filled, Journal.earliest, Journal.empty, Consumer.cold]
  cases gap with
  | none =>
    refine ⟨?_, ?_, ?_, ?_, ?_, ?_, ?_, ?_⟩
    · have := shortRun_tiles n 0 [] (BitVec.ofNat 32 n) (by simp [Tiles])
      show Tiles (shortRun n 0) 0 (BitVec.ofNat 32 n)
      simpa using this
    · intro e h; rw [shortRun_covers n 0 e h]
    · simp only [filled, shortRun_sum, shortRun_length]; omega
    · simp only [Journal.occupied, filled, shortRun_words]; omega
    · intro _; simp only [Journal.occupied, filled, shortRun_words]; omega
    · intro h; cases h
    · intro p; cases p <;> exact le_refl _
    · intro e he
      have : e = shortEntry 0 := by
        have := hh []; rw [List.append_nil] at this
        simp only [filled, this] at he; cases he; rfl
      subst this
      unfold Entry.liesBefore
      rw [hlast, hc]; exact lt_irrefl _
  | some k =>
    obtain ⟨h1, h2⟩ := hk k rfl
    have hw : wordsOf (shortRun n 0 ++ [gapEntry (BitVec.ofNat 32 n) k]) = 8 * n + 8 := by
      have := shortRun_words n 0
      simp only [wordsOf] at this ⊢
      rw [List.map_append, List.sum_append, this]; rfl
    refine ⟨?_, ?_, ?_, ?_, ?_, ?_, ?_, ?_⟩
    · apply shortRun_tiles
      refine ⟨by simp [gapEntry], ?_⟩
      show (gapEntry (BitVec.ofNat 32 n) k).seq + BitVec.ofNat 32 k = _
      apply BitVec.eq_of_toNat_eq
      simp only [gapEntry, filled, BitVec.toNat_add, BitVec.toNat_ofNat]; omega
    · intro e h
      rcases List.mem_append.mp h with h | h
      · rw [shortRun_covers n 0 e h]
      · rw [List.mem_singleton.mp h]; exact h1
    · simp only [filled, List.map_append, List.sum_append, shortRun_sum, List.length_append, shortRun_length]
      show n + (k + 0) ≤ 2147483647 + (n + 1)
      omega
    · simp only [Journal.occupied, filled, hw]; omega
    · intro h; cases h
    · intro _; exact ⟨gapEntry (BitVec.ofNat 32 n) k, k, by simp [filled], rfl⟩
    · intro p; cases p <;> exact le_refl _
    · intro e he
      have : e = shortEntry 0 := by simp only [filled, hh] at he; cases he; rfl
      subst this
      unfold Entry.liesBefore
      rw [hlast, hc]; exact lt_irrefl _

/-- A journal of n short entries from 0 on, then a closed GAP of k numbers and one more short entry. -/
def spanned (n k : Nat) : Journal :=
  { Journal.empty with
    entries := shortRun n 0 ++ [gapEntry (BitVec.ofNat 32 n) k, shortEntry (BitVec.ofNat 32 (n + k))]
    writePoint := BitVec.ofNat 32 (n + k + 1) }

theorem spanned_words (n k : Nat) : (spanned n k).occupied = 8 * n + 16 := by
  have := shortRun_words n 0
  simp only [wordsOf, Journal.occupied, spanned] at this ⊢
  rw [List.map_append, List.sum_append, this]
  rfl

theorem spanned_law (n k : Nat) (h0 : 0 < n) (hn : n ≤ 8189) (h1 : 1 ≤ k) (h2 : k + n ≤ 2147483647) :
    JournalLaw (spanned n k) where
  tiles := by
    apply shortRun_tiles
    refine ⟨by simp [gapEntry], ?_, ?_⟩
    · show BitVec.ofNat 32 (n + k) = BitVec.ofNat 32 n + BitVec.ofNat 32 k
      apply BitVec.eq_of_toNat_eq
      simp only [BitVec.toNat_add, BitVec.toNat_ofNat]; omega
    · show BitVec.ofNat 32 (n + k) + BitVec.ofNat 32 1 = BitVec.ofNat 32 (n + k + 1)
      apply BitVec.eq_of_toNat_eq
      simp only [BitVec.toNat_add, BitVec.toNat_ofNat]; omega
  counts := by
    intro e h
    rcases List.mem_append.mp h with h | h
    · rw [shortRun_covers n 0 e h]
    · rcases List.mem_cons.mp h with h | h
      · rw [h]; exact h1
      · rw [List.mem_singleton.mp h]; exact le_refl _
  span := by
    simp only [spanned, List.map_append, List.sum_append, shortRun_sum, List.length_append, shortRun_length]
    show n + (k + (1 + 0)) ≤ 2147483647 + (n + 2)
    omega
  room := by rw [spanned_words]; omega
  reserve := by intro _; rw [spanned_words]; omega
  gap := by intro h; cases h
  cursors := by intro p; cases p <;> exact le_refl _
  oldest := by
    obtain ⟨m, rfl⟩ : ∃ m, n = m + 1 := ⟨n - 1, by omega⟩
    intro e he
    have : e = shortEntry 0 := by simp only [spanned, shortRun, List.cons_append, List.head?_cons] at he; cases he; rfl
    subst this
    have hlast : (shortEntry 0).seq + BitVec.ofNat 32 (shortEntry 0).covers - 1 = (0 : Seq) := by decide
    have hc : (spanned (m + 1) k).earliest = 0 := by simp [spanned, Journal.earliest, Journal.empty, Consumer.cold]
    unfold Entry.liesBefore
    rw [hlast, hc]; exact lt_irrefl _

/-- The span at its limit with no GAP open (log 22). -/
theorem witness_AppendStoresOrDrops_noGap :
    JournalLaw (spanned 8189 2147475457) ∧ (spanned 8189 2147475457).openGap = false ∧
      65536 < (plainBody .lockdownOn Time.zero).length + 8 + (spanned 8189 2147475457).occupied ∧
      2147483647 ≤ ((spanned 8189 2147475457).writePoint - (spanned 8189 2147475457).freePoint).toNat := by
  refine ⟨spanned_law _ _ (by decide) (by decide) (by decide) (by decide), rfl, ?_, by simp [spanned, Journal.empty]⟩
  rw [spanned_words]
  decide

/-- Each clause: room to the last word; no room with and without an open GAP; the span at its limit. -/
theorem witness_AppendStoresOrDrops :
    (∀ n, (plainBody .lockdownOn Time.zero).extra ≠ .gapCount n) ∧ Journal.empty.bus.enabled = true ∧
    (JournalLaw (filled 8190 none) ∧ (plainBody .lockdownOn Time.zero).length + 8 + (filled 8190 none).occupied ≤ 65536) ∧
    (JournalLaw (filled 8191 none) ∧ 65536 < (plainBody .lockdownOn Time.zero).length + 8 + (filled 8191 none).occupied ∧
      (filled 8191 none).openGap = false) ∧
    (JournalLaw (filled 8190 (some 1)) ∧ (filled 8190 (some 1)).openGap = true ∧
      65536 < (plainBody .lockdownOn Time.zero).length + 8 + (filled 8190 (some 1)).occupied ∧
      ((filled 8190 (some 1)).writePoint - (filled 8190 (some 1)).freePoint).toNat < 2147483647) ∧
    (JournalLaw (filled 8190 (some 2147475457)) ∧
      2147483647 ≤ ((filled 8190 (some 2147475457)).writePoint - (filled 8190 (some 2147475457)).freePoint).toNat) ∧
    running drainingState = true ∧ JournalLaw drainingState.journal := by
  have w : ∀ k, wordsOf (shortRun 8190 0 ++ [gapEntry (BitVec.ofNat 32 8190) k]) = 65528 := by
    intro k
    have := shortRun_words 8190 0
    simp only [wordsOf] at this ⊢
    rw [List.map_append, List.sum_append, this]; rfl
  have len : (plainBody .lockdownOn Time.zero).length = 8 := rfl
  refine ⟨(fun n h => by cases h), rfl, ⟨filled_law _ _ (by decide) (by decide) (by simp), ?_⟩,
    ⟨filled_law _ _ (by decide) (by decide) (by simp), ?_, rfl⟩,
    ⟨filled_law _ _ (by decide) (by decide) (by simp), rfl, ?_, by simp [filled, Journal.empty]⟩,
    ⟨filled_law _ _ (by decide) (by decide) (by simp), by simp [filled, Journal.empty]⟩, by decide, draining_law⟩
  · rw [len, Journal.occupied, filled, shortRun_words]
  · rw [len, Journal.occupied, filled, shortRun_words]; decide
  · rw [len, Journal.occupied, filled, w]; decide

theorem witness_JournalReading :
    engineOpen drainingState = true ∧ (1 : Word).toNat ≤ 1 ∧
      (drainingState.journal.writePoint - drainingState.journal.freePoint).toNat <
        ((0 : Word) ++ (4800 : Word) - drainingState.journal.freePoint).toNat ∧
      ¬ (drainingState.journal.writePoint - drainingState.journal.freePoint).toNat <
        ((0 : Word) ++ (5007 : Word) - drainingState.journal.freePoint).toNat ∧ bufferFits buffer 16 :=
  ⟨by decide, by decide, by decide, by decide, fits 16 (by decide)⟩

/-- READ JOURNAL and SET CONSUMER refused by the first of their two operands and by the second, RELEASE JOURNAL by its consumer, and
JOURNAL STATUS by its buffer. -/
theorem witness_JournalCommands_refused :
    firstOut [(2 : Word).toNat ≤ 1, (2 : Word).toNat ≤ 1] 0 ∧ firstOut [(1 : Word).toNat ≤ 1, (2 : Word).toNat ≤ 1] 1 ∧
      1 < (2 : Word).toNat ∧ bufferRefused ⟨0x1FFF, 15⟩ 16 .bufferShort :=
  ⟨first_here (by decide), first_next (by decide) (first_here (by decide)), by decide, (refused 16 (by decide) (by decide)).2.2⟩

theorem witness_ConsumersMoveAndFree :
    engineOpen drainingState = true ∧ JournalLaw drainingState.journal ∧
      (1 ≤ ((0 : Word) ++ (5010 : Word) - drainingState.journal.writePoint).toNat ∧
        ((0 : Word) ++ (5010 : Word) - drainingState.journal.writePoint).toNat ≤ 2147483647) ∧
      (∀ q ∈ ([4999, 5000, 5003, 5004, 5007] : List Word),
        ¬ (1 ≤ ((0 : Word) ++ q - drainingState.journal.writePoint).toNat ∧
          ((0 : Word) ++ q - drainingState.journal.writePoint).toNat ≤ 2147483647)) ∧ (1 : Word).toNat ≤ 1 :=
  ⟨by decide, draining_law, by simp [drainingState, draining], by simp [drainingState, draining], by decide⟩

/-! ### Channels and ports -/

/-- A part whose channel 2 holds a full queue of a READ CLOCK block at 0300h. -/
def queued (address : Word) (code : Word) : State :=
  ({ started with memory := if code = 0 then [] else [(0x0300, code)] } : State).setChannel 2
    { ChannelState.atStart with queue := List.replicate 4 ⟨address, .bus⟩ }

theorem witness_PortWrites :
    started.time.power = .mainsRun ∧ Memory.wf started.memory ∧ started.time.selfTest = .passed ∧
      (testing .warm).time.power = .mainsRun ∧ (testing .warm).time.selfTest ≠ .passed ∧
      (started.channel 2).queue.length < 4 ∧ 4 ≤ ((queued 0x0300 0x12).channel 2).queue.length ∧
      (Instr.portWordWrite .bus 0x1FFF 5).wellFormed = true ∧ (Instr.portWordWrite .bus 0x37 5).wellFormed = true ∧
      (Instr.portWordWrite .bus 0x1F 5).wellFormed = true ∧ started.time.selfTest ≠ .failed ∧ 0x100 ≤ (0x100 : BitVec 13).toNat ∧
      ({ started with time := { time3 with selfTest := .failed } } : State).time.selfTest = .failed ∧
      (fun r : Requester => decide (r ≠ .engine)) .link = true := by
  decide

/-- TABLE 11-2 at reset: "SA", the revision word, PASSED, cold-start and clock-unset, the write point, the start notices, disarmed. -/
theorem test_control_page :
    ([0x00, 0x0A, 0x0B, 0x0F, 0x10, 0x11, 0x17, 0x1C, 0x41, 0x42] : List Nat).map State.reset.pageWord =
      [0x5341, 0x3230, 0, 1, 2, 3, 1, 8, 0x18, 0] := by
  decide

/-- R170: the cycle engine, bus port, link port; R171: a cycle with both strobes is no access, and the read cycle is one grant. -/
theorem test_arbiter_cycle :
    arbiterGrant .engine (fun _ => true) = some .bus ∧ arbiterGrant .bus (fun _ => true) = some .link ∧
      arbiterGrant .link (fun _ => true) = some .engine ∧ arbiterGrant .engine (fun r => decide (r = .link)) = some .link := by
  decide
theorem test_bus_cycle :
    busCycle ⟨true, true, 0, 0⟩ started = (none, started) ∧ busCycle ⟨true, false, 0, 0⟩ held = (none, held) ∧
      (busCycle ⟨true, false, 0x1FFF, 0⟩ started).1 = some 0 := by
  decide

theorem witness_ChannelCommands :
    engineOpen started = true ∧ 7 < (8 : Word).toNat ∧ (7 : Word).toNat ≤ 7 ∧ 3 < (4 : Word).toNat ∧ (3 : Word).toNat ≤ 3 := by
  decide

theorem served (address code : Word) : servedNext (queued address code) 2 ∧
    takesBlock ((queued address code).channel 2) ⟨address, .bus, 1⟩ (List.replicate 3 ⟨address, .bus⟩) := by
  have h2 : (queued address code).channel 2 =
      { ChannelState.atStart with queue := List.replicate 4 ⟨address, .bus⟩ } := by
    simp [queued]
  refine ⟨⟨.inl ?_, ?_⟩, .inr ⟨?_, ⟨address, .bus⟩, ?_, rfl, ?_⟩⟩
  · rw [h2]; exact List.cons_ne_nil _ _
  · intro d hd
    have : d.val < 2 := by
      have : (queued address code).control.lastServed = 7 := by simp [queued, State.setChannel, started, withRecord, State.reset, State.setControl]
      rw [this] at hd
      simpa using hd
    have hne : (2 : Channel) ≠ d := by intro h; subst h; exact absurd this (by decide)
    have hc : (queued address code).channel d = ChannelState.atStart := by
      have h0 : ∀ d : Channel, vget (Vector.replicate 8 ChannelState.atStart) d = ChannelState.atStart := by decide
      simp [queued, hne.symm, started, withRecord, State.reset, State.channel, State.setChannel, State.setControl, h0]
    rw [hc]; unfold ChannelState.waits; decide
  · rw [h2]; rfl
  · rw [h2]; rfl
  · rw [h2]; rfl

theorem witness_EngineTurnServesOneBlock :
    (∀ a c, servedNext (queued a c) 2 ∧
      takesBlock ((queued a c).channel 2) ⟨a, .bus, 1⟩ (List.replicate 3 ⟨a, .bus⟩)) ∧
    engineOpen (queued 0x0300 0x12) = true ∧ Memory.wf (queued 0x0300 0x12).memory ∧
      memRead (queued 0x0300 0x12).memory 0x0300 = 0x12 ∧ memRead (queued 0x0300 0x12).memory 0x0305 = 0 ∧
      ((memRead (queued 0x0300 0x99).memory 0x0300).toNat ∉ commandCodes ∧ Memory.wf (queued 0x0300 0x99).memory) ∧
      240 < (0x03F1 : Word).toNat % 256 ∧
      (0x1FF0 : Word).toNat % 256 ≤ 240 ∧ engineOpen started = true ∧ ∀ c, ¬ (started.channel c).waits :=
  ⟨served, by decide, by decide, by decide, by decide, by decide, by decide, by decide, by decide,
    by unfold ChannelState.waits; decide⟩

/-- The same turn over a block of these words: SET CLOCK in mode INLINE, in mode BUFFER with a buffer that fits and one that does not,
and in mode 2; LOAD RECORD, whose mode is not read; and a CORRECT PRESENCE of operation 3. -/
def block (words : List (Nat × Word)) : State := { queued 0x0300 0 with memory := words }

theorem witness_EngineTurnServesOneBlock_rows :
    (∀ words, servedNext (block words) 2 ∧
      takesBlock ((block words).channel 2) ⟨0x0300, .bus, 1⟩ (List.replicate 3 ⟨0x0300, .bus⟩)) ∧
    (∀ words ∈ ([[(0x0300, 0x10)], [(0x0300, 0x10), (0x0305, 1), (0x0306, 0x0400), (0x0307, 8)],
        [(0x0300, 0x10), (0x0305, 1), (0x0306, 0x1FFF), (0x0307, 7)], [(0x0300, 0x10), (0x0305, 2)],
        [(0x0300, 0x20), (0x0305, 7)], [(0x0300, 0x51), (0x0308, 3)]] : List Memory),
      engineOpen (block words) = true ∧ Memory.wf words ∧ (memRead words 0x0300).toNat ∈ commandCodes) ∧
    0x10 ∉ bufferCodes ∧ 0x20 ∈ bufferCodes ∧ bufferFits ⟨0x0400, 8⟩ 8 ∧ bufferRefused ⟨0x1FFF, 7⟩ 8 .bufferShort ∧
    2 ≤ (2 : Word).toNat ∧ commandRow .bus (fun _ => 3) buffer 0x51 = none ∧
    ∀ op : Nat → Word, commandRow .bus op buffer 0x91 = some .readChannels := by
  refine ⟨fun _ => served 0x0300 0, by decide, by decide, by decide, ⟨by decide, by decide, by decide⟩,
    (refused 8 (by decide) (by decide)).2.2,
    by decide, by decide, fun op => ?_⟩
  unfold commandRow commandRows
  split_ifs <;> rfl

theorem witness_LinkPortBytes :
    started.time.power = .mainsRun ∧
      ∀ phase ∈ [LinkPhase.lead, .pointer 31 true, .ignore, .data false, .reading true, .reading false],
        ({ started with link := { started.link with phase, heldHigh := some 1, keptLow := some 2 } } : State).link.phase =
          phase := by
  decide

/-! ### Invariants -/

theorem witness_StepKeepsDeviceLaws :
    Memory.wf started.memory ∧ ClockLaw started.time ∧ ArmedLaw started ∧ ChannelLaw started ∧ WindowLaw started ∧
      HolidayLaw started ∧ step { started with pending := [.readClock] } = exec .readClock started := by
  refine ⟨by decide, clockLaw_time3 30 _ (by decide) (by decide) (by decide), ?_, ?_, by unfold WindowLaw; decide,
    by unfold HolidayLaw; decide, rfl⟩
  · intro p; cases p <;> decide
  · unfold ChannelLaw; decide

theorem witness_StepKeepsLanesAndDoors : (∀ l, LaneLaw (started.lane l)) ∧ LockdownLaw started := by
  refine ⟨laneLaw_reset, ?_⟩
  unfold LockdownLaw; decide

theorem witness_StepKeepsRosterAndPresence :
    RosterLaw present.roster ∧ AllTotalsLaw present ∧ OrderLaw present ∧ PresenceLaw present ∧ MirrorLaw present := by
  refine ⟨rosterLaw_of _ rfl, ?_, ?_, presenceLaw_present _ _ rfl rfl lanes_reset, fun _ => rfl⟩
  · intro p hp
    have : p = (0, inside) := by simpa [present, withRecord, rosterOf] using hp
    subst this
    exact ⟨⟨by decide, by decide, by decide, by decide, by decide, by decide, by decide⟩,
      ⟨by decide, by decide, by decide, by decide, by decide, by decide, by decide⟩⟩
  · unfold OrderLaw; simp [present]

theorem witness_StepKeepsJournal : JournalLaw drainingState.journal := draining_law

end Sys2Proof.Tests
end

section
/-! PROOFS. Night minutes (R94): the windows of the days, the minutes that lie in them, and the sum of their overlaps. -/

namespace Sys2Proof.Machine

open Finset

/-! ## The windows of the days -/

/-- The model's window and the obligation's are the same interval. -/
theorem nightWindow_eq_windowOf (sh : ShiftDef) (k : Int) : nightWindow sh k = sh.windowOf k := by
  unfold nightWindow ShiftDef.windowOf
  split <;> rfl

/-- The window of an earlier day ends before that of a later day begins. -/
theorem windowOf_end_le_start {sh : ShiftDef} (hs : sh.nightStart ≤ 1439) (he : sh.nightEnd ≤ 1439) {i j : Int}
    (hij : i < j) : (sh.windowOf i).2 ≤ (sh.windowOf j).1 := by
  unfold ShiftDef.windowOf
  split <;> simp only <;> omega

/-- A minute that lies in the window of day k is of day k or of the day after. -/
theorem day_of_mem_windowOf {sh : ShiftDef} (hs : sh.nightStart ≤ 1439) (he : sh.nightEnd ≤ 1439) {k x : Int}
    (h1 : (sh.windowOf k).1 ≤ x) (h2 : x < (sh.windowOf k).2) : x / 1440 - 1 ≤ k ∧ k ≤ x / 1440 := by
  unfold ShiftDef.windowOf at h1 h2
  split at h2 <;> simp only at h1 h2 <;> omega

/-- A minute of the day is in the night window iff the absolute minute lies in the window of some day: its own, or, after
midnight, the day before. -/
theorem inNight_iff_exists_windowOf {sh : ShiftDef} (hs : sh.nightStart ≤ 1439) (he : sh.nightEnd ≤ 1439)
    (hne : sh.nightStart ≠ sh.nightEnd) (x : Nat) :
    sh.inNight (x % 1440) ↔ ∃ k : Int, (sh.windowOf k).1 ≤ x ∧ x < (sh.windowOf k).2 := by
  unfold ShiftDef.inNight ShiftDef.windowOf
  by_cases hlt : sh.nightStart < sh.nightEnd
  · simp only [if_pos hlt]
    constructor
    · intro h
      exact ⟨x / 1440, by omega, by omega⟩
    · rintro ⟨k, h1, h2⟩
      omega
  · simp only [if_neg hlt]
    constructor
    · rintro ⟨-, h | h⟩
      · exact ⟨x / 1440, by omega, by omega⟩
      · exact ⟨x / 1440 - 1, by omega, by omega⟩
    · rintro ⟨k, h1, h2⟩
      omega

/-! ## The minutes that lie in a window -/

/-- The minutes m of the interval [ein, ein + span), counted from ein, that lie in the window of day k. -/
def ShiftDef.minutesOnDay (sh : ShiftDef) (ein : Int) (span : Nat) (k : Int) : Finset Nat :=
  {m ∈ range span | (sh.windowOf k).1 ≤ ein + m ∧ ein + m < (sh.windowOf k).2}

/-- The minutes of the interval that lie in the window of one of the n days from day k on. -/
def ShiftDef.minutesOnDays (sh : ShiftDef) (ein : Int) (span : Nat) (k : Int) (n : Nat) : Finset Nat :=
  (range n).biUnion fun i => sh.minutesOnDay ein span (k + i)

@[simp] theorem mem_minutesOnDay {sh : ShiftDef} {ein : Int} {span : Nat} {k : Int} {m : Nat} :
    m ∈ sh.minutesOnDay ein span k ↔ m < span ∧ (sh.windowOf k).1 ≤ ein + m ∧ ein + m < (sh.windowOf k).2 := by
  simp [ShiftDef.minutesOnDay]

@[simp] theorem mem_minutesOnDays {sh : ShiftDef} {ein : Int} {span : Nat} {k : Int} {n m : Nat} :
    m ∈ sh.minutesOnDays ein span k n ↔ ∃ i < n, m ∈ sh.minutesOnDay ein span (k + i) := by
  simp only [ShiftDef.minutesOnDays, mem_biUnion, mem_range]

/-- The overlap of the interval with a window is the number of the interval's minutes that lie in it. -/
theorem card_minutesOnDay (sh : ShiftDef) (ein : Int) (span : Nat) (k : Int) :
    (sh.minutesOnDay ein span k).card = meetOf (ein, ein + span) (sh.windowOf k) := by
  have hIco : sh.minutesOnDay ein span k =
      Ico ((sh.windowOf k).1 - ein).toNat (min span ((sh.windowOf k).2 - ein).toNat) := by
    ext m
    rw [mem_minutesOnDay, mem_Ico]
    omega
  rw [hIco, Nat.card_Ico, meetOf]
  omega

/-- No minute lies in the windows of two days. -/
theorem minutesOnDay_disjoint {sh : ShiftDef} (hs : sh.nightStart ≤ 1439) (he : sh.nightEnd ≤ 1439) (ein : Int)
    (span : Nat) {i j : Int} (hij : i ≠ j) : Disjoint (sh.minutesOnDay ein span i) (sh.minutesOnDay ein span j) := by
  rw [disjoint_left]
  intro m hi hj
  obtain ⟨-, hi1, hi2⟩ := mem_minutesOnDay.mp hi
  obtain ⟨-, hj1, hj2⟩ := mem_minutesOnDay.mp hj
  rcases hij.lt_or_gt with h | h
  all_goals
    have := windowOf_end_le_start hs he h
    omega

/-! ## The sum of the overlaps -/

/-- The model's sum over n days, as the sum of the list of the overlaps. -/
theorem nightSum_eq_sum_meetOf (sh : ShiftDef) (a b k : Int) (n : Nat) :
    nightSum sh a b k n = ((List.range n).map fun i : Nat => meetOf (a, b) (sh.windowOf (k + i))).sum := by
  induction n generalizing k with
  | zero => rfl
  | succ n ih =>
    have hshift : ∀ i : Nat, k + 1 + (i : Int) = k + ((i + 1 : Nat) : Int) := by intro i; omega
    rw [nightSum, ih, nightWindow_eq_windowOf, List.range_succ_eq_map]
    simp [overlap, meetOf, hshift, Function.comp_def]

/-- The sum of the overlaps counts the minutes that lie in a window of the days summed over: the windows are disjoint. -/
theorem nightSum_eq_card {sh : ShiftDef} (hs : sh.nightStart ≤ 1439) (he : sh.nightEnd ≤ 1439) (ein : Int) (span : Nat)
    (k : Int) (n : Nat) : nightSum sh ein (ein + span) k n = (sh.minutesOnDays ein span k n).card := by
  have hdisj : ((range n : Finset Nat) : Set Nat).PairwiseDisjoint fun i => sh.minutesOnDay ein span (k + i) :=
    fun i _ j _ hij => minutesOnDay_disjoint hs he ein span (by omega)
  rw [ShiftDef.minutesOnDays, card_biUnion hdisj, nightSum_eq_sum_meetOf]
  simp only [card_minutesOnDay]
  rfl

/-- The days day(ein) − 1 through day(ein + span) are enough: they hold every window that a minute of the interval lies in. -/
theorem mem_minutesOnDays_iff_inNight {sh : ShiftDef} (hs : sh.nightStart ≤ 1439) (he : sh.nightEnd ≤ 1439)
    (hne : sh.nightStart ≠ sh.nightEnd) {ein : Int} (hein : 0 ≤ ein) (span m : Nat) :
    m ∈ sh.minutesOnDays ein span (ein / 1440 - 1) ((ein + span) / 1440 - (ein / 1440 - 1) + 1).toNat ↔
      m < span ∧ sh.inNight ((ein.toNat + m) % 1440) := by
  have habs : ((ein.toNat + m : Nat) : Int) = ein + m := by omega
  rw [inNight_iff_exists_windowOf hs he hne, mem_minutesOnDays, habs]
  simp only [mem_minutesOnDay]
  constructor
  · rintro ⟨i, -, hm, h⟩
    exact ⟨hm, _, h⟩
  · rintro ⟨hm, k, h1, h2⟩
    have hk := day_of_mem_windowOf hs he h1 h2
    have hi : ein / 1440 - 1 + ((k - (ein / 1440 - 1)).toNat : Int) = k := by omega
    exact ⟨(k - (ein / 1440 - 1)).toNat, by omega, hm, by rwa [hi], by rwa [hi]⟩

/-! ## The night minutes -/

theorem nightOf_of_eq {sh : ShiftDef} (h : sh.nightStart = sh.nightEnd) (ein : Int) (span paid : Nat) :
    nightOf sh ein span paid = 0 := if_pos h

theorem nightOf_of_ne {sh : ShiftDef} (h : sh.nightStart ≠ sh.nightEnd) (ein : Int) (span paid : Nat) :
    nightOf sh ein span paid =
      min (nightSum sh ein (ein + span) (ein / 1440 - 1) ((ein + span) / 1440 - (ein / 1440 - 1) + 1).toNat) paid :=
  if_neg h

/-- The night minutes count the minutes of the interval whose minute of the day is in the night window, held to paid. -/
theorem nightOf_counts_inNight {sh : ShiftDef} (hs : sh.nightStart ≤ 1439) (he : sh.nightEnd ≤ 1439) {ein : Int}
    (hein : 0 ≤ ein) (span paid : Nat) :
    ∃ inside : Finset Nat, (∀ m, m ∈ inside ↔ m < span ∧ sh.inNight ((ein.toNat + m) % 1440)) ∧
      nightOf sh ein span paid = min inside.card paid := by
  by_cases hne : sh.nightStart = sh.nightEnd
  · refine ⟨∅, fun m => ?_, ?_⟩
    · simp [ShiftDef.inNight, hne]
    · simp [nightOf_of_eq hne]
  · exact ⟨_, mem_minutesOnDays_iff_inNight hs he hne hein span, by rw [nightOf_of_ne hne, nightSum_eq_card hs he]⟩

/-- The night minutes of a scheduled closing, by its own effective times and held to the paid minutes (R93, R94). -/
theorem scheduledFigures_night (sh : ShiftDef) (c : PayClass) (holidays : List Nat) (period : Nat) (sc : Schedule)
    (tIn : Nat) (tOut : Option Nat) {f : Figures} (hf : f = scheduledFigures sh c holidays period sc tIn tOut) :
    f.night = nightOf sh f.ein (spanOf f.ein f.eout) (f.regular + f.overtime) := by
  have hpaid : f.regular + f.overtime = paidOf sh (spanOf f.ein f.eout) := by
    subst hf
    exact Nat.add_sub_cancel' (min_le_left _ _)
  rw [hpaid]
  subst hf
  rfl

theorem spanOf_eq_of_held {ein eout : Int} {span : Nat} (h : (span : Int) = max 0 (min 960 (eout - ein))) :
    spanOf ein eout = span := by
  unfold spanOf Config.spanCap
  omega

/-- Settles O43: the sum over days counts a disjoint union of windows, and the days summed over hold every window the interval
meets. -/
theorem nightMinutesCounted : Obligations.NightMinutesCounted := by
  unfold Obligations.NightMinutesCounted
  constructor
  · intro sh ein span paid hs he hein
    obtain ⟨inside, hmem, hnight⟩ := nightOf_counts_inNight hs he hein span paid
    exact ⟨inside.toList, inside.nodup_toList, by simpa using hmem, by rw [hnight, length_toList]⟩
  · intro sh c holidays period sc tIn tOut f first last span hf hspan hfirst hlast
    have hnight := scheduledFigures_night sh c holidays period sc tIn tOut hf
    rw [spanOf_eq_of_held hspan] at hnight
    refine ⟨fun heq => ?_, fun hne => ?_, fun i j hij hs he => windowOf_end_le_start hs he hij⟩
    · rw [hnight, nightOf_of_eq heq]
    · -- The statement lifts the list of day offsets to integers before it maps.
      rw [hnight, nightOf_of_ne hne, nightSum_eq_sum_meetOf, hfirst, hlast, bind_pure_comp, List.map_eq_map, List.map_map]
      rfl

end Sys2Proof.Machine
end

section
/-! PROOFS. Cadence (R144): what a tick does in each phase, the ticks left of a finite pattern, and how long a pattern plays. -/

namespace Sys2Proof.Machine

/-! ## One tick of a player -/

theorem Playing.tick_of_one_lt_counter {q : Playing} (h : 1 < q.counter) :
    q.tick = some { q with counter := q.counter - 1 } := if_neg (Nat.not_le.mpr h)

theorem Playing.tick_of_counter_le_one {q : Playing} (h : q.counter ≤ 1) : q.tick = q.expire := if_pos h

theorem Playing.expire_gap {q : Playing} (h : q.phase = .gap) :
    q.expire = some { q with phase := .stroke, counter := q.copy.period } := by
  simp [Playing.expire, h, Playing.newStroke]

theorem Playing.expire_stroke_of_more_strokes {q : Playing} (h : q.phase = .stroke) (hs : 1 < q.strokesLeft) :
    q.expire = some { q with counter := q.copy.period, strokesLeft := q.strokesLeft - 1 } := by
  simp [Playing.expire, h, hs, Playing.newStroke]

/-- The end of a group with a next one: through GAP where the pattern has a gap, at once where it has none. -/
theorem Playing.expire_stroke_of_more_groups {q : Playing} (h : q.phase = .stroke) (hs : q.strokesLeft ≤ 1)
    (hg : q.copy.groups = 0 ∨ 1 < q.groupsLeft) :
    q.expire = some
      { q with
        strokesLeft := q.copy.strokes
        groupsLeft := if q.copy.groups = 0 then q.groupsLeft else q.groupsLeft - 1
        phase := if 0 < q.copy.gap then .gap else .stroke
        counter := if 0 < q.copy.gap then q.copy.gap else q.copy.period } := by
  by_cases hgap : 0 < q.copy.gap <;>
    simp [Playing.expire, h, Nat.not_lt.mpr hs, hg, hgap, Playing.newStroke, Playing.groupsAfter]

theorem Playing.expire_stroke_of_last {q : Playing} (h : q.phase = .stroke) (hs : q.strokesLeft ≤ 1)
    (hf : q.copy.groups ≠ 0) (hg : q.groupsLeft ≤ 1) : q.expire = none := by
  simp [Playing.expire, h, Nat.not_lt.mpr hs, hf, Nat.not_lt.mpr hg]

/-! ## Ticks within a stroke or a gap -/

@[simp] theorem ticksOf_none (k : Nat) : ticksOf k none = none := by
  induction k with
  | zero => rfl
  | succ k ih => exact ih

/-- Before its counter runs out a player only counts down. -/
theorem ticksOf_of_lt_counter {q : Playing} {k : Nat} (h : k < q.counter) :
    ticksOf k (some q) = some { q with counter := q.counter - k } := by
  induction k generalizing q with
  | zero => rfl
  | succ k ih =>
    rw [ticksOf, Option.bind_some, Playing.tick_of_one_lt_counter (by omega), ih (by simp only; omega), Nat.sub_sub,
      Nat.add_comm 1]

theorem Playing.output_iff (q : Playing) :
    q.output = true ↔ q.phase = .stroke ∧ q.copy.period - min q.copy.on q.copy.period < q.counter := by
  simp [Playing.output]

/-- The first stroke is on for its first min(on, period) ticks. -/
theorem output_of_first_stroke (b : Bells) (n : PatternNumber) (source : ZoneSource) {k : Nat}
    (hk : k < (vget b.patterns n).period) :
    (ticksOf k (some (b.started n source))).map Playing.output =
      some (decide (k < min (vget b.patterns n).on (vget b.patterns n).period)) := by
  rw [ticksOf_of_lt_counter (q := b.started n source) hk, Option.map_some, Option.some_inj, Bool.eq_iff_iff,
    Playing.output_iff, decide_eq_true_iff]
  simp only [Bells.started, true_and]
  omega

/-! ## A continuous pattern -/

/-- A player of a continuous pattern plays on at every tick. -/
theorem Playing.tick_of_continuous {q : Playing} (hc : q.copy.groups = 0) :
    ∃ r, q.tick = some r ∧ r.copy.groups = 0 := by
  rcases Nat.lt_or_ge 1 q.counter with hn | hn
  · exact ⟨_, Playing.tick_of_one_lt_counter hn, hc⟩
  rw [Playing.tick_of_counter_le_one hn]
  cases hp : q.phase with
  | gap => exact ⟨_, Playing.expire_gap hp, hc⟩
  | stroke =>
    rcases Nat.lt_or_ge 1 q.strokesLeft with hs | hs
    · exact ⟨_, Playing.expire_stroke_of_more_strokes hp hs, hc⟩
    · exact ⟨_, Playing.expire_stroke_of_more_groups hp hs (.inl hc), hc⟩

theorem isSome_ticksOf_of_continuous {q : Playing} (hc : q.copy.groups = 0) (k : Nat) :
    (ticksOf k (some q)).isSome = true := by
  induction k generalizing q with
  | zero => rfl
  | succ k ih =>
    obtain ⟨r, hr, hcr⟩ := Playing.tick_of_continuous hc
    rw [ticksOf, Option.bind_some, hr]
    exact ih hcr

/-! ## A finite pattern -/

/-- A player of a finite pattern that is not silent, in the middle of its play: every counter still has something to count. -/
structure Playing.FiniteLaw (q : Playing) : Prop where
  finite : q.copy.groups ≠ 0
  period : 0 < q.copy.period
  strokes : 0 < q.copy.strokes
  counter : 0 < q.counter
  strokesLeft : 0 < q.strokesLeft
  groupsLeft : 0 < q.groupsLeft

/-- The strokes of the current group not yet begun; in GAP these are all strokes of the next group. -/
def Playing.strokesToBegin (q : Playing) : Nat := if q.phase = .stroke then q.strokesLeft - 1 else q.strokesLeft

/-- The ticks until a player of a finite pattern is IDLE: the rest of its stroke or gap, the strokes to begin, and the groups
after these with a gap before each. -/
def Playing.ticksLeft (q : Playing) : Nat :=
  q.counter + q.strokesToBegin * q.copy.period + (q.groupsLeft - 1) * (q.copy.gap + q.copy.strokes * q.copy.period)

theorem Playing.ticksLeft_of_stroke {q : Playing} (h : q.phase = .stroke) :
    q.ticksLeft = q.counter + (q.strokesLeft - 1) * q.copy.period +
      (q.groupsLeft - 1) * (q.copy.gap + q.copy.strokes * q.copy.period) := by
  rw [Playing.ticksLeft, Playing.strokesToBegin, if_pos h]

theorem Playing.ticksLeft_of_gap {q : Playing} (h : q.phase = .gap) :
    q.ticksLeft = q.counter + q.strokesLeft * q.copy.period +
      (q.groupsLeft - 1) * (q.copy.gap + q.copy.strokes * q.copy.period) := by
  rw [Playing.ticksLeft, Playing.strokesToBegin, if_neg (by simp [h])]

/-- The ticks of n strokes or groups of m ticks: those of one, and of the others. -/
theorem mul_eq_pred_mul_add {n : Nat} (h : 0 < n) (m : Nat) : n * m = (n - 1) * m + m := by
  rw [Nat.sub_one_mul, Nat.sub_add_cancel (Nat.le_mul_of_pos_left m h)]

/-- A tick takes one tick off those left, and ends the play when it is the last. -/
theorem Playing.tick_of_finite {q : Playing} (hq : q.FiniteLaw) :
    (q.ticksLeft = 1 ∧ q.tick = none) ∨ ∃ r, q.tick = some r ∧ r.FiniteLaw ∧ q.ticksLeft = r.ticksLeft + 1 := by
  obtain ⟨hf, hperiod, hstrokes, hcounter, hleft, hgroups⟩ := hq
  rcases Nat.lt_or_ge 1 q.counter with hn | hn
  · refine .inr ⟨_, Playing.tick_of_one_lt_counter hn, ⟨hf, hperiod, hstrokes, Nat.sub_pos_of_lt hn, hleft, hgroups⟩, ?_⟩
    simp only [Playing.ticksLeft, Playing.strokesToBegin]
    omega
  rw [Playing.tick_of_counter_le_one hn]
  cases hp : q.phase with
  | gap =>
    refine .inr ⟨_, Playing.expire_gap hp, ⟨hf, hperiod, hstrokes, hperiod, hleft, hgroups⟩, ?_⟩
    have hstroke := mul_eq_pred_mul_add hleft q.copy.period
    rw [Playing.ticksLeft_of_gap hp, Playing.ticksLeft_of_stroke rfl]
    simp only
    omega
  | stroke =>
    rw [Playing.ticksLeft_of_stroke hp]
    rcases Nat.lt_or_ge 1 q.strokesLeft with hs | hs
    · refine .inr ⟨_, Playing.expire_stroke_of_more_strokes hp hs,
        ⟨hf, hperiod, hstrokes, hperiod, Nat.sub_pos_of_lt hs, hgroups⟩, ?_⟩
      have hstroke := mul_eq_pred_mul_add (Nat.sub_pos_of_lt hs) q.copy.period
      simp only [Playing.ticksLeft_of_stroke, hp]
      omega
    have hnoStroke : (q.strokesLeft - 1) * q.copy.period = 0 := by rw [Nat.sub_eq_zero_of_le hs, Nat.zero_mul]
    rcases Nat.lt_or_ge 1 q.groupsLeft with hg | hg
    · refine .inr ⟨_, Playing.expire_stroke_of_more_groups hp hs (.inr hg), ⟨hf, hperiod, hstrokes, ?_, hstrokes, ?_⟩, ?_⟩
      · simp only; split <;> assumption
      · simp only [if_neg hf]; exact Nat.sub_pos_of_lt hg
      have hgroup := mul_eq_pred_mul_add (Nat.sub_pos_of_lt hg) (q.copy.gap + q.copy.strokes * q.copy.period)
      have hstroke := mul_eq_pred_mul_add hstrokes q.copy.period
      by_cases hgap : 0 < q.copy.gap
      · rw [Playing.ticksLeft_of_gap (if_pos hgap)]
        simp only [if_pos hgap, if_neg hf]
        omega
      · rw [Playing.ticksLeft_of_stroke (if_neg hgap)]
        simp only [if_neg hgap, if_neg hf]
        omega
    · refine .inl ⟨?_, Playing.expire_stroke_of_last hp hs hf hg⟩
      rw [hnoStroke, Nat.sub_eq_zero_of_le hg, Nat.zero_mul]
      omega

/-- A player of a finite pattern plays for exactly the ticks left. -/
theorem isSome_ticksOf_iff_lt_ticksLeft {q : Playing} (hq : q.FiniteLaw) (k : Nat) :
    (ticksOf k (some q)).isSome = true ↔ k < q.ticksLeft := by
  induction k generalizing q with
  | zero =>
    have := hq.counter
    simp only [ticksOf, Option.isSome_some, true_iff, Playing.ticksLeft]
    omega
  | succ k ih =>
    rw [ticksOf, Option.bind_some]
    rcases Playing.tick_of_finite hq with ⟨hlast, hnone⟩ | ⟨r, hr, hlaw, hleft⟩
    · simp [hnone, hlast]
    · rw [hr, ih hlaw, hleft, Nat.add_lt_add_iff_right]

theorem Bells.started_finiteLaw {b : Bells} {n : PatternNumber} (source : ZoneSource)
    (hp : 0 < (vget b.patterns n).period) (hs : 0 < (vget b.patterns n).strokes)
    (hg : 0 < (vget b.patterns n).groups) : (b.started n source).FiniteLaw :=
  ⟨hg.ne', hp, hs, hp, hs, hg⟩

/-- The length of a finite pattern (R144). -/
theorem Bells.started_ticksLeft {b : Bells} {n : PatternNumber} (source : ZoneSource)
    (hs : 0 < (vget b.patterns n).strokes) (hg : 0 < (vget b.patterns n).groups) :
    (b.started n source).ticksLeft =
      (vget b.patterns n).groups * (vget b.patterns n).strokes * (vget b.patterns n).period +
        ((vget b.patterns n).groups - 1) * (vget b.patterns n).gap := by
  have hgroup := mul_eq_pred_mul_add hg ((vget b.patterns n).strokes * (vget b.patterns n).period)
  have hstroke := mul_eq_pred_mul_add hs (vget b.patterns n).period
  rw [Playing.ticksLeft_of_stroke rfl, Nat.mul_assoc, Nat.mul_add]
  simp only [Bells.started]
  omega

/-! ## The zones -/

theorem Bells.request_of_accepts {b : Bells} {z : Zone} {n : PatternNumber} (source : ZoneSource) (h : b.accepts z n) :
    vget (b.request z n source).zones z = some (b.started n source) := by
  rw [Bells.request_zone, if_pos ⟨rfl, (Bells.takes_iff b z n).mpr h⟩]

theorem zoneOutput_of_idle {s : State} {z : Zone} (h : vget s.bells.zones z = none) : zoneOutput s z = false := by
  simp [zoneOutput, h]

theorem zoneOutput_of_playing {s : State} {z : Zone} {q : Playing} (hr : running s = true)
    (h : vget s.bells.zones z = some q) : zoneOutput s z = q.output := by
  simp [zoneOutput, hr, h]

theorem vget_tickZones (s : State) (z : Zone) :
    vget (tickZones s).bells.zones z = (vget s.bells.zones z).bind Playing.tick := by
  rw [tickZones, State.setBells_bells, vget_map]

/-- Settles O48: the ticks left of a started finite pattern are its length, and each tick takes one of them. -/
theorem patternPlaysItsTicks : Obligations.PatternPlaysItsTicks := by
  unfold Obligations.PatternPlaysItsTicks
  refine ⟨fun b n source hp hs => ⟨?finite, ?continuous, fun k hk => output_of_first_stroke b n source hk⟩,
    ?start, ?output, ?tick, vget_tickZones⟩
  case finite =>
    rintro hg total rfl
    have hplays := isSome_ticksOf_iff_lt_ticksLeft (Bells.started_finiteLaw source hp hs hg)
    rw [Bells.started_ticksLeft source hs hg] at hplays
    exact ⟨by simpa using (hplays _).not.mpr (lt_irrefl _), fun k hk => (hplays k).mpr hk⟩
  case continuous => exact fun hg k => isSome_ticksOf_of_continuous hg k
  case start =>
    rintro b n source q rfl
    exact ⟨rfl, rfl, rfl, rfl, rfl, fun z h => Bells.request_of_accepts source h⟩
  case output =>
    intro s z hr
    exact ⟨zoneOutput_of_idle, fun q hq => by rw [zoneOutput_of_playing hr hq, Playing.output_iff]⟩
  case tick =>
    intro q
    refine ⟨Playing.tick_of_one_lt_counter, fun hone => ?_⟩
    rw [Playing.tick_of_counter_le_one hone.le]
    exact ⟨Playing.expire_gap, fun hp => ⟨Playing.expire_stroke_of_more_strokes hp,
      Playing.expire_stroke_of_more_groups hp, Playing.expire_stroke_of_last hp⟩⟩

end Sys2Proof.Machine
end

section
/-! PROOFS. What the operations do to the state, as a path of updates of single fields, each keeping the law of its field: the
commands and the events of lanes, doors, bells, attendance and journal, said once for every invariant of the device and the journal. -/

namespace Sys2Proof.Machine

/-! ## Paths of updates -/

/-- An entry body that issues one number: every body but that of a GAP (R153). -/
def EntryBody.isPlain (b : EntryBody) : Prop := ∀ n, b.extra ≠ .gapCount n

/-- `Moves s t`: the state t comes from s by updates of single fields. An update of the time base, the window, the pay tables, the
memory or the journal keeps the law of its field; an entry is appended and a cause raised whole. -/
inductive Moves (s : State) : State → Prop
  | refl : Moves s s
  | lanes {t} (v) (h : Moves s t) : Moves s (t.setLanes v)
  | gate {t} (v : Gate) (hw : WindowLaw t → WindowLaw (t.setGate v)) (h : Moves s t) : Moves s (t.setGate v)
  | roster {t} (v) (h : Moves s t) : Moves s (t.setRoster v)
  | attendance {t} (v) (h : Moves s t) : Moves s (t.setAttendance v)
  | presentMirror {t} (n : Nat) (h : Moves s t) : Moves s (t.setControl { t.control with presentMirror := n })
  | bells {t} (v) (h : Moves s t) : Moves s (t.setBells v)
  | pins {t} (v) (h : Moves s t) : Moves s (t.setPins v)
  | reply {t} (v) (h : Moves s t) : Moves s (t.setReply v)
  | clockMirror {t} (h : Moves s t) : Moves s (writeMirror t)
  | time {t} (v : TimeBase) (hc : ClockLaw t.time → ClockLaw v) (h : Moves s t) : Moves s (t.setTime v)
  | pay {t} (v : PayTables) (hh : HolidayLaw t → HolidayLaw (t.setPay v)) (h : Moves s t) : Moves s (t.setPay v)
  | notices {t} (c : Channel) (ack fault : PortSet) (h : Moves s t) :
      Moves s (t.setChannel c { t.channel c with ackPorts := ack, faultPorts := fault })
  | memory {t} (v : Memory) (hm : Memory.wf t.memory → Memory.wf v) (h : Moves s t) : Moves s (t.setMemory v)
  | journal {t} (v : Journal) (hj : JournalLaw t.journal → JournalLaw v) (h : Moves s t) : Moves s (t.setJournal v)
  | append {t} (b : EntryBody) (hb : b.isPlain) (h : Moves s t) : Moves s (appendEntry b t)
  | cause {t} (p : Port) (c : Cause) (h : Moves s t) : Moves s (raiseCause p c t)
  | examine {t} (p : Port) (h : Moves s t) : Moves s (examineHigh p t)

namespace Moves

variable {s t u : State}

theorem trans (h : Moves s t) (h' : Moves t u) : Moves s u := by
  induction h' with
  | refl => exact h
  | lanes v _ ih => exact ih.lanes v
  | gate v hw _ ih => exact ih.gate v hw
  | roster v _ ih => exact ih.roster v
  | attendance v _ ih => exact ih.attendance v
  | presentMirror n _ ih => exact ih.presentMirror n
  | bells v _ ih => exact ih.bells v
  | pins v _ ih => exact ih.pins v
  | reply v _ ih => exact ih.reply v
  | clockMirror _ ih => exact ih.clockMirror
  | time v hc _ ih => exact ih.time v hc
  | pay v hh _ ih => exact ih.pay v hh
  | notices c a f _ ih => exact ih.notices c a f
  | memory v hm _ ih => exact ih.memory v hm
  | journal v hj _ ih => exact ih.journal v hj
  | append b hb _ ih => exact ih.append b hb
  | cause p c _ ih => exact ih.cause p c
  | examine p _ ih => exact ih.examine p

theorem foldl {α : Type} {f : State → α → State} (hf : ∀ t a, Moves s t → Moves s (f t a)) (l : List α) (h : Moves s t) :
    Moves s (l.foldl f t) := by
  induction l generalizing t with
  | nil => exact h
  | cons a l ih => exact ih (hf t a h)

/-! ## Shared updates -/

theorem lane (l : Lane) (v : LaneState) (h : Moves s t) : Moves s (t.setLane l v) := h.lanes _

theorem door (l : Lane) (v : Door) (h : Moves s t) : Moves s (t.setDoor l v) := h.gate _ id

theorem modifyRecord (a : Slot) (f : Record → Record) (h : Moves s t) : Moves s (t.modifyRecord a f) := h.roster _

theorem modifyAllRecords (f : Record → Record) (h : Moves s t) : Moves s (t.modifyAllRecords f) := h.roster _

theorem causeBoth (c : Cause) (h : Moves s t) : Moves s (raiseBoth c t) := (h.cause .bus c).cause .link c

theorem ite {c : Prop} [Decidable c] {u : State} (h1 : c → Moves s t) (h2 : ¬ c → Moves s u) :
    Moves s (if c then t else u) := by
  split
  · exact h1 ‹_›
  · exact h2 ‹_›

/-! ## Bells -/

theorem alarmRequest (c : LaneConfig) (src : ZoneSource) (h : Moves s t) : Moves s (alarmRequest c src t) := h.bells _

theorem endHeldAlarm (l : Lane) (h : Moves s t) : Moves s (endHeldAlarm l t) := h.bells _

theorem beginEvacuation (h : Moves s t) : Moves s (beginEvacuation t) := h.bells _

theorem endEvacuation (h : Moves s t) : Moves s (endEvacuation t) := h.bells _

theorem evaluateSchedule (m : Nat) (h : Moves s t) : Moves s (evaluateSchedule m t) := h.bells _

/-! ## Attendance -/

theorem addException (a : Slot) (h : Moves s t) : Moves s (addException a t) := h.modifyRecord _ _

theorem rolloverSlot (a : Slot) (h : Moves s t) : Moves s (rolloverSlot a t) := h.modifyRecord _ _

theorem putAttendance (v : List Attendance) (h : Moves s t) : Moves s (putAttendance v t) :=
  (h.attendance v).presentMirror v.length

theorem openAttendance (a : Slot) (sd : Option ShiftDay) (time : Time) (h : Moves s t) :
    Moves s (openAttendance a sd time t) := (h.putAttendance _).modifyRecord _ _

theorem endAttendance (a : Slot) (h : Moves s t) : Moves s (endAttendance a t) := (h.putAttendance _).modifyRecord _ _

theorem closeEntry (e : Attendance) (m : Option Nat) (h : Moves s t) : Moves s (closeEntry e m t) :=
  (h.modifyRecord _ _).endAttendance _

theorem sweepEntry (e : Attendance) (h : Moves s t) : Moves s (sweepEntry e t) :=
  ite (fun _ => h) fun _ => (h.closeEntry e none).append _ (by rintro n ⟨⟩)

theorem sweep (m : Nat) (h : Moves s t) : Moves s (sweep m t) := foldl (fun _ e h => h.sweepEntry e) _ h

theorem minuteEvent (h : Moves s t) : Moves s (minuteEvent t) :=
  ite (fun _ => h) fun _ => (h.sweep _).evaluateSchedule _

/-! ## Doors -/

theorem doorGrant (l : Lane) (h : Moves s t) : Moves s (doorGrant l t) := h.door _ _

theorem lockDoor (l : Lane) (h : Moves s t) : Moves s (lockDoor l t) := h.door _ _

theorem stopHeldBell (l : Lane) (h : Moves s t) : Moves s (stopHeldBell l t) :=
  ite (fun _ => (h.endHeldAlarm l).door _ _) fun _ => h

theorem restDoor (l : Lane) (d : DoorStatus) (h : Moves s t) : Moves s (restDoor l d t) := (h.stopHeldBell l).door _ _

theorem forcedPassage (l : Lane) (h : Moves s t) : Moves s (forcedPassage l t) :=
  ite (fun _ => h.append _ (by rintro n ⟨⟩)) fun _ =>
    (((h.door l _).append _ (by rintro n ⟨⟩)).alarmRequest _ _).causeBoth _

theorem heldAlarm (l : Lane) (h : Moves s t) : Moves s (heldAlarm l t) :=
  ite (fun _ => (h.door l _).append _ (by rintro n ⟨⟩)) fun _ =>
    ((((h.door l _).door l _).append _ (by rintro n ⟨⟩)).alarmRequest _ _).causeBoth _

/-! ## Lanes -/

theorem loadRed (l : Lane) (h : Moves s t) : Moves s (loadRed l t) := h.lane _ _

theorem refuseFrame (l : Lane) (w : BadgeRead) (a : Option Slot) (reason : DenyReason) (h : Moves s t) :
    Moves s (refuseFrame l w a reason t) := (h.append _ (by rintro n ⟨⟩)).loadRed l

theorem takeMuster (l : Lane) (w : BadgeRead) (a : Slot) (h : Moves s t) : Moves s (takeMuster l w a t) :=
  (h.modifyRecord a _).append _ (by rintro n ⟨⟩)

theorem clearPassage (l : Lane) (a : Slot) (h : Moves s t) : Moves s (clearPassage l a t) := (h.modifyRecord a _).lane _ _

theorem applyPunch (p : PendingPassage) (h : Moves s t) : Moves s (applyPunch p t) := by
  unfold Machine.applyPunch
  split
  case h_1 => exact h.openAttendance _ _ _
  case h_2 => exact (h.openAttendance _ _ _).addException _
  case h_3 => split; exacts [h.closeEntry _ _, h]
  case h_4 => split; exacts [h.closeEntry _ _, h]
  case h_5 => split; exacts [h.addException _, h]
  case h_6 => split; exacts [h.addException _, h]
  case h_7 => exact h

end Moves

theorem punchBody_isPlain (l : Lane) (p : PendingPassage) (f : Option Figures) : (punchBody l p f).isPlain := by
  cases f <;> rintro n ⟨⟩

namespace Moves

variable {s t u : State}

theorem resolvePassage (l : Lane) (p : PendingPassage) (h : Moves s t) : Moves s (resolvePassage l p t) :=
  (((h.applyPunch p).modifyRecord _ _).append _ (punchBody_isPlain _ _ _)).clearPassage _ _

theorem lapsePassage (l : Lane) (p : PendingPassage) (e : Bool) (h : Moves s t) : Moves s (lapsePassage l p e t) :=
  (h.append _ (by rintro n ⟨⟩)).clearPassage _ _

theorem takeGrant (l : Lane) (g : Grant) (w : BadgeRead) (h : Moves s t) : Moves s (takeGrant l g w t) := by
  have h2 := ((h.lane l { t.lane l with pending := some (passageOf g w (decide ((t.door l).status = .passing))) }).modifyRecord
    g.slot (Record.setPending l)).doorGrant l
  exact ite (fun _ => h2.resolvePassage _ _) fun _ => h2

theorem classifyFrame (l : Lane) (w : BadgeRead) (h : Moves s t) : Moves s (classifyFrame l w t) := by
  unfold Machine.classifyFrame
  split
  · exact h.refuseFrame _ _ _ _
  · exact h.takeMuster _ _ _
  · exact h.takeGrant _ _ _

theorem classifyWaiting (l : Lane) (h : Moves s t) : Moves s (classifyWaiting l t) := by
  unfold Machine.classifyWaiting
  split
  · exact (h.lane _ _).classifyFrame _ _
  · exact h

theorem reportPassage (l : Lane) (h : Moves s t) : Moves s (reportPassage l t) := by
  unfold Machine.reportPassage
  split
  · exact (h.resolvePassage _ _).classifyWaiting _
  · exact h

theorem reportLapse (l : Lane) (h : Moves s t) : Moves s (reportLapse l t) := by
  unfold Machine.reportLapse
  split
  · exact (h.lapsePassage _ _ _).classifyWaiting _
  · exact h

theorem emergencyLapse (l : Lane) (h : Moves s t) : Moves s (emergencyLapse l t) := by
  unfold Machine.emergencyLapse
  refine lane _ _ ?_
  split
  · exact h.lapsePassage _ _ _
  · exact h

theorem arriveValid (l : Lane) (w : BadgeRead) (h : Moves s t) : Moves s (arriveValid l w t) := by
  unfold Machine.arriveValid
  split
  · exact h.classifyFrame _ _
  · split
    · exact h
    · split
      · exact h.lane _ _
      · split
        · exact h
        · exact h.refuseFrame _ _ _ _

theorem endFrame (l : Lane) (bits : List Bool) (h : Moves s t) : Moves s (endFrame l bits t) := by
  have h1 := h.lane l { t.lane l with bits := [], gap := 0 }
  exact ite (fun _ => h1.arriveValid _ _) fun _ => (h1.append _ (by rintro n ⟨⟩)).loadRed _

theorem clockPulse (l : Lane) (b : Bool) (h : Moves s t) : Moves s (clockPulse l b t) :=
  ite (fun _ => ite (fun _ => h.endFrame _ _) fun _ => h.lane _ _) fun _ => h

theorem gapExpiry (l : Lane) (h : Moves s t) : Moves s (gapExpiry l t) := ite (fun _ => h.endFrame _ _) fun _ => h

theorem frameArrival (l : Lane) (e : FrameEnd) (h : Moves s t) : Moves s (frameArrival l e t) := by
  cases e with
  | gap => exact h.gapExpiry l
  | extraBit b => exact ite (fun _ => h.clockPulse l b) fun _ => h

theorem redExpiry (l : Lane) (h : Moves s t) : Moves s (redExpiry l t) := ite (fun _ => h.lane _ _) fun _ => h

theorem adaptSensor (l : Lane) (old new : Sensor) (h : Moves s t) : Moves s (adaptSensor l old new t) :=
  ite (fun _ => h.restDoor _ _) fun _ => ite (fun _ => h.door _ _) fun _ => h

/-! ## The gate -/

theorem rotationPulse (l : Lane) (h : Moves s t) : Moves s (rotationPulse l t) := by
  refine ite (fun _ => ?_) fun _ => h
  split
  · exact (h.door _ _).reportPassage _
  · exact h.forcedPassage _
  · exact h.forcedPassage _
  · exact h
  · exact h

theorem contactOpening (l : Lane) (h : Moves s t) : Moves s (contactOpening l t) := by
  have h0 : Moves s (setContactPin l true t) := h.pins _
  refine ite (fun _ => ?_) fun _ => h0
  have h1 := h0.door l { (setContactPin l true t).door l with contactOpen := true }
  split
  · exact (h1.door _ _).reportPassage _
  · exact h1.forcedPassage _
  · exact h1.forcedPassage _
  · exact h1
  · exact h1

theorem contactClosing (l : Lane) (h : Moves s t) : Moves s (contactClosing l t) := by
  have h0 : Moves s (setContactPin l false t) := h.pins _
  refine ite (fun _ => ?_) fun _ => h0
  have h1 := h0.door l { (setContactPin l false t).door l with contactOpen := false }
  split
  · exact h1.restDoor _ _
  · exact h1

theorem releaseExpiry (l : Lane) (h : Moves s t) : Moves s (releaseExpiry l t) :=
  ite (fun _ => (h.door _ _).reportLapse _) fun _ => h

theorem heldExpiry (l : Lane) (h : Moves s t) : Moves s (heldExpiry l t) := ite (fun _ => h.heldAlarm _) fun _ => h

theorem freeByMode (l : Lane) (h : Moves s t) : Moves s (freeByMode l t) := by
  have h1 := h.door l { t.door l with mode := .free }
  unfold Machine.freeByMode
  dsimp only
  split
  · exact h1
  · exact h1
  · exact (h1.restDoor _ _).reportPassage _

theorem normalByMode (l : Lane) (h : Moves s t) : Moves s (normalByMode l t) := by
  have h1 := h.door l { t.door l with mode := .normal }
  exact ite (fun _ => h1.lockDoor _) fun _ => h1

theorem lockDownLane (l : Lane) (h : Moves s t) : Moves s (lockDownLane l t) :=
  ite (fun _ => h) fun _ => (h.restDoor _ _).reportLapse _

theorem leaveLockdown (l : Lane) (h : Moves s t) : Moves s (leaveLockdown l t) :=
  ite (fun _ => ite (fun _ => h.door _ _) fun _ => h.lockDoor _) fun _ => h

theorem emergencyFree (l : Lane) (h : Moves s t) : Moves s (emergencyFree l t) :=
  ite (fun _ => (h.restDoor _ _).door _ _) fun _ => h

theorem emergencyReturn (l : Lane) (h : Moves s t) : Moves s (emergencyReturn l t) := by
  have h1 := h.door l { t.door l with freed := false }
  exact ite (fun _ => ite (fun _ => h1.door _ _) fun _ => ite (fun _ => h1.door _ _) fun _ => h1.lockDoor _) fun _ => h

theorem setUpDoor (l : Lane) (h : Moves s t) : Moves s (setUpDoor l t) := h.door _ _

theorem assertEmergency (h : Moves s t) : Moves s (assertEmergency t) := by
  have h1 := h.gate { t.gate with emergency := true, windowCountdown := 0 } (fun hw => ⟨hw.1, by simp⟩)
  have h3 := (h1.modifyAllRecords (fun r => { r with muster := false })).append
    (plainBody .emergencyOn t.time.clock) (by rintro n ⟨⟩)
  have h5 := foldl (fun _ l h => h.emergencyFree l) allLanes (foldl (fun _ l h => h.emergencyLapse l) allLanes h3)
  exact h5.beginEvacuation.causeBoth _

/-- The window is loaded with its length (R131, R132). -/
theorem loadWindow (h : Moves s t) : Moves s (t.setGate { t.gate with windowCountdown := t.gate.windowLength * 60 }) :=
  h.gate _ fun hw => ⟨hw.1, Nat.mul_le_mul_right 60 hw.1⟩

theorem releaseEmergency (h : Moves s t) : Moves s (releaseEmergency t) :=
  ((foldl (fun _ l h => h.emergencyReturn l) allLanes (h.gate { t.gate with emergency := false } id)).loadWindow.endEvacuation.append
    _ (by rintro n ⟨⟩)).causeBoth _

theorem continueEmergency (h : Moves s t) : Moves s (continueEmergency t) :=
  (foldl (fun _ l h => h.emergencyFree l) allLanes h).beginEvacuation.causeBoth _

theorem lineAsserts (h : Moves s t) : Moves s (lineAsserts t) :=
  ite (fun _ => (h.pins _).assertEmergency) fun _ => h.pins _

theorem lineReleases (h : Moves s t) : Moves s (lineReleases t) :=
  ite (fun _ => (h.pins _).releaseEmergency) fun _ => h.pins _

theorem windowExpiry (h : Moves s t) : Moves s (windowExpiry t) :=
  ite (fun _ => h.gate _ fun hw => ⟨hw.1, by simp⟩) fun _ => h

theorem reconcileEmergency (h : Moves s t) : Moves s (reconcileEmergency t) := by
  unfold Machine.reconcileEmergency
  split
  · exact h.assertEmergency
  · exact h.continueEmergency
  · exact h.releaseEmergency
  · exact h

theorem startDoors (h : Moves s t) : Moves s (startDoors t) :=
  (foldl (fun _ l h => h.setUpDoor l) allLanes h).reconcileEmergency

end Moves

end Sys2Proof.Machine
end

section
/-! PROOFS. The journal's law (R153, R156–R159): what tiling gives, what freeing keeps, and that each operation of the journal keeps
the law. -/

namespace Sys2Proof.Machine

/-! ## Entries that tile a span -/

/-- How many numbers a list of entries covers. -/
def spanOfEntries (es : List Entry) : Nat := (es.map Entry.covers).sum

@[simp] theorem spanOfEntries_nil : spanOfEntries [] = 0 := rfl

@[simp] theorem spanOfEntries_cons (e : Entry) (es : List Entry) : spanOfEntries (e :: es) = e.covers + spanOfEntries es := rfl

@[simp] theorem spanOfEntries_append (es fs : List Entry) :
    spanOfEntries (es ++ fs) = spanOfEntries es + spanOfEntries fs := by
  simp [spanOfEntries]

@[simp] theorem wordsOf_nil : wordsOf [] = 0 := rfl

@[simp] theorem wordsOf_cons (e : Entry) (es : List Entry) : wordsOf (e :: es) = e.length + wordsOf es := rfl

@[simp] theorem wordsOf_append (es fs : List Entry) : wordsOf (es ++ fs) = wordsOf es + wordsOf fs := by
  simp [wordsOf]

/-- The first number kept of a list of entries, w where none is. -/
def firstKept (w : Seq) : List Entry → Seq
  | [] => w
  | e :: _ => e.seq

theorem Tiles.firstKept_eq {es : List Entry} {f w : Seq} (h : Tiles es f w) : firstKept w es = f := by
  cases es with
  | nil => exact h.symm
  | cons e es => exact h.1

/-- The later part of a tiled span is tiled. -/
theorem Tiles.suffix {xs ys : List Entry} {f w : Seq} (h : Tiles (xs ++ ys) f w) : Tiles ys (firstKept w ys) w := by
  induction xs generalizing f with
  | nil => rw [Tiles.firstKept_eq (es := ys) h]; exact h
  | cons x xs ih => exact ih h.2

/-- What follows an entry of a tiled span begins with the number after it. -/
theorem Tiles.after {xs ys : List Entry} {e : Entry} {f w : Seq} (h : Tiles (xs ++ e :: ys) f w) : Tiles ys e.next w :=
  (Tiles.suffix h).2

/-- A tiled span grows by an entry at its end. -/
theorem Tiles.snoc {es : List Entry} {e : Entry} {f w : Seq} (h : Tiles es f w) (he : e.seq = w) : Tiles (es ++ [e]) f e.next := by
  induction es generalizing f with
  | nil => exact ⟨he.trans (show f = w from h).symm, rfl⟩
  | cons x xs ih => exact ⟨h.1, ih h.2⟩

/-- A tiled span ends as many numbers after its start as its entries cover. -/
theorem Tiles.end_eq {es : List Entry} {f w : Seq} (h : Tiles es f w) : w = f + BitVec.ofNat 32 (spanOfEntries es) := by
  induction es generalizing f with
  | nil => simpa using (show f = w from h).symm
  | cons e es ih =>
    obtain ⟨hs, hr⟩ := h
    rw [ih hr, Entry.next, ← hs, spanOfEntries_cons, BitVec.ofNat_add, BitVec.add_assoc]

theorem Tiles.back_start {es : List Entry} {f w : Seq} (h : Tiles es f w) (hs : spanOfEntries es < 2 ^ 32) :
    (w - f).toNat = spanOfEntries es := by
  rw [h.end_eq, BitVec.add_comm, BitVec.add_sub_cancel, BitVec.toNat_ofNat, Nat.mod_eq_of_lt hs]

theorem length_le_spanOfEntries {es : List Entry} (h : ∀ e ∈ es, 1 ≤ e.covers) : es.length ≤ spanOfEntries es := by
  induction es with
  | nil => simp
  | cons e es ih =>
    have h1 := h e (by simp)
    have h2 := ih fun x hx => h x (by simp [hx])
    simp only [List.length_cons, spanOfEntries_cons]
    omega

theorem Entry.eight_le_length (e : Entry) : 8 ≤ e.length := by
  unfold Entry.length EntryBody.length
  split <;> decide

theorem eight_mul_length_le_wordsOf (es : List Entry) : 8 * es.length ≤ wordsOf es := by
  induction es with
  | nil => simp
  | cons e es ih =>
    have := e.eight_le_length
    simp only [List.length_cons, wordsOf_cons]
    omega

/-! ## The law but for what freeing brings about -/

/-- The journal's law without the clause on its oldest entry, which freeing brings about. -/
structure JournalShape (j : Journal) : Prop where
  tiles : Tiles j.entries j.freePoint j.writePoint
  counts : ∀ e ∈ j.entries, 1 ≤ e.covers
  span : spanOfEntries j.entries ≤ 2147483647 + j.entries.length
  room : j.occupied ≤ 65536
  reserve : j.openGap = false → j.occupied + 8 ≤ 65536
  gap : j.openGap = true → NewestGap j.entries
  cursors : ∀ p, if (j.consumer p).enabled = true then
      (j.writePoint - (j.consumer p).cursor).toNat ≤ (j.writePoint - j.freePoint).toNat
    else (j.consumer p).cursor = j.writePoint

theorem JournalLaw.shape {j : Journal} (h : JournalLaw j) : JournalShape j :=
  ⟨h.tiles, h.counts, h.span, h.room, h.reserve, h.gap, h.cursors⟩

theorem JournalShape.span_lt {j : Journal} (h : JournalShape j) : spanOfEntries j.entries < 2147491840 := by
  have h1 := eight_mul_length_le_wordsOf j.entries
  have h2 : wordsOf j.entries ≤ 65536 := h.room
  have h3 := h.span
  omega

theorem JournalShape.back_freePoint {j : Journal} (h : JournalShape j) :
    (j.writePoint - j.freePoint).toNat = spanOfEntries j.entries :=
  h.tiles.back_start (h.span_lt.trans (by decide))

/-- Two journals with the same entries, points and cursors obey the same law: thresholds and marks have no part in it. -/
theorem JournalLaw.of_same_cursors {j k : Journal} (h : JournalLaw j) (he : k.entries = j.entries)
    (hw : k.writePoint = j.writePoint) (hf : k.freePoint = j.freePoint) (ho : k.openGap = j.openGap)
    (hc : ∀ p, (k.consumer p).enabled = (j.consumer p).enabled ∧ (k.consumer p).cursor = (j.consumer p).cursor) :
    JournalLaw k := by
  have hearliest : k.earliest = j.earliest := by
    have hb := hc .bus
    have hl := hc .link
    simp only [Journal.consumer] at hb hl
    simp only [Journal.earliest, hb.1, hb.2, hl.1, hl.2, hw]
  refine ⟨?_, ?_, ?_, ?_, ?_, ?_, fun p => ?_, ?_⟩
  · rw [he, hf, hw]; exact h.tiles
  · rw [he]; exact h.counts
  · rw [he]; exact h.span
  · simp only [Journal.occupied, he]; exact h.room
  · simp only [Journal.occupied, he, ho]; exact h.reserve
  · rw [he, ho]; exact h.gap
  · rw [(hc p).1, (hc p).2, hw, hf]; exact h.cursors p
  · rw [he, hw, hearliest]; exact h.oldest

/-! ## Freeing -/

theorem Entry.allBefore_iff (w q : Seq) (e : Entry) : e.allBefore w q = true ↔ e.liesBefore w q := by
  simp [Entry.allBefore, Entry.liesBefore, back, Entry.next]

theorem Journal.back_cursor_le_earliest (j : Journal) (p : Port) (h : (j.consumer p).enabled = true) :
    back j.writePoint (j.consumer p).cursor ≤ back j.writePoint j.earliest := by
  unfold Journal.earliest
  cases p <;> simp only [Journal.consumer] at h ⊢ <;> rw [h] <;> split <;> simp_all <;> split <;> omega

/-- The earliest cursor lies from F to W. -/
theorem JournalShape.back_earliest_le {j : Journal} (h : JournalShape j) :
    back j.writePoint j.earliest ≤ back j.writePoint j.freePoint := by
  have hb := h.cursors .bus
  have hl := h.cursors .link
  simp only [Journal.consumer] at hb hl
  unfold Journal.earliest back
  cases h1 : j.bus.enabled <;> cases h2 : j.link.enabled <;> simp only [h1, h2, if_true] at hb hl ⊢
  · simp
  · exact hl
  · exact hb
  · split <;> assumption

theorem BitVec.toNat_le_of_lt_add_one {y : Seq} {n : Nat} (h : n < (y + 1).toNat) : n ≤ y.toNat := by
  rw [BitVec.toNat_add] at h
  have := Nat.mod_le (y.toNat + (1 : Seq).toNat) (2 ^ 32)
  have h1 : (1 : Seq).toNat = 1 := rfl
  omega

/-- The number before q lies one further back. -/
theorem le_back_of_lt_back_pred {w q : Seq} {n : Nat} (h : n < back w (q - 1)) : n ≤ back w q := by
  apply BitVec.toNat_le_of_lt_add_one
  rwa [back, show w - (q - 1) = w - q + 1 by grind] at h

/-- What freeing keeps begins no earlier than the earliest cursor asks: the cursor lies from the first number kept to W. -/
theorem JournalShape.back_earliest_le_firstKept {j : Journal} (h : JournalShape j) {freed kept : List Entry}
    (he : j.entries = freed ++ kept) (hfreed : ∀ e ∈ freed, e.liesBefore j.writePoint j.earliest) :
    back j.writePoint j.earliest ≤ back j.writePoint (firstKept j.writePoint kept) := by
  have ht := h.tiles
  rw [he] at ht
  rcases List.eq_nil_or_concat freed with rfl | ⟨front, d, rfl⟩
  · rw [Tiles.firstKept_eq (es := kept) ht]; exact h.back_earliest_le
  · have hd := hfreed d (by simp)
    have hn : Tiles kept d.next j.writePoint := Tiles.after (xs := front) (by simpa using ht)
    rw [hn.firstKept_eq]
    exact le_back_of_lt_back_pred hd

theorem Journal.from_eq_drop (j : Journal) (q : Seq) :
    ∃ freed, j.entries = freed ++ j.from q ∧ (∀ e ∈ freed, e.liesBefore j.writePoint q) ∧
      ∀ e ∈ (j.from q).head?, ¬ e.liesBefore j.writePoint q := by
  refine ⟨j.entries.takeWhile (Entry.allBefore j.writePoint q), (List.takeWhile_append_dropWhile).symm, ?_, ?_⟩
  · intro e he
    exact (Entry.allBefore_iff _ _ _).mp (List.mem_takeWhile_imp he)
  · intro e he
    rw [← Entry.allBefore_iff, Bool.not_eq_true]
    have := List.head?_dropWhile_not (Entry.allBefore j.writePoint q) j.entries
    rw [show j.entries.dropWhile _ = j.from q from rfl, Option.mem_def.mp he] at this
    exact this

theorem NewestGap.suffix {xs ys : List Entry} (h : NewestGap (xs ++ ys)) (hy : ys ≠ []) : NewestGap ys := by
  obtain ⟨e, n, he, hn⟩ := h
  refine ⟨e, n, ?_, hn⟩
  rwa [List.getLast?_append_of_ne_nil _ hy] at he

theorem Journal.refree_freePoint (j : Journal) : j.refree.freePoint = firstKept j.writePoint (j.from j.earliest) := by
  simp only [Journal.refree]
  cases j.from j.earliest <;> rfl

@[simp] theorem Journal.refree_entries (j : Journal) : j.refree.entries = j.from j.earliest := rfl
@[simp] theorem Journal.refree_writePoint (j : Journal) : j.refree.writePoint = j.writePoint := rfl
@[simp] theorem Journal.refree_openGap (j : Journal) : j.refree.openGap = (j.openGap && !(j.from j.earliest).isEmpty) := rfl
@[simp] theorem Journal.refree_consumer (j : Journal) (p : Port) : j.refree.consumer p = j.consumer p := by cases p <;> rfl
@[simp] theorem Journal.refree_earliest (j : Journal) : j.refree.earliest = j.earliest := rfl

/-- Freeing brings the law about. -/
theorem JournalShape.refree {j : Journal} (h : JournalShape j) : JournalLaw j.refree := by
  obtain ⟨freed, he, hfreed, hkept⟩ := j.from_eq_drop j.earliest
  have hcount : ∀ e ∈ freed, 1 ≤ e.covers := fun e hf => h.counts e (by rw [he]; exact List.mem_append_left _ hf)
  have hocc : wordsOf j.entries = wordsOf freed + wordsOf (j.from j.earliest) := by
    conv_lhs => rw [he, wordsOf_append]
  have hroom : wordsOf j.entries ≤ 65536 := h.room
  constructor
  case tiles =>
    have := h.tiles
    rw [he] at this
    rw [Journal.refree_freePoint]
    exact this.suffix
  case counts => exact fun e hk => h.counts e (by rw [he]; exact List.mem_append_right _ hk)
  case span =>
    have h1 := h.span
    have h2 := length_le_spanOfEntries hcount
    rw [he, spanOfEntries_append, List.length_append] at h1
    show spanOfEntries (j.from j.earliest) ≤ _ + (j.from j.earliest).length
    omega
  case room =>
    show wordsOf (j.from j.earliest) ≤ _
    omega
  case reserve =>
    intro ho
    show wordsOf (j.from j.earliest) + 8 ≤ _
    cases hg : j.openGap
    · have : wordsOf j.entries + 8 ≤ 65536 := h.reserve hg
      omega
    · have : j.from j.earliest = [] := by simpa [hg] using ho
      simp [this]
  case gap =>
    intro ho
    simp only [Journal.refree_openGap, Bool.and_eq_true, Bool.not_eq_true', List.isEmpty_eq_false_iff] at ho
    have := h.gap ho.1
    rw [he] at this
    exact this.suffix ho.2
  case cursors =>
    intro p
    have hp := h.cursors p
    rw [Journal.refree_consumer, Journal.refree_writePoint, Journal.refree_freePoint]
    split
    · rename_i hen
      exact (j.back_cursor_le_earliest p hen).trans (h.back_earliest_le_firstKept he hfreed)
    · rwa [if_neg ‹_›] at hp
  case oldest => exact hkept

/-! ## Appending -/

/-- The disabled cursors of a journal follow W. -/
def Journal.followed (j : Journal) : Journal :=
  { j with bus := j.bus.follow j.writePoint, link := j.link.follow j.writePoint }

theorem Journal.settle_eq (j : Journal) : j.settle = j.followed.refree := rfl

theorem Journal.followed_consumer (j : Journal) (p : Port) :
    j.followed.consumer p = (j.consumer p).follow j.writePoint := by cases p <;> rfl

/-- After W rose by 1 the cursors are in order again once the disabled ones follow. -/
theorem JournalShape.followed_cursors {j k : Journal} (h : JournalShape j) (hw : k.writePoint = j.writePoint + 1)
    (hf : k.freePoint = j.freePoint) (hc : ∀ p, k.consumer p = j.consumer p) (p : Port) :
    if (k.followed.consumer p).enabled = true then
      (k.followed.writePoint - (k.followed.consumer p).cursor).toNat ≤ (k.followed.writePoint - k.followed.freePoint).toNat
    else (k.followed.consumer p).cursor = k.followed.writePoint := by
  have hp := h.cursors p
  have hb := h.back_freePoint
  have hs := h.span_lt
  rw [Journal.followed_consumer, hc p]
  change if _ then (k.writePoint - _).toNat ≤ (k.writePoint - k.freePoint).toNat else _ = k.writePoint
  rw [hw, hf]
  unfold Consumer.follow
  cases hen : (j.consumer p).enabled
  · simp
  · simp only [hen, if_true] at hp ⊢
    have rise : ∀ q : Seq, j.writePoint + 1 - q = j.writePoint - q + 1 := fun q => by grind
    have h1 : (1 : Seq).toNat = 1 := rfl
    rw [rise, rise, BitVec.toNat_add, BitVec.toNat_add]
    omega

theorem EntryBody.isPlain.covers {b : EntryBody} (h : b.isPlain) (q : Seq) : Entry.covers ⟨q, b⟩ = 1 := by
  unfold Entry.covers
  split
  · exact absurd ‹_› (h _)
  · rfl

theorem Entry.next_of_covers_one {e : Entry} (h : e.covers = 1) : e.next = e.seq + 1 := by
  rw [Entry.next, h]; rfl

/-- An entry stored where there is room for it, or a GAP in the reserve. -/
theorem JournalShape.store {j : Journal} (h : JournalShape j) {b : EntryBody} {isGap : Bool}
    (hcov : Entry.covers ⟨j.writePoint, b⟩ = 1) (hroom : j.occupied + b.length + (if isGap then 0 else 8) ≤ 65536)
    (hgap : isGap = true → ∃ n, b.extra = .gapCount n) : JournalLaw (j.store b isGap) := by
  rw [Journal.store, Journal.settle_eq]
  refine JournalShape.refree ⟨?_, ?_, ?_, ?_, ?_, ?_, h.followed_cursors rfl rfl fun p => by cases p <;> rfl⟩
  · have := h.tiles.snoc (e := ⟨j.writePoint, b⟩) rfl
    rwa [Entry.next_of_covers_one hcov] at this
  · intro e he
    rcases List.mem_append.mp he with he | he
    · exact h.counts e he
    · rw [List.mem_singleton.mp he, hcov]
  · have := h.span
    show spanOfEntries (j.entries ++ [_]) ≤ _ + (j.entries ++ [_]).length
    simp only [spanOfEntries_append, spanOfEntries_cons, hcov, spanOfEntries_nil, List.length_append, List.length_singleton]
    omega
  · show wordsOf (j.entries ++ [⟨j.writePoint, b⟩]) ≤ _
    have : Entry.length ⟨j.writePoint, b⟩ = b.length := rfl
    simp only [wordsOf_append, wordsOf_cons, this, wordsOf_nil, Journal.occupied] at hroom ⊢
    omega
  · intro hg
    show wordsOf (j.entries ++ [⟨j.writePoint, b⟩]) + 8 ≤ _
    have : Entry.length ⟨j.writePoint, b⟩ = b.length := rfl
    obtain rfl : isGap = false := hg
    simp only [wordsOf_append, wordsOf_cons, this, wordsOf_nil, Journal.occupied, Bool.false_eq_true, if_false] at hroom ⊢
    omega
  · intro hg
    obtain ⟨n, hn⟩ := hgap hg
    exact ⟨⟨j.writePoint, b⟩, n, by simp [Journal.followed], hn⟩

/-! ## A drop into the open GAP -/

theorem Entry.raiseCount_of_gap {e : Entry} {n : Nat} (h : e.body.extra = .gapCount n) :
    e.raiseCount = { e with body := { e.body with extra := .gapCount (n + 1) } } := by
  unfold Entry.raiseCount
  split
  · rename_i m hm
    obtain rfl : n = m := by simpa [h] using hm
    rfl
  · exact absurd h (by simp_all)

theorem Entry.covers_of_gap {e : Entry} {n : Nat} (h : e.body.extra = .gapCount n) : e.covers = n := by
  simp [Entry.covers, h]

theorem raiseNewest_snoc (es : List Entry) (e : Entry) : raiseNewest (es ++ [e]) = es ++ [e.raiseCount] := by
  induction es with
  | nil => rfl
  | cons x xs ih =>
    cases xs with
    | nil => rfl
    | cons y ys => simpa [raiseNewest] using ih

/-- What the newest entry's count raised by 1 leaves: the numbers reach one further, the words are the same. -/
theorem raiseNewest_of_newestGap {es : List Entry} (h : NewestGap es) {f w : Seq} (ht : Tiles es f w)
    (hc : ∀ e ∈ es, 1 ≤ e.covers) :
    Tiles (raiseNewest es) f (w + 1) ∧ (∀ e ∈ raiseNewest es, 1 ≤ e.covers) ∧
      spanOfEntries (raiseNewest es) = spanOfEntries es + 1 ∧ wordsOf (raiseNewest es) = wordsOf es ∧
      (raiseNewest es).length = es.length ∧ NewestGap (raiseNewest es) := by
  obtain ⟨e, n, he, hn⟩ := h
  obtain ⟨front, rfl⟩ : ∃ front, es = front ++ [e] := List.getLast?_eq_some_iff.mp he
  have hr := Entry.raiseCount_of_gap hn
  have hcov : e.raiseCount.covers = e.covers + 1 := by
    rw [Entry.covers_of_gap hn, hr]; exact Entry.covers_of_gap rfl
  have hlen : e.raiseCount.length = e.length := by
    rw [hr]; simp [Entry.length, EntryBody.length, hn]
  rw [raiseNewest_snoc]
  refine ⟨?_, ?_, by simp [hcov, Nat.add_assoc], by simp [hlen], by simp,
    ⟨e.raiseCount, n + 1, by simp, by rw [hr]⟩⟩
  · have hw : e.next = w := (Tiles.after (ys := []) ht : e.next = w)
    have hseq : e.raiseCount.seq = e.seq := by rw [hr]
    have hnext : e.raiseCount.next = w + 1 := by
      rw [← hw, Entry.next, Entry.next, hcov, hseq, BitVec.ofNat_add, BitVec.add_assoc]; rfl
    clear hc he
    induction front generalizing f with
    | nil => exact ⟨hseq.trans ht.1, hnext⟩
    | cons x xs ih => exact ⟨ht.1, ih ht.2⟩
  · intro x hx
    rcases List.mem_append.mp hx with hx | hx
    · exact hc x (by simp [hx])
    · rw [List.mem_singleton.mp hx, hcov]; omega

theorem JournalLaw.drop {j : Journal} (h : JournalLaw j) (clock : Time) : JournalLaw (j.drop clock) := by
  unfold Journal.drop
  have hs := h.shape
  split
  · exact h
  · split
    · rename_i hspan hg
      obtain ⟨htiles, hcounts, hsum, hwords, hlen, hnew⟩ := raiseNewest_of_newestGap (h.gap hg) h.tiles h.counts
      have hroom : wordsOf j.entries ≤ 65536 := h.room
      rw [Journal.settle_eq]
      refine JournalShape.refree ⟨htiles, hcounts, ?_, ?_, ?_, fun _ => hnew,
        hs.followed_cursors rfl rfl fun p => by cases p <;> rfl⟩
      · have hb : back j.writePoint j.freePoint = spanOfEntries j.entries := hs.back_freePoint
        rw [hb] at hspan
        show spanOfEntries (raiseNewest j.entries) ≤ _
        omega
      · show wordsOf (raiseNewest j.entries) ≤ _
        omega
      · intro ho
        exact absurd (hg.symm.trans ho) (by decide)
    · rename_i hg
      refine hs.store rfl ?_ fun _ => ⟨1, rfl⟩
      have := h.reserve (by simpa using hg)
      have hl : (gapBody clock).length = 8 := rfl
      simp only [hl, if_true]
      omega

/-- An append of an entry that issues one number keeps the law (R158, R159). -/
theorem JournalLaw.append {j : Journal} (h : JournalLaw j) (clock : Time) {b : EntryBody} (hb : b.isPlain) :
    JournalLaw (j.append clock b) := by
  unfold Journal.append
  split
  · rename_i hr
    refine h.shape.store (hb.covers _) ?_ (by simp)
    have hroom := h.room
    have hfree := of_decide_eq_true hr
    simp only [Journal.free, Config.ringWords] at hfree
    simp only [Bool.false_eq_true, if_false]
    omega
  · exact h.drop clock

/-! ## Consumers -/

theorem Journal.consumer_setConsumer (j : Journal) (p q : Port) (c : Consumer) :
    (j.setConsumer p c).consumer q = if q = p then c else j.consumer q := by
  cases p <;> cases q <;> rfl

@[simp] theorem Journal.setConsumer_entries (j : Journal) (p : Port) (c : Consumer) :
    (j.setConsumer p c).entries = j.entries := by cases p <;> rfl
@[simp] theorem Journal.setConsumer_writePoint (j : Journal) (p : Port) (c : Consumer) :
    (j.setConsumer p c).writePoint = j.writePoint := by cases p <;> rfl
@[simp] theorem Journal.setConsumer_freePoint (j : Journal) (p : Port) (c : Consumer) :
    (j.setConsumer p c).freePoint = j.freePoint := by cases p <;> rfl
@[simp] theorem Journal.setConsumer_openGap (j : Journal) (p : Port) (c : Consumer) :
    (j.setConsumer p c).openGap = j.openGap := by cases p <;> rfl

/-- A consumer whose threshold or mark alone changes leaves the law. -/
theorem JournalLaw.setConsumer_same {j : Journal} (h : JournalLaw j) (p : Port) {c : Consumer}
    (he : c.enabled = (j.consumer p).enabled) (hc : c.cursor = (j.consumer p).cursor) : JournalLaw (j.setConsumer p c) := by
  refine h.of_same_cursors (by simp) (by simp) (by simp) (by simp) fun q => ?_
  rw [Journal.consumer_setConsumer]
  split
  · subst q; exact ⟨he, hc⟩
  · exact ⟨rfl, rfl⟩

/-- A consumer put in its order leaves the shape. -/
theorem JournalShape.setConsumer {j : Journal} (h : JournalShape j) (p : Port) (c : Consumer)
    (hc : if c.enabled = true then back j.writePoint c.cursor ≤ back j.writePoint j.freePoint
      else c.cursor = j.writePoint) : JournalShape (j.setConsumer p c) := by
  refine ⟨?_, ?_, ?_, ?_, ?_, ?_, fun q => ?_⟩
  · simpa using h.tiles
  · simpa using h.counts
  · simpa using h.span
  · simpa [Journal.occupied] using h.room
  · simpa [Journal.occupied] using h.reserve
  · simpa using h.gap
  · rw [Journal.consumer_setConsumer]
    simp only [Journal.setConsumer_writePoint, Journal.setConsumer_freePoint]
    split
    · exact hc
    · exact h.cursors q

theorem JournalLaw.lowerMark {j : Journal} (h : JournalLaw j) (p : Port) : JournalLaw (j.lowerMark p) := by
  unfold Journal.lowerMark
  dsimp only
  split
  · exact h.setConsumer_same p rfl rfl
  · exact h

theorem JournalLaw.loseMarks {j : Journal} (h : JournalLaw j) : JournalLaw j.loseMarks :=
  h.of_same_cursors rfl rfl rfl rfl fun p => by cases p <;> exact ⟨rfl, rfl⟩

/-- SET CONSUMER keeps the law (R160). -/
theorem JournalLaw.configure {j : Journal} (h : JournalLaw j) (p : Port) (enable : Bool) (threshold : Nat) :
    JournalLaw (j.configure p enable threshold) := by
  unfold Journal.configure
  dsimp only
  split
  · split
    · exact h.setConsumer_same p rfl rfl
    · exact (h.shape.setConsumer p _ (by simp)).refree
  · split
    · exact (h.shape.setConsumer p _ (by simp)).refree
    · exact h.setConsumer_same p rfl rfl

/-- A release leaves the cursor from F to W (R164). -/
theorem JournalShape.back_releaseTarget {j : Journal} (h : JournalShape j) {q : Seq}
    (hq : back j.writePoint q ≤ back j.writePoint j.freePoint) :
    back j.writePoint (releaseTarget j q) ≤ back j.writePoint j.freePoint := by
  obtain ⟨freed, he, -, -⟩ := j.from_eq_drop q
  unfold releaseTarget
  split
  · rename_i e rest hfrom
    split
    · split
      · exact hq
      · rw [hfrom] at he
        have ht := h.tiles
        have hs := h.span_lt
        rw [he] at ht hs
        simp only [spanOfEntries_append, spanOfEntries_cons] at hs
        rw [back, back, ht.after.back_start (by omega), h.back_freePoint, he]
        simp only [spanOfEntries_append, spanOfEntries_cons]
        omega
    · exact hq
  · exact hq

/-- RELEASE JOURNAL keeps the law (R164): a cursor behind which q lies is an enabled one's. -/
theorem JournalLaw.release {j : Journal} (h : JournalLaw j) (p : Port) {q : Seq}
    (hq : back j.writePoint q < back j.writePoint (j.consumer p).cursor) :
    JournalLaw (j.setConsumer p { j.consumer p with cursor := releaseTarget j q }).refree := by
  have hp := h.cursors p
  cases hen : (j.consumer p).enabled
  · rw [if_neg (by simp [hen])] at hp
    simp [hp, back] at hq
  · rw [if_pos hen] at hp
    refine (h.shape.setConsumer p _ ?_).refree
    rw [if_pos hen]
    exact h.shape.back_releaseTarget (hq.le.trans hp)

/-- The empty journal obeys the law. -/
theorem JournalLaw.empty : JournalLaw Journal.empty := by
  refine ⟨rfl, by simp [Journal.empty], by simp [Journal.empty], by simp [Journal.empty, Journal.occupied],
    by simp [Journal.empty, Journal.occupied], by simp [Journal.empty], fun p => by cases p <;> simp [Journal.empty, Journal.consumer, Consumer.cold],
    by simp [Journal.empty]⟩

end Sys2Proof.Machine
end

section
/-! PROOFS. Every command is a path of updates, each keeping the law of its field. -/

namespace Sys2Proof.Machine

/-! ## Laws that a command's own update keeps -/

theorem clampSlew_bounds (i : Int) : -3600 ≤ clampSlew i ∧ clampSlew i ≤ 3600 := by
  unfold clampSlew Config.slewLimit
  omega

theorem ClockLaw.set {t : TimeBase} (h : ClockLaw t) {time : Time} {wd : Nat} (hd : time.day ≤ 65535) (hm : time.minute ≤ 1439)
    (hs : time.second ≤ 59) (hw : wd ≤ 6) : ClockLaw (t.set time wd) := by
  constructor <;> simp_all [TimeBase.set, h.hold]

theorem ClockLaw.trim {t : TimeBase} (h : ClockLaw t) (i : Int) : ClockLaw { t with slew := clampSlew i } :=
  ⟨h.day, h.minute, h.second, h.short, h.repeated, h.epoch, (clampSlew_bounds i).1, (clampSlew_bounds i).2, h.hold⟩

theorem insertDay_mem {d x : Nat} {l : List Nat} (h : x ∈ insertDay d l) : x = d ∨ x ∈ l := by
  induction l with
  | nil => simpa [insertDay] using h
  | cons y ys ih =>
    simp only [insertDay] at h
    split at h
    · simpa using h
    · split at h
      · exact .inr h
      · rcases List.mem_cons.mp h with rfl | h
        · exact .inr (by simp)
        · exact (ih h).imp_right (List.mem_cons_of_mem _)

theorem insertDay_sorted {d : Nat} {l : List Nat} (h : l.Pairwise (· < ·)) : (insertDay d l).Pairwise (· < ·) := by
  induction l with
  | nil => simp [insertDay]
  | cons y ys ih =>
    obtain ⟨hy, hys⟩ := List.pairwise_cons.mp h
    simp only [insertDay]
    split
    · rename_i hd
      exact List.pairwise_cons.mpr ⟨fun z hz => (List.mem_cons.mp hz).elim (fun e => e ▸ hd) fun hz => hd.trans (hy z hz), h⟩
    · split
      · exact h
      · refine List.pairwise_cons.mpr ⟨fun z hz => ?_, ih hys⟩
        rcases insertDay_mem hz with rfl | hz
        · omega
        · exact hy z hz

theorem insertDay_length_le (d : Nat) (l : List Nat) : (insertDay d l).length ≤ l.length + 1 := by
  induction l with
  | nil => simp [insertDay]
  | cons y ys ih =>
    simp only [insertDay]
    split
    · simp
    · split
      · simp
      · simpa using ih

/-- The days of WRITE HOLIDAYS are sorted, each once, and no more than were given (R86). -/
theorem sortedDays_spec (days : List Nat) :
    (sortedDays days).Pairwise (· < ·) ∧ (sortedDays days).length ≤ days.length ∧ ∀ d ∈ sortedDays days, d ∈ days := by
  induction days with
  | nil => simp [sortedDays]
  | cons d ds ih =>
    obtain ⟨hs, hl, hm⟩ := ih
    refine ⟨insertDay_sorted hs, (insertDay_length_le _ _).trans (Nat.succ_le_succ hl), fun x hx => ?_⟩
    rcases insertDay_mem hx with rfl | hx
    · simp
    · simp [hm x hx]

theorem bufferWords_length (m : Memory) (b : Buffer) (n : Nat) : (bufferWords m b n).length = n := by
  simp [bufferWords]

theorem HolidayLaw.written (s : State) (m : Memory) (b : Buffer) {n : Nat} (hn : n ≤ 32) :
    HolidayLaw (s.setPay { s.pay with holidays := sortedDays ((bufferWords m b n).map BitVec.toNat) }) := by
  obtain ⟨hs, hl, hm⟩ := sortedDays_spec ((bufferWords m b n).map BitVec.toNat)
  rw [List.length_map, bufferWords_length] at hl
  refine ⟨hl.trans hn, hs, fun d hd => ?_⟩
  obtain ⟨w, -, rfl⟩ := List.mem_map.mp (hm d hd)
  exact Nat.le_of_lt_succ w.isLt

/-- The first mark of operands that pass their checks is false, and so on. -/
theorem firstBad_single_none {p : Prop} [Decidable p] (h : firstBad [decide p] = none) : ¬ p := by
  simpa using firstBad_none.mp h (decide p)

/-! ## The commands -/

namespace Moves

variable {s t : State}

/-- A command that answers without a change. -/
theorem of_eq (h : t = s) : Moves s t := h ▸ refl

theorem cmdSetClock (o : Port) (d m sec w : Word) (h : Moves s t) : Moves s (cmdSetClock o d m sec w t).1 := by
  unfold Machine.cmdSetClock
  split
  · exact h
  · rename_i hb
    have hr := firstBad_none.mp hb
    simp only [List.mem_cons, List.not_mem_nil, or_false, forall_eq_or_imp, forall_eq, decide_eq_false_iff_not, not_lt] at hr
    obtain ⟨-, hm, hs, hw⟩ := hr
    have hd : d.toNat ≤ 65535 := Nat.le_of_lt_succ d.isLt
    exact (((h.time _ fun hc => hc.set hd hm hs hw).append _ (by rintro n ⟨⟩)).clockMirror).minuteEvent

theorem cmdTrimClock (w : Word) (h : Moves s t) : Moves s (cmdTrimClock w t).1 := by
  unfold Machine.cmdTrimClock
  split
  · exact h
  · exact h.time _ fun hc => hc.trim _

theorem cmdAcknowledgeStart (h : Moves s t) : Moves s (cmdAcknowledgeStart t).1 :=
  h.time _ fun hc => ⟨hc.day, hc.minute, hc.second, hc.short, hc.repeated, hc.epoch, hc.slewLow, hc.slewHigh, hc.hold⟩

theorem cmdLoadRecord (b : Buffer) (h : Moves s t) : Moves s (cmdLoadRecord b t).1 := by
  unfold Machine.cmdLoadRecord
  dsimp only
  split
  · exact h
  · split
    · exact h
    · split
      · split
        · exact h
        · exact h.modifyRecord _ _
      · split
        · exact h
        · exact h.roster _

theorem cmdReadRecord (a b c d : Word) (buf : Buffer) (h : Moves s t) : Moves s (cmdReadRecord a b c d buf t).1 := by
  unfold Machine.cmdReadRecord
  dsimp only
  repeat' split
  all_goals first | exact h | exact h.rolloverSlot _

theorem cmdDeleteRecord (a b c d : Word) (h : Moves s t) : Moves s (cmdDeleteRecord a b c d t).1 := by
  unfold Machine.cmdDeleteRecord
  dsimp only
  repeat' split
  all_goals first | exact h | exact h.roster _

theorem cmdScanIndex (a b c : Word) (buf : Buffer) (h : Moves s t) : Moves s (cmdScanIndex a b c buf t).1 := by
  unfold Machine.cmdScanIndex
  dsimp only
  repeat' split
  all_goals exact h

theorem cmdWriteLane (a b c d e f g i : Word) (h : Moves s t) : Moves s (cmdWriteLane a b c d e f g i t).1 := by
  unfold Machine.cmdWriteLane
  dsimp only
  split
  · exact h
  · split
    · exact h
    · exact (h.lane _ _).adaptSensor _ _ _

theorem cmdReadLane (a : Word) (buf : Buffer) (h : Moves s t) : Moves s (cmdReadLane a buf t).1 := by
  unfold Machine.cmdReadLane
  repeat' split
  all_goals exact h

theorem cmdWriteShift (buf : Buffer) (h : Moves s t) : Moves s (cmdWriteShift buf t).1 := by
  unfold Machine.cmdWriteShift
  dsimp only
  repeat' split
  all_goals first | exact h | exact h.pay _ id

theorem cmdReadShift (a : Word) (buf : Buffer) (h : Moves s t) : Moves s (cmdReadShift a buf t).1 := by
  unfold Machine.cmdReadShift
  repeat' split
  all_goals exact h

theorem cmdWritePayClass (a b c d e : Word) (h : Moves s t) : Moves s (cmdWritePayClass a b c d e t).1 := by
  unfold Machine.cmdWritePayClass
  dsimp only
  split
  · exact h
  · exact h.pay _ id

theorem cmdReadPayClass (a : Word) (h : Moves s t) : Moves s (cmdReadPayClass a t).1 := by
  unfold Machine.cmdReadPayClass
  split <;> exact h

theorem cmdWriteHolidays (n : Word) (buf : Buffer) (h : Moves s t) : Moves s (cmdWriteHolidays n buf t).1 := by
  unfold Machine.cmdWriteHolidays
  dsimp only
  split
  · exact h
  · rename_i hb
    split
    · exact h
    · exact h.pay _ fun _ => HolidayLaw.written t _ buf (not_lt.mp (firstBad_single_none hb))

theorem cmdReadHolidays (buf : Buffer) (h : Moves s t) : Moves s (cmdReadHolidays buf t).1 := by
  unfold Machine.cmdReadHolidays
  dsimp only
  split <;> exact h

theorem cmdClosePeriod (o : Port) (n : Word) (h : Moves s t) : Moves s (cmdClosePeriod o n t).1 := by
  unfold Machine.cmdClosePeriod
  dsimp only
  split
  · exact h
  · exact (h.pay { t.pay with period := periodAfter t.pay.period } id).append _ (by rintro n ⟨⟩)

theorem cmdReadTotals (a b c d : Word) (buf : Buffer) (h : Moves s t) : Moves s (cmdReadTotals a b c d buf t).1 := by
  unfold Machine.cmdReadTotals
  dsimp only
  repeat' split
  all_goals first | exact h | exact h.rolloverSlot _

theorem cmdListPresent (a b : Word) (buf : Buffer) (h : Moves s t) : Moves s (cmdListPresent a b buf t).1 := by
  unfold Machine.cmdListPresent
  dsimp only
  repeat' split
  all_goals exact h

theorem forceOutEntry (o : Port) (e : Attendance) (time : Time) (h : Moves s t) : Moves s (forceOutEntry o e time t).1 :=
  (h.closeEntry _ _).append _ (by rintro n ⟨⟩)

theorem forceInRecord (o : Port) (a : Slot) (r : Record) (time : Time) (h : Moves s t) :
    Moves s (forceInRecord o a r time t).1 :=
  (ite (fun _ => h.openAttendance _ _ _) fun _ => (h.openAttendance _ _ _).addException _).append _ (by rintro n ⟨⟩)

theorem cancelEntry (o : Port) (e : Attendance) (h : Moves s t) : Moves s (cancelEntry o e t).1 :=
  (h.endAttendance _).append _ (by rintro n ⟨⟩)

theorem cmdForceOut (o : Port) (a b c d e f g : Word) (h : Moves s t) : Moves s (cmdForceOut o a b c d e f g t).1 := by
  unfold Machine.cmdForceOut
  repeat' split
  all_goals first | exact h | exact h.forceOutEntry _ _ _

theorem cmdForceIn (o : Port) (a b c d e f g : Word) (h : Moves s t) : Moves s (cmdForceIn o a b c d e f g t).1 := by
  unfold Machine.cmdForceIn
  repeat' split
  all_goals first | exact h | exact h.forceInRecord _ _ _ _

theorem cmdCancel (o : Port) (a b c d : Word) (h : Moves s t) : Moves s (cmdCancel o a b c d t).1 := by
  unfold Machine.cmdCancel
  repeat' split
  all_goals first | exact h | exact h.cancelEntry _ _

theorem runCorrection (o : Port) (op : Operands) (h : Moves s t) : Moves s (runCorrection o op t).1 := by
  unfold Machine.runCorrection
  repeat' split
  · exact h.cmdForceOut _ _ _ _ _ _ _ _
  · exact h.cmdForceIn _ _ _ _ _ _ _ _
  · exact h.cmdCancel _ _ _ _ _
  · exact h

theorem cmdReleaseDoor (o : Port) (l : Word) (h : Moves s t) : Moves s (cmdReleaseDoor o l t).1 := by
  unfold Machine.cmdReleaseDoor
  dsimp only
  repeat' split
  all_goals first | exact h | exact (h.doorGrant _).append _ (by rintro n ⟨⟩)

theorem cmdSetDoorMode (l m : Word) (h : Moves s t) : Moves s (cmdSetDoorMode l m t).1 := by
  unfold Machine.cmdSetDoorMode
  dsimp only
  split
  · exact h
  · dsimp only
    split
    · exact h.freeByMode _
    · exact h.normalByMode _

theorem cmdLockdown (o : Port) (h : Moves s t) : Moves s (cmdLockdown o t).1 := by
  unfold Machine.cmdLockdown
  split
  · exact h
  · have h1 : Moves s (t.setGate { t.gate with lockdown := true }) := h.gate _ id
    dsimp only
    refine foldl (fun _ l h => h.lockDownLane l) _ ?_
    exact h1.append _ (by rintro n ⟨⟩)

theorem cmdClearLockdown (o : Port) (h : Moves s t) : Moves s (cmdClearLockdown o t).1 := by
  unfold Machine.cmdClearLockdown
  split
  · exact h
  · have h1 : Moves s (t.setGate { t.gate with lockdown := false }) := h.gate _ id
    dsimp only
    refine foldl (fun _ l h => h.leaveLockdown l) _ ?_
    exact h1.append _ (by rintro n ⟨⟩)

theorem cmdResetAlarm (o : Port) (l : Word) (h : Moves s t) : Moves s (cmdResetAlarm o l t).1 := by
  unfold Machine.cmdResetAlarm
  dsimp only
  split
  · exact h
  · exact (h.door _ _).append _ (by rintro n ⟨⟩)

theorem cmdSetReentryWindow (m : Word) (h : Moves s t) : Moves s (cmdSetReentryWindow m t).1 := by
  unfold Machine.cmdSetReentryWindow
  split
  · exact h
  · rename_i hb
    exact h.gate _ fun hw => ⟨not_lt.mp (firstBad_single_none hb), hw.2⟩

theorem cmdWriteBellEntry (a b c d e f g : Word) (h : Moves s t) : Moves s (cmdWriteBellEntry a b c d e f g t).1 := by
  unfold Machine.cmdWriteBellEntry
  dsimp only
  split
  · exact h
  · exact h.bells _

theorem cmdReadBellEntry (a : Word) (h : Moves s t) : Moves s (cmdReadBellEntry a t).1 := by
  unfold Machine.cmdReadBellEntry
  split <;> exact h

theorem cmdWritePattern (a b c d e f g : Word) (h : Moves s t) : Moves s (cmdWritePattern a b c d e f g t).1 := by
  unfold Machine.cmdWritePattern
  dsimp only
  split
  · exact h
  · exact h.bells _

theorem cmdReadPattern (a : Word) (h : Moves s t) : Moves s (cmdReadPattern a t).1 := by
  unfold Machine.cmdReadPattern
  split <;> exact h

theorem cmdRingZones (o : Port) (z n : Word) (h : Moves s t) : Moves s (cmdRingZones o z n t).1 := by
  unfold Machine.cmdRingZones
  dsimp only
  split
  · exact h
  · exact h.bells _

theorem cmdSilenceZones (z : Word) (h : Moves s t) : Moves s (cmdSilenceZones z t).1 := by
  unfold Machine.cmdSilenceZones
  dsimp only
  repeat' split
  all_goals first | exact h | exact h.bells _

theorem cmdReadBells (buf : Buffer) (h : Moves s t) : Moves s (cmdReadBells buf t).1 := by
  unfold Machine.cmdReadBells
  split <;> exact h

theorem cmdReadJournal (a b c d : Word) (buf : Buffer) (h : Moves s t) : Moves s (cmdReadJournal a b c d buf t).1 := by
  unfold Machine.cmdReadJournal
  dsimp only
  split
  · exact h
  · repeat' split
    all_goals exact h

theorem cmdReleaseJournal (a b c : Word) (h : Moves s t) : Moves s (cmdReleaseJournal a b c t).1 := by
  unfold Machine.cmdReleaseJournal
  dsimp only
  split
  · exact h
  · split
    · exact h
    · refine h.journal _ fun hj => ?_
      split
      · exact (hj.release _ ‹_›).lowerMark _
      · exact hj

theorem cmdSetConsumer (a b c : Word) (h : Moves s t) : Moves s (cmdSetConsumer a b c t).1 := by
  unfold Machine.cmdSetConsumer
  dsimp only
  split
  · exact h
  · exact (h.journal _ fun hj => (hj.configure _ _ _).lowerMark _).examine _

theorem cmdJournalStatus (buf : Buffer) (h : Moves s t) : Moves s (cmdJournalStatus buf t).1 := by
  unfold Machine.cmdJournalStatus
  split <;> exact h

theorem cmdSetChannelNotice (a b c : Word) (h : Moves s t) : Moves s (cmdSetChannelNotice a b c t).1 := by
  unfold Machine.cmdSetChannelNotice
  dsimp only
  split
  · exact h
  · exact h.notices _ _ _

/-- Every command that a block may name is a path of updates. -/
theorem run (o : Port) (op : Operands) (b : Buffer) (c : Command) (h : Moves s t) : Moves s (c.run o op b t).1 := by
  cases c
  case setClock => exact h.cmdSetClock _ _ _ _ _
  case trimClock => exact h.cmdTrimClock _
  case readClock => exact h
  case acknowledgeStart => exact h.cmdAcknowledgeStart
  case loadRecord => exact h.cmdLoadRecord _
  case readRecord => exact h.cmdReadRecord _ _ _ _ _
  case deleteRecord => exact h.cmdDeleteRecord _ _ _ _
  case scanIndex => exact h.cmdScanIndex _ _ _ _
  case writeLane => exact h.cmdWriteLane _ _ _ _ _ _ _ _
  case readLane => exact h.cmdReadLane _ _
  case writeShift => exact h.cmdWriteShift _
  case readShift => exact h.cmdReadShift _ _
  case writePayClass => exact h.cmdWritePayClass _ _ _ _ _
  case readPayClass => exact h.cmdReadPayClass _
  case writeHolidays => exact h.cmdWriteHolidays _ _
  case readHolidays => exact h.cmdReadHolidays _
  case closePeriod => exact h.cmdClosePeriod _ _
  case readTotals => exact h.cmdReadTotals _ _ _ _ _
  case listPresent => exact h.cmdListPresent _ _ _
  case correctPresence => exact h.runCorrection _ _
  case releaseDoor => exact h.cmdReleaseDoor _ _
  case setDoorMode => exact h.cmdSetDoorMode _ _
  case lockdown => exact h.cmdLockdown _
  case clearLockdown => exact h.cmdClearLockdown _
  case resetAlarm => exact h.cmdResetAlarm _ _
  case readDoors => exact h
  case setReentryWindow => exact h.cmdSetReentryWindow _
  case writeBellEntry => exact h.cmdWriteBellEntry _ _ _ _ _ _ _
  case readBellEntry => exact h.cmdReadBellEntry _
  case writePattern => exact h.cmdWritePattern _ _ _ _ _ _ _
  case readPattern => exact h.cmdReadPattern _
  case ringZones => exact h.cmdRingZones _ _ _
  case silenceZones => exact h.cmdSilenceZones _
  case readBells => exact h.cmdReadBells _
  case readJournal => exact h.cmdReadJournal _ _ _ _ _
  case releaseJournal => exact h.cmdReleaseJournal _ _ _
  case setConsumer => exact h.cmdSetConsumer _ _ _
  case journalStatus => exact h.cmdJournalStatus _
  case setChannelNotice => exact h.cmdSetChannelNotice _ _ _
  case readChannels => exact h

/-- A command carried out from its own row. -/
theorem runDirect {cmd : State → State × Reply} (b : Option Buffer) (hc : Moves s (cmd t).1) (h : Moves s t) :
    Moves s (runDirect b cmd t) := by
  refine ite (fun _ => Moves.reply _ ?_) fun _ => h
  cases b with
  | none => exact hc
  | some b => exact hc.memory _ (writeBuffer_wf _ _ _)

/-- A block's checks and its command. -/
theorem carryOut (b : Block) (o : Port) (h : Moves s t) : Moves s (carryOut b o t).1 := by
  unfold Machine.carryOut
  dsimp only
  repeat' split
  all_goals first | exact h | exact h.run _ _ _ _

end Moves

end Sys2Proof.Machine
end

section
/-! PROOFS. Every step as a path of updates: the ticks and events, the commands' rows, the ports, the engine, the link and the starts;
and from it the device laws and the journal's law, kept by every step. -/

namespace Sys2Proof.Machine

/-! ## The clock's own updates -/

theorem nextMinute_bounds {c : Time} (hd : c.day ≤ 65535) (hm : c.minute ≤ 1439) :
    c.nextMinute.day ≤ 65535 ∧ c.nextMinute.minute ≤ 1439 ∧ c.nextMinute.second = 0 := by
  unfold Time.nextMinute nextDay
  split
  · exact ⟨hd, by simp only; omega, rfl⟩
  · exact ⟨by simp only; split <;> omega, Nat.zero_le _, rfl⟩

theorem workSlew_bounds {r : Int} (hl : -3600 ≤ r) (hh : r ≤ 3600) : -3600 ≤ workSlew r ∧ workSlew r ≤ 3600 := by
  unfold workSlew
  split
  · omega
  · split <;> omega

theorem lengthFor_ne_longRepeated (r : Int) : lengthFor r ≠ .longRepeated := by
  unfold lengthFor
  split
  · decide
  · split <;> decide

theorem ClockLaw.beginMinute {t : TimeBase} (h : ClockLaw t) : ClockLaw t.beginMinute := by
  obtain ⟨hd, hm, hs⟩ := nextMinute_bounds h.day h.minute
  obtain ⟨hl, hh⟩ := workSlew_bounds h.slewLow h.slewHigh
  exact ⟨hd, hm, by simp [TimeBase.beginMinute, hs], fun _ => by simp [TimeBase.beginMinute, hs],
    fun e => absurd e (lengthFor_ne_longRepeated _), h.epoch, hl, hh, h.hold⟩

theorem ClockLaw.nextSecond {t : TimeBase} (h : ClockLaw t) (hs : t.clock.second < 59)
    (hshort : t.minuteLength = .short → t.clock.second < 58) (hr : t.minuteLength ≠ .longRepeated) : ClockLaw t.nextSecond :=
  ⟨h.day, h.minute, hs, hshort, fun e => absurd e hr, h.epoch, h.slewLow, h.slewHigh, h.hold⟩

/-- A crystal second keeps the clock's law (R1, R5, R6). -/
theorem ClockLaw.advance {t : TimeBase} (h : ClockLaw t) : ClockLaw t.advance.1 := by
  unfold TimeBase.advance
  split
  case h_1 hm =>
    split
    · exact h.nextSecond ‹_› (by simp [hm]) (by simp [hm])
    · exact h.beginMinute
  case h_2 hm =>
    split
    · exact h.nextSecond (by omega) (fun _ => ‹_›) (by simp [hm])
    · exact h.beginMinute
  case h_3 hm =>
    split
    · exact h.nextSecond ‹_› (by simp [hm]) (by simp [hm])
    · have := h.second
      exact ⟨h.day, h.minute, h.second, by simp, fun _ => by simp only; omega, h.epoch, h.slewLow, h.slewHigh, h.hold⟩
  case h_4 hm => exact h.beginMinute

theorem ClockLaw.countHold {t : TimeBase} (h : ClockLaw t) : ClockLaw t.countHold :=
  ⟨h.day, h.minute, h.second, h.short, h.repeated, h.epoch, h.slewLow, h.slewHigh, Nat.min_le_right _ _⟩

theorem ClockLaw.coldValues (t : TimeBase) (b : Bool) : ClockLaw (t.coldValues b) := by
  constructor <;> simp [TimeBase.coldValues, Time.zero]

/-- The clock's law speaks of the clock, its minute, the slew and the hold duration only. -/
theorem ClockLaw.of_same {t u : TimeBase} (h : ClockLaw t) (hc : u.clock = t.clock) (hm : u.minuteLength = t.minuteLength)
    (he : u.epochWeekday = t.epochWeekday) (hs : u.slew = t.slew) (hh : u.holdDuration ≤ t.holdDuration) : ClockLaw u := by
  refine ⟨?_, ?_, ?_, ?_, ?_, ?_, ?_, ?_, hh.trans h.hold⟩
  · rw [hc]; exact h.day
  · rw [hc]; exact h.minute
  · rw [hc]; exact h.second
  · rw [hc, hm]; exact h.short
  · rw [hc, hm]; exact h.repeated
  · rw [he]; exact h.epoch
  · rw [hs]; exact h.slewLow
  · rw [hs]; exact h.slewHigh

/-! ## Ticks and crystal seconds -/

namespace Moves

variable {s t : State}

theorem tickRelease (l : Lane) (h : Moves s t) : Moves s (tickRelease l t) :=
  ite (fun _ => h.door _ _) fun _ => h.releaseExpiry _

theorem tickHeld (l : Lane) (h : Moves s t) : Moves s (tickHeld l t) := ite (fun _ => h.door _ _) fun _ => h.heldExpiry _

theorem tickGap (l : Lane) (h : Moves s t) : Moves s (tickGap l t) := ite (fun _ => h.lane _ _) fun _ => h.gapExpiry _

theorem tick (h : Moves s t) : Moves s (tick t) := by
  refine ite (fun _ => ?_) fun _ => h
  have h0 : Moves s (tickLamps (tickZones t)) := (h.bells _).lanes _
  exact foldl (f := tickLane) (fun _ l h => ((h.tickRelease l).tickHeld l).tickGap l) allLanes h0

theorem secondEvent (b : Bool) (h : Moves s t) : Moves s (secondEvent b t) := by
  have h1 : Moves s (lowerWindow (writeMirror t)) :=
    h.clockMirror.gate _ fun hw => ⟨hw.1, (Nat.sub_le _ _).trans hw.2⟩
  exact ite (fun _ => h1.minuteEvent) fun _ => h1

theorem crystalSecond (h : Moves s t) : Moves s (crystalSecond t) := by
  unfold Machine.crystalSecond
  dsimp only
  split
  · exact h
  · exact h.time _ fun hc => hc.advance.countHold
  · have h1 := h.time t.time.advance.1 fun hc => hc.advance
    exact ite (fun _ => h1.secondEvent _) fun _ => h1

theorem zoneExpiry (z : Zone) (h : Moves s t) : Moves s (zoneExpiry z t) := ite (fun _ => h.bells _) fun _ => h

theorem latchSets (h : Moves s t) : Moves s (latchSets t) :=
  ite (fun _ => h.time _ fun hc => hc.of_same rfl rfl rfl rfl le_rfl) fun _ => h

theorem supplyLost (h : Moves s t) : Moves s (supplyLost t) :=
  ite (fun _ => h.time _ fun hc => hc.of_same rfl rfl rfl rfl le_rfl) fun _ => h

end Moves

theorem HolidayLaw.cold (u : State) : HolidayLaw (u.setPay PayTables.cold) := by
  simp [HolidayLaw, PayTables.cold]

/-! ## The stages of a start -/

namespace Moves

variable {s t : State}

theorem reachStage (k : StartKind) (g : StartStage) (h : Moves s t) : Moves s (reachStage k g t) :=
  h.time _ fun hc => hc.of_same rfl rfl rfl rfl le_rfl

/-- The cold-start values of every retained block obey the laws (TABLE 1-3, 5-1, 8-1, R134, R168). -/
theorem stageRetained (k : StartKind) (b : Bool) (h : Moves s t) : Moves s (stageRetained k b t) := by
  refine reachStage _ _ ?_
  cases k
  · refine .journal _ (fun _ => JournalLaw.empty) (.bells _ (.attendance _ (.pay _ (fun _ => HolidayLaw.cold _) ?_)))
    refine .gate _ (fun hw => ⟨Nat.le_of_ble_eq_true rfl, hw.2⟩) (.lanes _ (.roster _ ?_))
    exact h.time _ fun _ => ClockLaw.coldValues _ _
  · exact h
  · exact h

theorem stageEntry (k : StartKind) (h : Moves s t) : Moves s (stageEntry k t) := by
  have hb : (startEntryBody k t).isPlain := by cases k <;> rintro n ⟨⟩
  refine reachStage _ _ ((h.append _ hb).time _ fun hc => hc.of_same rfl rfl rfl rfl ?_)
  simp only
  split
  · exact Nat.zero_le _
  · exact le_rfl

theorem lapseRecord (k : StartKind) (p : Slot × Record) (h : Moves s t) : Moves s (lapseRecord k t p) :=
  ite (fun _ => (h.append _ (by rintro n ⟨⟩)).modifyRecord _ _) fun _ => h

theorem stageLapses (k : StartKind) (h : Moves s t) : Moves s (stageLapses k t) :=
  reachStage _ _ (foldl (fun _ p h => h.lapseRecord k p) _ h)

theorem stageSelfTest (k : StartKind) (h : Moves s t) : Moves s (stageSelfTest k t) :=
  h.time _ fun hc => hc.of_same rfl rfl rfl rfl le_rfl

/-- Stages 2 to 5 of a start. -/
theorem stagesAfterDecision (k : StartKind) (b : Bool) (h : Moves s t) :
    Moves s (Machine.stageSelfTest k (Machine.stageLapses k (Machine.stageEntry k (Machine.stageRetained k b t)))) :=
  (((h.stageRetained k b).stageEntry k).stageLapses k).stageSelfTest k

theorem startNotices (k : StartKind) (h : Moves s t) : Moves s (startNotices k t) := by
  have h1 : Moves s (if k = .reset then t else raiseBoth .powerRestored t) := ite (fun _ => h) fun _ => h.causeBoth _
  exact ite (fun _ => h1.causeBoth _) fun _ => h1

theorem endStart (k : StartKind) (p : Bool) (h : Moves s t) : Moves s (endStart k p t) := by
  have h1 := h.time { t.time with start := none, selfTest := if p then .passed else .failed } fun hc =>
    hc.of_same rfl rfl rfl rfl le_rfl
  have h2 := ((h1.memory [] fun _ => ⟨List.Pairwise.nil, by simp⟩).clockMirror).presentMirror t.attendance.length
  exact .examine .link (.examine .bus (startNotices k (startDoors h2)))

theorem selfTestEnds (p : Bool) (h : Moves s t) : Moves s (selfTestEnds p t) := by
  unfold Machine.selfTestEnds
  split
  · exact ite (fun _ => h.endStart _ _) fun _ => h
  · exact h

end Moves

/-! ## Paths that also pass through ports, channels and the link -/

/-- An armed port has an empty summary (R182), at one port. -/
def PortState.armedLaw (p : PortState) : Prop := p.armed = true → p.channelSummary = 0 ∧ p.eventSummary = 0

theorem PortState.attend_armedLaw (p : PortState) : p.attend.armedLaw := by
  unfold PortState.attend
  split
  · rintro ⟨⟩
  · exact fun h => absurd h ‹_›

theorem PortState.armedLaw.note {p : PortState} (h : p.armedLaw) (w : SummaryWord) (b : Nat) : (p.note w b).armedLaw := by
  cases w <;> simp only [PortState.note] <;> split
  · exact h
  · exact PortState.attend_armedLaw _
  · exact h
  · exact PortState.attend_armedLaw _

theorem PortState.armedLaw.clear {p : PortState} (h : p.armedLaw) (w : SummaryWord) (v : Word) : (p.clear w v).armedLaw := by
  cases w <;> intro ha <;> obtain ⟨hc, he⟩ := h ha <;> simp [PortState.clear, hc, he]

theorem PortState.rearm_armedLaw (p : PortState) : p.rearm.armedLaw := by
  unfold PortState.rearm
  split
  · rintro ⟨⟩
  · rename_i hn
    intro _
    simpa [PortState.pendingNotice] using hn

/-- `Passes s t`: the state t comes from s by paths of updates, by changes of the control page that keep an armed port's summary empty,
and by changes of the link port and the count of free values. -/
inductive Passes (s : State) : State → Prop
  | refl : Passes s s
  | moves {t u} (hm : Moves t u) (h : Passes s t) : Passes s u
  | control {t} (v : Control) (hb : t.control.bus.armedLaw → v.bus.armedLaw) (hl : t.control.link.armedLaw → v.link.armedLaw)
      (h : Passes s t) : Passes s (t.setControl v)
  | link {t} (v) (h : Passes s t) : Passes s (t.setLink v)
  | freeCount {t} (v) (h : Passes s t) : Passes s (t.setFreeCount v)

theorem Moves.passes {s t : State} (h : Moves s t) : Passes s t := Passes.refl.moves h

namespace Passes

variable {s t : State}

theorem ite {c : Prop} [Decidable c] {u : State} (h1 : c → Passes s t) (h2 : ¬ c → Passes s u) :
    Passes s (if c then t else u) := by
  split
  · exact h1 ‹_›
  · exact h2 ‹_›

theorem channel (c : Channel) (v : ChannelState) (h : Passes s t) : Passes s (t.setChannel c v) := h.control _ id id

theorem port (p : Port) (v : PortState) (hv : (t.portState p).armedLaw → v.armedLaw) (h : Passes s t) :
    Passes s (t.setPortState p v) := by
  cases p
  · exact h.control _ hv id
  · exact h.control _ id hv

theorem notice (p : Port) (w : SummaryWord) (b : Nat) (h : Passes s t) : Passes s (notice p w b t) :=
  h.port p _ fun ha => ha.note w b

theorem noticeSet (ps : PortSet) (w : SummaryWord) (b : Nat) (h : Passes s t) : Passes s (noticeSet ps w b t) := by
  have h1 : Passes s (if ps.names .bus = true then Machine.notice .bus w b t else t) :=
    ite (fun _ => h.notice _ _ _) fun _ => h
  exact ite (fun _ => h1.notice _ _ _) fun _ => h1

theorem access (r : Requester) (h : Passes s t) : Passes s (access r t) := by
  unfold Machine.access
  split
  · exact h.control _ id id
  · exact h

/-! ## Ports -/

theorem takeRequest (p : Port) (c : Channel) (h : Passes s t) : Passes s (takeRequest p c t) :=
  ite (fun _ => h.channel _ _) fun _ => ite (fun _ => h.channel _ _) fun _ => (h.channel _ _).noticeSet _ _ _

theorem writeRequestCell (p : Port) (c : Channel) (v : Word) (h : Passes s t) : Passes s (writeRequestCell p c v t) :=
  ite (fun _ => h.takeRequest _ _) fun _ => h

theorem writeFaultCell (c : Channel) (v : Word) (h : Passes s t) : Passes s (writeFaultCell c v t) :=
  ite (fun _ => h.channel _ _) fun _ => h

theorem writeSummary (p : Port) (w : SummaryWord) (v : Word) (h : Passes s t) : Passes s (writeSummary p w v t) :=
  h.port _ _ fun ha => ha.clear _ _

theorem writeRearmCell (p : Port) (h : Passes s t) : Passes s (writeRearmCell p t) :=
  h.port _ _ fun _ => PortState.rearm_armedLaw _

theorem memWrite (a : Nat) (v : Word) (h : Passes s t) : Passes s (t.setMemory (memWrite t.memory a v)) :=
  h.moves (Moves.refl.memory _ fun hm => memWrite_wf _ _ _ hm)

theorem writeStorage (a : BitVec 13) (v : Word) (h : Passes s t) : Passes s (writeStorage a v t) := by
  unfold Machine.writeStorage
  split
  · exact h.memWrite _ _
  · exact h.memWrite _ _
  · exact h
  · exact h

theorem writeWord (p : Port) (a : BitVec 13) (v : Word) (h : Passes s t) : Passes s (writeWord p a v t) := by
  unfold Machine.writeWord
  split
  · exact h.writeRequestCell _ _ _
  · exact h.writeFaultCell _ _
  · exact h.channel _ _
  · exact h.writeSummary _ _ _
  · exact h.writeRearmCell _
  · exact h
  · exact h.writeStorage _ _

theorem portAccess (p : Port) {f : State → State} (hf : ∀ u, Passes s u → Passes s (f u)) (h : Passes s t) :
    Passes s (portAccess p f t) := ite (fun _ => hf _ (h.access _)) fun _ => h

theorem portWrite (p : Port) (a : BitVec 13) (v : Word) (h : Passes s t) : Passes s (portWrite p a v t) :=
  h.portAccess p fun _ h => h.writeWord p a v

theorem portFetch (p : Port) (a : BitVec 13) (h : Passes s t) : Passes s (portFetch p a t).2 := by
  unfold Machine.portFetch portRead
  split
  · exact h.access _
  · split
    · exact h.access _
    · exact (h.access _).freeCount _
    · exact h.access _
    · exact h.access _

/-! ## The link port -/

theorem onBus {f : State → State} (hf : Passes s t → Passes s (f t)) (h : Passes s t) : Passes s (onBus f t) :=
  ite (fun _ => hf h) fun _ => h

theorem startTransfer (a : BitVec 7) (r : Bool) (h : Passes s t) : Passes s (startTransfer a r t) :=
  ite (fun _ => h.link _) fun _ => h.link _

theorem leadByte (b : Byte) (h : Passes s t) : Passes s (leadByte b t) := by
  unfold Machine.leadByte
  split
  · exact h.link _
  · exact h

theorem pointerByte (b : Byte) (h : Passes s t) : Passes s (pointerByte b t) := by
  unfold Machine.pointerByte
  split
  · exact h.link _
  · exact h.link _
  · exact h

theorem dataHighByte (b : Byte) (h : Passes s t) : Passes s (dataHighByte b t) := by
  unfold Machine.dataHighByte
  split
  · exact h.link _
  · exact h

theorem dataLowByte (b : Byte) (h : Passes s t) : Passes s (dataLowByte b t) := by
  unfold Machine.dataLowByte
  split
  · exact (h.portWrite _ _ _).link _
  · exact h

theorem readByte (h : Passes s t) : Passes s (readByte t) := by
  unfold Machine.readByte
  split
  · exact h.link _
  · split
    · exact (h.portFetch .link _).link _
    · exact h.link _
  · exact h

/-! ## The engine -/

theorem channelFault (c : Channel) (f : ChannelFault) (h : Passes s t) : Passes s (channelFault c f t) :=
  (h.channel _ _).noticeSet _ _ _

theorem continueChain (c : Channel) (w : Word) (d : Bool) (k : Chain) (h : Passes s t) : Passes s (continueChain c w d k t) :=
  ite (fun _ => ite (fun _ => h.channel _ _) fun _ => h.channelFault _ _) fun _ => h.channel _ _

theorem serveBlock (c : Channel) (k : Chain) (h : Passes s t) : Passes s (serveBlock c k t) := by
  have h1 := h.moves (Moves.refl.carryOut (readBlock t.memory k.next.toNat) k.origin)
  have h2 := h1.moves (Moves.refl.memory
    (writeResults k.next.toNat (readBlock t.memory k.next.toNat)
      (carryOut (readBlock t.memory k.next.toNat) k.origin t).2
      (carryOut (readBlock t.memory k.next.toNat) k.origin t).1.memory)
    fun hm => memWriteAll_wf _ _ (writeBuffer_wf _ _ _ hm))
  exact (h2.noticeSet _ _ _).continueChain _ _ _ _

theorem turnAt {f : Channel → Chain → State → State} (hf : ∀ c k u, Passes s u → Passes s (f c k u)) (c : Channel)
    (h : Passes s t) : Passes s (turnAt f c t) := by
  unfold Machine.turnAt
  split
  · exact h
  · next k ch _ =>
    have h2 : Passes s (setLastServed c (t.setChannel c ch)) := (h.channel c ch).control _ id id
    exact ite (fun _ => hf _ _ _ h2) fun _ => h2.channelFault _ _

theorem engineTurn (h : Passes s t) : Passes s (engineTurn t) := by
  refine ite (fun _ => ?_) fun _ => h
  split
  · exact h.turnAt (fun c k _ h => (h.access _).serveBlock c k) _
  · exact h

/-! ## Starts -/

theorem loseVolatile (h : Passes s t) : Passes s (loseVolatile t) := by
  have h1 := (h.moves (Moves.refl.memory [] fun _ => ⟨List.Pairwise.nil, by simp⟩)).control t.control.restart
    (fun _ _ => ⟨rfl, rfl⟩) fun _ _ => ⟨rfl, rfl⟩
  have h2 := h1.link (LinkState.atStart t.pins.linkAddressPins)
  exact h2.moves ((((Moves.refl.lanes _).bells _).journal _ fun hj => hj.loseMarks).gate _ fun hw => ⟨hw.1, Nat.zero_le _⟩)

theorem mainsTrip (h : Passes s t) : Passes s (mainsTrip t) := by
  refine ite (fun _ => ?_) fun _ => h
  have h1 := h.loseVolatile.moves (Moves.refl.gate { (Machine.loseVolatile t).gate with doors := t.gate.doors.map Door.lose } id)
  exact h1.moves (Moves.refl.time _ fun hc => hc.of_same rfl rfl rfl rfl (Nat.zero_le _))

theorem stageDecision (k : StartKind) (h : Passes s t) : Passes s (stageDecision k t) :=
  h.loseVolatile.moves (Moves.refl.time _ fun hc => hc.of_same rfl rfl rfl rfl le_rfl)

theorem runStart (k : StartKind) (b : Bool) (h : Passes s t) : Passes s (runStart k b t) :=
  (h.stageDecision k).moves (Moves.refl.stagesAfterDecision k b)

theorem mainsArrival (h : Passes s t) : Passes s (mainsArrival t) := by
  unfold Machine.mainsArrival
  split
  · exact h
  · exact ite (fun _ => h.runStart _ _) fun _ => ite (fun _ => h.runStart _ _) fun _ => h.runStart _ _

theorem resetAsserts (h : Passes s t) : Passes s (resetAsserts t) := ite (fun _ => h.runStart _ _) fun _ => h

end Passes

/-! ## What a path keeps -/

theorem raiseCause_portState (p q : Port) (c : Cause) (s : State) :
    (raiseCause p c s).portState q = if q = p then (s.portState p).note .eventWord c.bit else s.portState q := by
  unfold raiseCause notice
  split
  · subst q; simp
  · simp [*]

theorem examineHigh_portState (p q : Port) (s : State) :
    (examineHigh p s).portState q =
      if q = p ∧ s.journal.reaches p = true then (s.portState p).note .eventWord Cause.journalHigh.bit else s.portState q := by
  unfold examineHigh
  by_cases hr : s.journal.reaches p = true
  · rw [if_pos hr, raiseCause_portState]; simp [hr]
  · rw [if_neg hr]; simp [hr]

theorem ArmedLaw.cause {s : State} (h : ArmedLaw s) (p : Port) (c : Cause) : ArmedLaw (raiseCause p c s) := by
  intro q
  rw [raiseCause_portState]
  split
  · exact (show (s.portState p).armedLaw from h p).note _ _
  · exact h q

theorem ArmedLaw.examineHigh {s : State} (h : ArmedLaw s) (p : Port) : ArmedLaw (examineHigh p s) := by
  intro q
  rw [examineHigh_portState]
  split
  · exact (show (s.portState p).armedLaw from h p).note _ _
  · exact h q

theorem ArmedLaw.of_same {s t : State} (h : ArmedLaw s) (hp : ∀ p, t.portState p = s.portState p) : ArmedLaw t := by
  intro p; rw [hp p]; exact h p

theorem ArmedLaw.appendEntry {s : State} (h : ArmedLaw s) (b : EntryBody) : ArmedLaw (appendEntry b s) := by
  have h1 : ArmedLaw (s.setJournal (s.journal.append s.time.clock b)) := h.of_same fun p => by simp
  unfold Machine.appendEntry
  dsimp only
  split
  · exact (h1.examineHigh _).examineHigh _
  · exact h1

theorem JournalLaw.examineHigh {s : State} (h : JournalLaw s.journal) (p : Port) : JournalLaw (examineHigh p s).journal := by
  unfold Machine.examineHigh
  split
  · rw [raiseCause_journal]
    exact h.setConsumer_same p rfl rfl
  · exact h

theorem JournalLaw.appendEntry {s : State} (h : JournalLaw s.journal) {b : EntryBody} (hb : b.isPlain) :
    JournalLaw (appendEntry b s).journal := by
  have h1 : JournalLaw (s.setJournal (s.journal.append s.time.clock b)).journal := h.append _ hb
  unfold Machine.appendEntry
  dsimp only
  split
  · exact (h1.examineHigh _).examineHigh _
  · exact h1

/-- The device laws but for the channels'. -/
structure BoardLaws (s : State) : Prop where
  memory : Memory.wf s.memory
  clock : ClockLaw s.time
  armed : ArmedLaw s
  window : WindowLaw s
  holidays : HolidayLaw s

theorem Moves.keeps_boardLaws {s t : State} (h : Moves s t) (hs : BoardLaws s) : BoardLaws t := by
  induction h with
  | refl => exact hs
  | lanes v _ ih => exact ⟨ih.memory, ih.clock, ih.armed, ih.window, ih.holidays⟩
  | gate v hw _ ih => exact ⟨ih.memory, ih.clock, ih.armed, hw ih.window, ih.holidays⟩
  | roster v _ ih => exact ⟨ih.memory, ih.clock, ih.armed, ih.window, ih.holidays⟩
  | attendance v _ ih => exact ⟨ih.memory, ih.clock, ih.armed, ih.window, ih.holidays⟩
  | presentMirror n _ ih => exact ⟨ih.memory, ih.clock, ih.armed, ih.window, ih.holidays⟩
  | bells v _ ih => exact ⟨ih.memory, ih.clock, ih.armed, ih.window, ih.holidays⟩
  | pins v _ ih => exact ⟨ih.memory, ih.clock, ih.armed, ih.window, ih.holidays⟩
  | reply v _ ih => exact ⟨ih.memory, ih.clock, ih.armed, ih.window, ih.holidays⟩
  | clockMirror _ ih => exact ⟨ih.memory, ih.clock, ih.armed, ih.window, ih.holidays⟩
  | time v hc _ ih => exact ⟨ih.memory, hc ih.clock, ih.armed, ih.window, ih.holidays⟩
  | pay v hh _ ih => exact ⟨ih.memory, ih.clock, ih.armed, ih.window, hh ih.holidays⟩
  | notices c a f _ ih => exact ⟨ih.memory, ih.clock, ih.armed, ih.window, ih.holidays⟩
  | memory v hm _ ih => exact ⟨hm ih.memory, ih.clock, ih.armed, ih.window, ih.holidays⟩
  | journal v hj _ ih => exact ⟨ih.memory, ih.clock, ih.armed, ih.window, ih.holidays⟩
  | append b hb _ ih =>
    exact ⟨by simpa using ih.memory, by simpa using ih.clock, ih.armed.appendEntry b, by simpa [WindowLaw] using ih.window,
      by simpa [HolidayLaw] using ih.holidays⟩
  | cause p c _ ih =>
    exact ⟨by simpa using ih.memory, by simpa using ih.clock, ih.armed.cause p c, by simpa [WindowLaw] using ih.window,
      by simpa [HolidayLaw] using ih.holidays⟩
  | examine p _ ih =>
    exact ⟨by simpa using ih.memory, by simpa using ih.clock, ih.armed.examineHigh p, by simpa [WindowLaw] using ih.window,
      by simpa [HolidayLaw] using ih.holidays⟩

theorem Moves.keeps_journalLaw {s t : State} (h : Moves s t) (hs : JournalLaw s.journal) : JournalLaw t.journal := by
  induction h with
  | journal v hj _ ih => exact hj ih
  | append b hb _ ih => exact ih.appendEntry hb
  | cause p c _ ih => rw [raiseCause_journal]; exact ih
  | examine p _ ih => exact ih.examineHigh p
  | refl => exact hs
  | lanes v _ ih | gate v hw _ ih | roster v _ ih | attendance v _ ih | presentMirror n _ ih | bells v _ ih | pins v _ ih
    | reply v _ ih | clockMirror _ ih | time v hc _ ih | pay v hh _ ih | notices c a f _ ih | memory v hm _ ih => exact ih

theorem Passes.keeps_boardLaws {s t : State} (h : Passes s t) (hs : BoardLaws s) : BoardLaws t := by
  induction h with
  | refl => exact hs
  | moves hm _ ih => exact hm.keeps_boardLaws ih
  | control v hb hl _ ih =>
    exact ⟨ih.memory, ih.clock, fun p => by cases p; exacts [hb (ih.armed .bus), hl (ih.armed .link)], ih.window, ih.holidays⟩
  | link v _ ih => exact ⟨ih.memory, ih.clock, ih.armed, ih.window, ih.holidays⟩
  | freeCount v _ ih => exact ⟨ih.memory, ih.clock, ih.armed, ih.window, ih.holidays⟩

theorem Passes.keeps_journalLaw {s t : State} (h : Passes s t) (hs : JournalLaw s.journal) : JournalLaw t.journal := by
  induction h with
  | refl => exact hs
  | moves hm _ ih => exact hm.keeps_journalLaw ih
  | control v hb hl _ ih | link v _ ih | freeCount v _ ih => exact ih

/-! ## The channels -/

theorem channel_of_channels {s t : State} (h : t.control.channels = s.control.channels) (c : Channel) :
    t.channel c = s.channel c := by
  simp only [State.channel, h]

theorem channel_setChannel (s : State) (c d : Channel) (v : ChannelState) :
    (s.setChannel c v).channel d = if d = c then v else s.channel d := by
  by_cases h : d = c
  · subst h; simp
  · simp [h]

/-- A path of updates leaves every channel's queue and chain (R180 lets a command change its notices only). -/
theorem Moves.keeps_chains {s t : State} (h : Moves s t) (c : Channel) :
    (t.channel c).queue = (s.channel c).queue ∧ (t.channel c).chain = (s.channel c).chain := by
  induction h with
  | refl => exact ⟨rfl, rfl⟩
  | notices d a f _ ih =>
    rw [channel_setChannel]
    split
    · subst c; exact ih
    · exact ih
  | append b hb _ ih => rw [channel_of_channels (appendEntry_channels ..)]; exact ih
  | cause p k _ ih => rw [channel_of_channels (raiseCause_channels ..)]; exact ih
  | examine p _ ih => rw [channel_of_channels (examineHigh_channels ..)]; exact ih
  | lanes v _ ih | gate v hw _ ih | roster v _ ih | attendance v _ ih | presentMirror n _ ih | bells v _ ih | pins v _ ih
    | reply v _ ih | clockMirror _ ih | time v hc _ ih | pay v hh _ ih | memory v hm _ ih | journal v hj _ ih => exact ih

/-- A channel's queue and chain in their limits (R178, TABLE 10-2). -/
def ChannelState.inLimits (ch : ChannelState) : Prop := ch.queue.length ≤ 4 ∧ ∀ k ∈ ch.chain, 1 ≤ k.count ∧ k.count ≤ 256

theorem ChannelLaw.of_chains {s t : State} (h : ChannelLaw s)
    (hc : ∀ c, (t.channel c).queue = (s.channel c).queue ∧ (t.channel c).chain = (s.channel c).chain) : ChannelLaw t := by
  intro c
  rw [(hc c).1, (hc c).2]
  exact h c

theorem ChannelLaw.of_channels {s t : State} (h : ChannelLaw s) (hc : t.control.channels = s.control.channels) : ChannelLaw t :=
  h.of_chains fun c => by rw [channel_of_channels hc c]; exact ⟨rfl, rfl⟩

theorem ChannelLaw.moves {s t : State} (h : ChannelLaw s) (hm : Moves s t) : ChannelLaw t := h.of_chains fun c => hm.keeps_chains c

theorem ChannelLaw.channel {s : State} (h : ChannelLaw s) (c : Channel) {v : ChannelState}
    (hv : (s.channel c).inLimits → v.inLimits) : ChannelLaw (s.setChannel c v) := by
  intro d
  rw [channel_setChannel]
  split
  · exact hv (h c)
  · exact h d

theorem ChannelLaw.restarted {s : State} : ChannelLaw (loseVolatile s) := by
  intro c
  have : (loseVolatile s).channel c = ChannelState.atStart := by
    simp [loseVolatile, State.channel, Control.restart]
  rw [this]
  exact ⟨by decide, by rintro k ⟨⟩⟩

theorem ChannelLaw.access {s : State} (h : ChannelLaw s) (r : Requester) : ChannelLaw (access r s) :=
  h.of_channels (access_channels ..)

theorem ChannelLaw.noticeSet {s : State} (h : ChannelLaw s) (ps : PortSet) (w : SummaryWord) (b : Nat) :
    ChannelLaw (noticeSet ps w b s) := h.of_channels (noticeSet_channels ..)

theorem ChannelLaw.port {s : State} (h : ChannelLaw s) (p : Port) (v : PortState) : ChannelLaw (s.setPortState p v) :=
  h.of_channels (State.setPortState_channels ..)

theorem ChannelLaw.writeRequestCell {s : State} (h : ChannelLaw s) (p : Port) (c : Channel) (v : Word) :
    ChannelLaw (writeRequestCell p c v s) := by
  unfold Machine.writeRequestCell takeRequest
  dsimp only
  split
  · split
    · exact h.channel c id
    · split
      · exact h.channel c id
      · refine ChannelLaw.noticeSet ?_ _ _ _
        refine h.channel c fun hl => ⟨?_, hl.2⟩
        simp only [List.length_append, List.length_singleton]
        omega
  · exact h

theorem ChannelLaw.writeFaultCell {s : State} (h : ChannelLaw s) (c : Channel) (v : Word) :
    ChannelLaw (writeFaultCell c v s) := by
  unfold Machine.writeFaultCell
  split
  · exact h.channel c id
  · exact h

theorem ChannelLaw.writeWord {s : State} (h : ChannelLaw s) (p : Port) (a : BitVec 13) (v : Word) :
    ChannelLaw (writeWord p a v s) := by
  unfold Machine.writeWord
  split
  · exact h.writeRequestCell _ _ _
  · exact h.writeFaultCell _ _
  · exact h.channel _ id
  · exact h.port _ _
  · exact h.port _ _
  · exact h
  · unfold writeStorage; split <;> exact h

theorem ChannelLaw.portAccess {s : State} (h : ChannelLaw s) (p : Port) {f : State → State}
    (hf : ∀ u, ChannelLaw u → ChannelLaw (f u)) : ChannelLaw (portAccess p f s) := by
  unfold Machine.portAccess
  split
  · exact hf _ (h.access _)
  · exact h

theorem ChannelLaw.dataLowByte {s : State} (h : ChannelLaw s) (b : Byte) : ChannelLaw (dataLowByte b s) := by
  unfold Machine.dataLowByte
  split
  · exact h.portAccess .link fun _ h => h.writeWord _ _ _
  · exact h

theorem ChannelLaw.readByte {s : State} (h : ChannelLaw s) : ChannelLaw (readByte s) := by
  unfold Machine.readByte
  split
  · exact h
  · split
    · show ChannelLaw (portFetch .link s.link.pointer s).2
      unfold portFetch portRead
      repeat' split
      all_goals exact h.access _
    · exact h
  · exact h

/-- The channels while a block of channel c is served: the others in their limits, c's queue in its own. -/
def ServingLimits (c : Channel) (s : State) : Prop :=
  (∀ d, d ≠ c → (s.channel d).inLimits) ∧ (s.channel c).queue.length ≤ 4

theorem ServingLimits.of_chains {c : Channel} {s t : State} (h : ServingLimits c s)
    (hc : ∀ d, (t.channel d).queue = (s.channel d).queue ∧ (t.channel d).chain = (s.channel d).chain) : ServingLimits c t := by
  refine ⟨fun d hd => ?_, by rw [(hc c).1]; exact h.2⟩
  unfold ChannelState.inLimits
  rw [(hc d).1, (hc d).2]
  exact h.1 d hd

theorem ServingLimits.of_channels {c : Channel} {s t : State} (h : ServingLimits c s)
    (hc : t.control.channels = s.control.channels) : ServingLimits c t :=
  h.of_chains fun d => by rw [channel_of_channels hc d]; exact ⟨rfl, rfl⟩

/-- The chain of the channel served is put in its limits, or ends. -/
theorem ServingLimits.channel {c : Channel} {s : State} (h : ServingLimits c s) {v : ChannelState}
    (hq : v.queue = (s.channel c).queue) (hk : ∀ k ∈ v.chain, 1 ≤ k.count ∧ k.count ≤ 256) : ChannelLaw (s.setChannel c v) := by
  intro d
  rw [channel_setChannel]
  split
  · exact ⟨by rw [hq]; exact h.2, hk⟩
  · exact h.1 d ‹_›

theorem ServingLimits.channelFault {c : Channel} {s : State} (h : ServingLimits c s) (f : ChannelFault) :
    ChannelLaw (channelFault c f s) := by
  refine ChannelLaw.noticeSet (h.channel ?_ ?_) _ _ _
  · rfl
  · simp

/-- A turn leaves its channel's chain continued below 256 blocks, or ended (R178, R179). -/
theorem ServingLimits.continueChain {c : Channel} {s : State} (h : ServingLimits c s) (w : Word) (b : Bool) {k : Chain}
    (hk : 1 ≤ k.count) : ChannelLaw (continueChain c w b k s) := by
  unfold Machine.continueChain
  split
  · split
    · refine h.channel rfl ?_
      rintro _ ⟨⟩
      exact ⟨hk, by simp only; omega⟩
    · exact h.channelFault _
  · refine h.channel rfl ?_
    simp

theorem ServingLimits.serveBlock {c : Channel} {s : State} (h : ServingLimits c s) {k : Chain} (hk : 1 ≤ k.count) :
    ChannelLaw (serveBlock c k s) := by
  have h1 : ServingLimits c (carryOut (readBlock s.memory k.next.toNat) k.origin s).1 :=
    h.of_chains fun d => (Moves.refl.carryOut _ _).keeps_chains d
  unfold Machine.serveBlock
  refine ServingLimits.continueChain (ServingLimits.of_channels h1 ?_) _ _ hk
  rw [noticeSet_channels]
  rfl

theorem ChannelState.take_limits {ch ch' : ChannelState} {k : Chain} (ht : ch.take = some (k, ch')) (h : ch.inLimits) :
    1 ≤ k.count ∧ ch'.queue.length ≤ 4 := by
  unfold ChannelState.take at ht
  obtain ⟨hq, hk⟩ := h
  split at ht
  · obtain ⟨rfl, rfl⟩ : _ = k ∧ _ = ch' := by simpa using ht
    exact ⟨by simp, hq⟩
  · next hqueue =>
    obtain ⟨rfl, rfl⟩ : _ = k ∧ _ = ch' := by simpa using ht
    rw [hqueue, List.length_cons] at hq
    exact ⟨le_rfl, by simp only; omega⟩
  · cases ht

theorem ChannelLaw.engineTurn {s : State} (h : ChannelLaw s) : ChannelLaw (engineTurn s) := by
  unfold Machine.engineTurn turnWith
  split
  · split
    · next c _ =>
      unfold turnAt
      split
      · exact h
      · next k ch ht =>
        obtain ⟨hk, hq⟩ := ChannelState.take_limits ht (h c)
        have hserving : ServingLimits c (setLastServed c (s.setChannel c ch)) :=
          ⟨fun d hd => by
            rw [show (setLastServed c (s.setChannel c ch)).channel d = (s.setChannel c ch).channel d from rfl,
              State.channel_setChannel_other _ _ _ _ hd]
            exact h d,
           by rwa [show (setLastServed c (s.setChannel c ch)).channel c = (s.setChannel c ch).channel c from rfl,
              State.channel_setChannel_self]⟩
        dsimp only
        split
        · exact (hserving.of_channels (access_channels ..)).serveBlock hk
        · exact hserving.channelFault _
    · exact h
  · exact h

theorem ChannelLaw.runStart {s : State} (k : StartKind) (b : Bool) : ChannelLaw (runStart k b s) := by
  have h : ChannelLaw (stageDecision k s) := ChannelLaw.restarted
  exact h.moves (Moves.refl.stagesAfterDecision k b)

theorem ChannelLaw.mainsArrival {s : State} (h : ChannelLaw s) : ChannelLaw (mainsArrival s) := by
  unfold Machine.mainsArrival
  repeat' split
  · exact h
  all_goals exact ChannelLaw.runStart _ _

/-! ## The rows -/

/-- What a row does: a path of updates, or a path through ports, channels and link that keeps the channels' limits. -/
def RowPath (s t : State) : Prop := Moves s t ∨ (Passes s t ∧ (ChannelLaw s → ChannelLaw t))

theorem RowPath.passes {s t : State} (h : RowPath s t) : Passes s t := h.elim Moves.passes And.left

theorem RowPath.channelLaw {s t : State} (h : RowPath s t) (hs : ChannelLaw s) : ChannelLaw t :=
  h.elim (fun h => hs.moves h) fun h => h.2 hs

theorem RowPath.portAccess {s : State} (p : Port) {f : State → State} (hf : ∀ u, Passes s u → Passes s (f u))
    (hc : ∀ u, ChannelLaw u → ChannelLaw (f u)) : RowPath s (portAccess p f s) :=
  .inr ⟨Passes.refl.portAccess p hf, fun h => h.portAccess p hc⟩

theorem RowPath.onBus {s : State} {f : State → State} (hf : Passes s (f s)) (hc : ChannelLaw s → ChannelLaw (f s)) :
    RowPath s (onBus f s) := by
  refine .inr ⟨Passes.refl.onBus fun _ => hf, fun h => ?_⟩
  unfold Machine.onBus
  split
  · exact hc h
  · exact h

/-- A link row that changes the link port's own framing alone. -/
theorem RowPath.framing {s : State} {f : State → State} (hf : Passes s (f s)) (hc : (f s).control = s.control) :
    RowPath s (Machine.onBus f s) :=
  RowPath.onBus hf fun h => h.of_channels (by rw [hc])

theorem startTransfer_control (a : BitVec 7) (r : Bool) (s : State) : (startTransfer a r s).control = s.control := by
  unfold startTransfer; dsimp only; split <;> rfl

theorem leadByte_control (b : Byte) (s : State) : (leadByte b s).control = s.control := by
  unfold leadByte; split <;> rfl

theorem pointerByte_control (b : Byte) (s : State) : (pointerByte b s).control = s.control := by
  unfold pointerByte; split <;> rfl

theorem dataHighByte_control (b : Byte) (s : State) : (dataHighByte b s).control = s.control := by
  unfold dataHighByte; split <;> rfl

theorem RowPath.command {s : State} (b : Option Buffer) {cmd : State → State × Reply} (h : Moves s (cmd s).1) :
    RowPath s (runDirect b cmd s) := .inl (Moves.runDirect b h .refl)

theorem ChannelLaw.mainsTrip {s : State} (h : ChannelLaw s) : ChannelLaw (mainsTrip s) := by
  unfold Machine.mainsTrip
  split
  · exact ChannelLaw.restarted (s := s)
  · exact h

theorem ChannelLaw.resetAsserts {s : State} (h : ChannelLaw s) : ChannelLaw (resetAsserts s) := by
  unfold Machine.resetAsserts
  split
  · exact ChannelLaw.runStart _ _
  · exact h

/-- The report that follows a grant at a PASSING door (R120). -/
theorem Moves.grantReport {s t : State} (l : Lane) (h : Moves s t) :
    Moves s (match (t.lane l).pending with
      | some p => if running t && p.reportDue then Machine.reportPassage l t else t
      | none => t) := by
  split
  · exact Moves.ite (fun _ => h.reportPassage l) fun _ => h
  · exact h

/-- Every row of the table answers a next state, on such a path. -/
theorem exec_rowPath (i : Instr) (s : State) : ∃ t, exec i s = .next t ∧ RowPath s t := by
  cases i
  case crystalSecond => exact ⟨_, rfl, .inl (Moves.refl.crystalSecond)⟩
  case mainsTrip => exact ⟨_, rfl, .inr ⟨Passes.refl.mainsTrip, ChannelLaw.mainsTrip⟩⟩
  case retentionLostLatchSet => exact ⟨_, rfl, .inl (Moves.refl.latchSets)⟩
  case mainsArrival => exact ⟨_, rfl, .inr ⟨Passes.refl.mainsArrival, ChannelLaw.mainsArrival⟩⟩
  case resetAssert => exact ⟨_, rfl, .inr ⟨Passes.refl.resetAsserts, ChannelLaw.resetAsserts⟩⟩
  case selfTestEnd => exact ⟨_, rfl, .inl (Moves.refl.selfTestEnds _)⟩
  case setClock => exact ⟨_, rfl, .command _ (Moves.refl.cmdSetClock _ _ _ _ _)⟩
  case trimClock => exact ⟨_, rfl, .command _ (Moves.refl.cmdTrimClock _)⟩
  case readClock => exact ⟨_, rfl, .command _ .refl⟩
  case acknowledgeStart => exact ⟨_, rfl, .command _ (Moves.refl.cmdAcknowledgeStart)⟩
  case loadRecord => exact ⟨_, rfl, .command _ (Moves.refl.cmdLoadRecord _)⟩
  case readRecord => exact ⟨_, rfl, .command _ (Moves.refl.cmdReadRecord _ _ _ _ _)⟩
  case deleteRecord => exact ⟨_, rfl, .command _ (Moves.refl.cmdDeleteRecord _ _ _ _)⟩
  case scanIndex => exact ⟨_, rfl, .command _ (Moves.refl.cmdScanIndex _ _ _ _)⟩
  case writeLane => exact ⟨_, rfl, .command _ (Moves.refl.cmdWriteLane _ _ _ _ _ _ _ _)⟩
  case readLane => exact ⟨_, rfl, .command _ (Moves.refl.cmdReadLane _ _)⟩
  case frameArrival => exact ⟨_, rfl, .inl (Moves.refl.frameArrival _ _)⟩
  case grantPassageReport => exact ⟨_, rfl, .inl (Moves.refl.grantReport _)⟩
  case redLampExpiry => exact ⟨_, rfl, .inl (Moves.refl.redExpiry _)⟩
  case rotationPulse => exact ⟨_, rfl, .inl (Moves.refl.rotationPulse _)⟩
  case contactOpening => exact ⟨_, rfl, .inl (Moves.refl.contactOpening _)⟩
  case contactClosing => exact ⟨_, rfl, .inl (Moves.refl.contactClosing _)⟩
  case releaseExpiry => exact ⟨_, rfl, .inl (Moves.refl.releaseExpiry _)⟩
  case heldCountdownExpiry => exact ⟨_, rfl, .inl (Moves.refl.heldExpiry _)⟩
  case releaseDoor => exact ⟨_, rfl, .command _ (Moves.refl.cmdReleaseDoor _ _)⟩
  case setDoorMode => exact ⟨_, rfl, .command _ (Moves.refl.cmdSetDoorMode _ _)⟩
  case lockdown => exact ⟨_, rfl, .command _ (Moves.refl.cmdLockdown _)⟩
  case clearLockdown => exact ⟨_, rfl, .command _ (Moves.refl.cmdClearLockdown _)⟩
  case resetAlarm => exact ⟨_, rfl, .command _ (Moves.refl.cmdResetAlarm _ _)⟩
  case readDoors => exact ⟨_, rfl, .command _ .refl⟩
  case setReentryWindow => exact ⟨_, rfl, .command _ (Moves.refl.cmdSetReentryWindow _)⟩
  case emergencyAssert => exact ⟨_, rfl, .inl (Moves.refl.lineAsserts)⟩
  case emergencyRelease => exact ⟨_, rfl, .inl (Moves.refl.lineReleases)⟩
  case reentryWindowExpiry => exact ⟨_, rfl, .inl (Moves.refl.windowExpiry)⟩
  case writeShift => exact ⟨_, rfl, .command _ (Moves.refl.cmdWriteShift _)⟩
  case readShift => exact ⟨_, rfl, .command _ (Moves.refl.cmdReadShift _ _)⟩
  case writePayClass => exact ⟨_, rfl, .command _ (Moves.refl.cmdWritePayClass _ _ _ _ _)⟩
  case readPayClass => exact ⟨_, rfl, .command _ (Moves.refl.cmdReadPayClass _)⟩
  case writeHolidays => exact ⟨_, rfl, .command _ (Moves.refl.cmdWriteHolidays _ _)⟩
  case readHolidays => exact ⟨_, rfl, .command _ (Moves.refl.cmdReadHolidays _)⟩
  case closePeriod => exact ⟨_, rfl, .command _ (Moves.refl.cmdClosePeriod _ _)⟩
  case readTotals => exact ⟨_, rfl, .command _ (Moves.refl.cmdReadTotals _ _ _ _ _)⟩
  case listPresent => exact ⟨_, rfl, .command _ (Moves.refl.cmdListPresent _ _ _)⟩
  case forceOut => exact ⟨_, rfl, .command _ (Moves.refl.cmdForceOut _ _ _ _ _ _ _ _)⟩
  case forceIn => exact ⟨_, rfl, .command _ (Moves.refl.cmdForceIn _ _ _ _ _ _ _ _)⟩
  case cancel => exact ⟨_, rfl, .command _ (Moves.refl.cmdCancel _ _ _ _ _)⟩
  case writeBellEntry => exact ⟨_, rfl, .command _ (Moves.refl.cmdWriteBellEntry _ _ _ _ _ _ _)⟩
  case readBellEntry => exact ⟨_, rfl, .command _ (Moves.refl.cmdReadBellEntry _)⟩
  case writePattern => exact ⟨_, rfl, .command _ (Moves.refl.cmdWritePattern _ _ _ _ _ _ _)⟩
  case readPattern => exact ⟨_, rfl, .command _ (Moves.refl.cmdReadPattern _)⟩
  case ringZones => exact ⟨_, rfl, .command _ (Moves.refl.cmdRingZones _ _ _)⟩
  case silenceZones => exact ⟨_, rfl, .command _ (Moves.refl.cmdSilenceZones _)⟩
  case readBells => exact ⟨_, rfl, .command _ (Moves.refl.cmdReadBells _)⟩
  case strokeCounterExpiry => exact ⟨_, rfl, .inl (Moves.refl.zoneExpiry _)⟩
  case readJournal => exact ⟨_, rfl, .command _ (Moves.refl.cmdReadJournal _ _ _ _ _)⟩
  case releaseJournal => exact ⟨_, rfl, .command _ (Moves.refl.cmdReleaseJournal _ _ _)⟩
  case setConsumer => exact ⟨_, rfl, .command _ (Moves.refl.cmdSetConsumer _ _ _)⟩
  case journalStatus => exact ⟨_, rfl, .command _ (Moves.refl.cmdJournalStatus _)⟩
  case requestCellWrite => exact ⟨_, rfl, .portAccess _ (fun _ h => h.writeRequestCell _ _ _) fun _ h => h.writeRequestCell _ _ _⟩
  case faultCellWrite => exact ⟨_, rfl, .portAccess _ (fun _ h => h.writeFaultCell _ _) fun _ h => h.writeFaultCell _ _⟩
  case summaryWrite => exact ⟨_, rfl, .portAccess _ (fun _ h => h.writeSummary _ _ _) fun _ h => h.port _ _⟩
  case rearmCellWrite => exact ⟨_, rfl, .portAccess _ (fun _ h => h.writeRearmCell _) fun _ h => h.port _ _⟩
  case portWordWrite => exact ⟨_, rfl, .portAccess _ (fun _ h => h.writeWord _ _ _) fun _ h => h.writeWord _ _ _⟩
  case engineTurn => exact ⟨_, rfl, .inr ⟨Passes.refl.engineTurn, ChannelLaw.engineTurn⟩⟩
  case setChannelNotice => exact ⟨_, rfl, .command _ (Moves.refl.cmdSetChannelNotice _ _ _)⟩
  case readChannels => exact ⟨_, rfl, .command _ .refl⟩
  case linkPointerSet => exact ⟨_, rfl, .framing (Passes.refl.pointerByte _) (pointerByte_control _ _)⟩
  case linkDataWord => exact ⟨_, rfl, .onBus (Passes.refl.dataLowByte _) fun h => h.dataLowByte _⟩
  case linkReadByte => exact ⟨_, rfl, .onBus Passes.refl.readByte ChannelLaw.readByte⟩
  case linkTransferEnd => exact ⟨_, rfl, .framing (f := endTransfer) (Passes.refl.link _) rfl⟩
  case readerClockPulse => exact ⟨_, rfl, .inl (Moves.refl.clockPulse _ _)⟩
  case retentionSupplyLost => exact ⟨_, rfl, .inl (Moves.refl.supplyLost)⟩
  case linkTransferStart => exact ⟨_, rfl, .framing (Passes.refl.startTransfer _ _) (startTransfer_control _ _ _)⟩
  case linkLeadByte => exact ⟨_, rfl, .framing (Passes.refl.leadByte _) (leadByte_control _ _)⟩
  case linkDataHighByte => exact ⟨_, rfl, .framing (Passes.refl.dataHighByte _) (dataHighByte_control _ _)⟩

/-- Every step is such a path from the state whose queue lacks the command taken. -/
theorem step_rowPath {s t : State} (h : step s = .next t) : ∃ rest, RowPath (s.setPending rest) t := by
  unfold step at h
  split at h
  · obtain rfl : tick s = t := by simpa using h
    exact ⟨s.pending, .inl Moves.refl.tick⟩
  · next i rest _ =>
    obtain ⟨u, hu, hp⟩ := exec_rowPath i (s.setPending rest)
    obtain rfl : u = t := by simpa [hu] using h
    exact ⟨rest, hp⟩

/-! ## The obligations -/

/-- Settles O57: each update of a step's path keeps the law of its field, and the rows that pass through the channels keep their
limits. -/
theorem stepKeepsDeviceLaws : Obligations.StepKeepsDeviceLaws := by
  intro s t hm hc ha hch hw hh h
  obtain ⟨rest, hp⟩ := step_rowPath h
  have hb : BoardLaws (s.setPending rest) := ⟨hm, hc, ha, hw, hh⟩
  have ht := hp.passes.keeps_boardLaws hb
  exact ⟨ht.memory, ht.clock, ht.armed, hp.channelLaw hch, ht.window, ht.holidays⟩

/-- Settles O60: appending, freeing and moving a cursor keep the journal's law, and a step's path changes the journal so only. -/
theorem stepKeepsJournal : Obligations.StepKeepsJournal := by
  intro s t hj h
  obtain ⟨rest, hp⟩ := step_rowPath h
  exact hp.passes.keeps_journalLaw (s := s.setPending rest) hj

end Sys2Proof.Machine
end

section
/-! PROOFS. What the operations of lanes and doors do to each lane and each door, and from it the lane law (R47, R50) and the lockdown
law (R118), kept by every step. -/

namespace Sys2Proof.Machine

/-! ## Lanes -/

theorem clearPassage_lane (l m : Lane) (a : Slot) (s : State) :
    (clearPassage l a s).lane m = if m = l then { s.lane l with pending := none } else s.lane m := by
  rw [clearPassage, lane_setLane]; rfl

theorem resolvePassage_lane (l m : Lane) (p : PendingPassage) (s : State) :
    (resolvePassage l p s).lane m = if m = l then { s.lane l with pending := none } else s.lane m := by
  rw [resolvePassage, clearPassage_lane]; simp

theorem lapsePassage_lane (l m : Lane) (p : PendingPassage) (e : Bool) (s : State) :
    (lapsePassage l p e s).lane m = if m = l then { s.lane l with pending := none } else s.lane m := by
  rw [lapsePassage, clearPassage_lane]; simp

theorem loadRed_lane (l m : Lane) (s : State) :
    (loadRed l s).lane m = if m = l then { s.lane l with red := releaseTicks (s.lane l).config } else s.lane m :=
  lane_setLane ..

theorem refuseFrame_lane (l m : Lane) (w : BadgeRead) (a : Option Slot) (r : DenyReason) (s : State) :
    (refuseFrame l w a r s).lane m =
      if m = l then { s.lane l with red := releaseTicks (s.lane l).config } else s.lane m := by
  rw [refuseFrame, loadRed_lane]; simp

theorem takeGrant_lane (l m : Lane) (g : Grant) (w : BadgeRead) (s : State) :
    (takeGrant l g w s).lane m =
      if m = l then
        { s.lane l with
          pending :=
            if countedAtGrant s l = true then none
            else some (passageOf g w (decide ((s.door l).status = .passing))) }
      else s.lane m := by
  unfold takeGrant
  dsimp only
  split
  · rw [resolvePassage_lane]
    simp only [doorGrant_laneAt, lane_modifyRecord, lane_setLane, if_true]
    split <;> rfl
  · simp only [doorGrant_laneAt, lane_modifyRecord, lane_setLane]

/-! ## The lane law -/

/-- Every lane obeys its law (R47, R50). -/
def LanesLaw (s : State) : Prop := ∀ l, LaneLaw (s.lane l)

theorem LanesLaw.of_lanes {s t : State} (h : LanesLaw s) (hl : t.lanes = s.lanes) : LanesLaw t := by
  intro l; rw [State.lane, hl]; exact h l

/-- A lane replaced by one that obeys the law. -/
theorem LanesLaw.setLane {s : State} (h : ∀ m, m ≠ l → LaneLaw (s.lane m)) {v : LaneState} (hv : LaneLaw v) :
    LanesLaw (s.setLane l v) := by
  intro m
  rw [lane_setLane]
  split
  · exact hv
  · exact h m ‹_›

theorem LanesLaw.at {s : State} (h : LanesLaw s) {l : Lane} {v : LaneState} (hv : LaneLaw (s.lane l) → LaneLaw v) :
    LanesLaw (s.setLane l v) := LanesLaw.setLane (fun m _ => h m) (hv (h l))

/-- The assembly's part of the lane law (R47). -/
def LaneState.assembled (v : LaneState) : Prop := v.bits.length ≤ 36 ∧ v.gap ≤ 3 ∧ (0 < v.gap ↔ v.bits ≠ [])

theorem LaneLaw.assembled {v : LaneState} (h : LaneLaw v) : v.assembled := ⟨h.1, h.2.1, h.2.2.1⟩

theorem LaneState.assembled.lawful {u v : LaneState} (h : u.assembled) (hb : v.bits = u.bits) (hg : v.gap = u.gap)
    (hw : v.waiting.isSome = true → v.pending.isSome = true) : LaneLaw v := by
  unfold LaneState.assembled at h
  rw [← hb, ← hg] at h
  exact ⟨h.1, h.2.1, h.2.2, hw⟩

/-- The lanes' law but for the context of lane l, which awaits the classification of its waiting read. -/
def LanesLawBut (l : Lane) (s : State) : Prop := (∀ m, m ≠ l → LaneLaw (s.lane m)) ∧ (s.lane l).assembled

theorem LanesLaw.but {s : State} (h : LanesLaw s) (l : Lane) : LanesLawBut l s := ⟨fun m _ => h m, (h l).assembled⟩

theorem LanesLawBut.whole {l : Lane} {s : State} (h : LanesLawBut l s)
    (hw : (s.lane l).waiting.isSome = true → (s.lane l).pending.isSome = true) : LanesLaw s := by
  intro m
  by_cases hm : m = l
  · subst hm; exact h.2.lawful rfl rfl hw
  · exact h.1 m hm

theorem LanesLaw.classifyFrame {s : State} (h : LanesLaw s) {l : Lane} (hw : (s.lane l).waiting = none) (w : BadgeRead) :
    LanesLaw (classifyFrame l w s) := by
  intro m
  unfold Machine.classifyFrame
  split
  · rw [refuseFrame_lane]
    split
    · exact h l
    · exact h m
  · rw [takeMuster_laneAt]; exact h m
  · rw [takeGrant_lane]
    split
    · exact (h l).assembled.lawful rfl rfl (by simp [hw])
    · exact h m

theorem LanesLawBut.classifyWaiting {l : Lane} {s : State} (h : LanesLawBut l s) : LanesLaw (classifyWaiting l s) := by
  unfold Machine.classifyWaiting
  split
  · have h1 : LanesLaw (s.setLane l { s.lane l with waiting := none }) :=
      LanesLaw.setLane h.1 (h.2.lawful rfl rfl (by simp))
    exact h1.classifyFrame (by simp) _
  · exact h.whole (by simp [*])

theorem LanesLaw.resolvePassage {s : State} (h : LanesLaw s) (l : Lane) (p : PendingPassage) :
    LanesLawBut l (resolvePassage l p s) := by
  refine ⟨fun m hm => ?_, ?_⟩ <;> rw [resolvePassage_lane]
  · rw [if_neg hm]; exact h m
  · rw [if_pos rfl]; exact (h l).assembled

theorem LanesLaw.lapsePassage {s : State} (h : LanesLaw s) (l : Lane) (p : PendingPassage) (e : Bool) :
    LanesLawBut l (lapsePassage l p e s) := by
  refine ⟨fun m hm => ?_, ?_⟩ <;> rw [lapsePassage_lane]
  · rw [if_neg hm]; exact h m
  · rw [if_pos rfl]; exact (h l).assembled

theorem LanesLaw.reportPassage {s : State} (h : LanesLaw s) (l : Lane) : LanesLaw (reportPassage l s) := by
  unfold Machine.reportPassage
  split
  · exact (h.resolvePassage l _).classifyWaiting
  · exact h

theorem LanesLaw.reportLapse {s : State} (h : LanesLaw s) (l : Lane) : LanesLaw (reportLapse l s) := by
  unfold Machine.reportLapse
  split
  · exact (h.lapsePassage l _ _).classifyWaiting
  · exact h

theorem LanesLaw.emergencyLapse {s : State} (h : LanesLaw s) (l : Lane) : LanesLaw (emergencyLapse l s) := by
  have h1 : LanesLawBut l (match (s.lane l).pending with
      | some p => Machine.lapsePassage l p true s
      | none => s) := by
    split
    · exact h.lapsePassage l _ _
    · exact h.but l
  exact LanesLaw.setLane h1.1 (h1.2.lawful rfl rfl (by simp))

theorem LanesLaw.arriveValid {s : State} (h : LanesLaw s) (l : Lane) (w : BadgeRead) : LanesLaw (arriveValid l w s) := by
  unfold Machine.arriveValid
  split
  · next hp =>
    refine h.classifyFrame (Option.not_isSome_iff_eq_none.mp fun hw => ?_) w
    simpa [hp] using (h l).2.2.2 hw
  · next p hp =>
    repeat' split
    · exact h
    · exact h.at fun hl => hl.assembled.lawful rfl rfl (by simp [hp])
    · exact h
    · intro m
      rw [refuseFrame_lane]
      split
      · exact h l
      · exact h m

theorem LanesLaw.endFrame {s : State} (h : LanesLaw s) (l : Lane) (bits : List Bool) : LanesLaw (endFrame l bits s) := by
  have h1 : LanesLaw (s.setLane l { s.lane l with bits := [], gap := 0 }) :=
    h.at fun hl => ⟨by simp, by simp, by simp, hl.2.2.2⟩
  unfold Machine.endFrame
  dsimp only
  split
  · exact h1.arriveValid l _
  · exact (h1.of_lanes (appendEntry_lanes ..)).at id

theorem LanesLaw.clockPulse {s : State} (h : LanesLaw s) (l : Lane) (b : Bool) : LanesLaw (clockPulse l b s) := by
  unfold Machine.clockPulse
  dsimp only
  split
  · split
    · exact h.endFrame l _
    · exact h.at fun hl => ⟨by simp only; omega, by simp, by simp, hl.2.2.2⟩
  · exact h

theorem LanesLaw.gapExpiry {s : State} (h : LanesLaw s) (l : Lane) : LanesLaw (gapExpiry l s) := by
  unfold Machine.gapExpiry
  split
  · exact h.endFrame l _
  · exact h

theorem LanesLaw.frameArrival {s : State} (h : LanesLaw s) (l : Lane) (e : FrameEnd) : LanesLaw (frameArrival l e s) := by
  cases e with
  | gap => exact h.gapExpiry l
  | extraBit b =>
    unfold Machine.frameArrival
    dsimp only
    split
    · exact h.clockPulse l b
    · exact h

/-! ## Doors -/

theorem setDoor_gate (s : State) (l : Lane) (v : Door) :
    (s.setDoor l v).gate = { s.gate with doors := vset s.gate.doors l v } := rfl

theorem stopHeldBell_door (l m : Lane) (s : State) :
    (stopHeldBell l s).door m = if m = l then { s.door l with heldBell := false } else s.door m := by
  unfold stopHeldBell
  split
  · dsimp only
    rw [door_setDoor]; simp
  · next h =>
    split
    · subst m
      ext1 <;> simp_all
    · rfl

/-- What a door's rest does: the state given, no countdown, and its held alarm ended (R127, R128, R130). -/
theorem restDoor_door (l m : Lane) (d : DoorStatus) (s : State) :
    (restDoor l d s).door m =
      if m = l then { s.door l with status := d, release := 0, heldCount := 0, heldBell := false } else s.door m := by
  unfold restDoor
  dsimp only
  rw [door_setDoor, stopHeldBell_door, stopHeldBell_door]
  by_cases h : m = l
  · simp [h, Door.rest]
  · simp [h]

theorem doorGrant_door (l m : Lane) (s : State) :
    (doorGrant l s).door m = if m = l then (s.door l).takeGrant (s.lane l).config else s.door m := door_setDoor ..

theorem lockDoor_door (l m : Lane) (s : State) :
    (lockDoor l s).door m = if m = l then (s.door l).toLocked (s.lane l).config else s.door m := door_setDoor ..

theorem doorGrant_gate (l : Lane) (s : State) :
    (doorGrant l s).gate =
      { s.gate with doors := vset s.gate.doors l ((s.door l).takeGrant (s.lane l).config) } := rfl

theorem takeGrant_gate (l : Lane) (g : Grant) (w : BadgeRead) (s : State) : (takeGrant l g w s).gate = (doorGrant l s).gate := by
  unfold takeGrant
  dsimp only
  split
  · rw [resolvePassage_gate, doorGrant_gate, doorGrant_gate, lane_modifyRecord, State.lane_setLane_self]; rfl
  · rw [doorGrant_gate, doorGrant_gate, lane_modifyRecord, State.lane_setLane_self]; rfl

/-! ## Classification and the lockdown -/

/-- In lockdown no frame is granted (R64): check 7 refuses what checks 1 to 6 pass. -/
theorem recordDecision_ne_grant {s : State} (h : s.gate.lockdown = true) (l : Lane) (a : Slot) (r : Record) (w : BadgeRead)
    (g : Grant) : recordDecision s l a r w ≠ .grant g := by
  unfold recordDecision
  rw [if_pos h]
  repeat' split
  all_goals exact Decision.noConfusion

theorem classify_ne_grant {s : State} (h : s.gate.lockdown = true) (l : Lane) (w : BadgeRead) (g : Grant) :
    classify s l w ≠ .grant g := by
  unfold classify
  split
  · exact Decision.noConfusion
  · exact Decision.noConfusion
  · split
    · exact Decision.noConfusion
    · exact recordDecision_ne_grant h _ _ _ _ _

/-- A classification moves the lane's own door, by a grant outside lockdown, and nothing else of the gate (R120). -/
theorem classifyFrame_gate (l : Lane) (w : BadgeRead) (s : State) :
    (classifyFrame l w s).gate = s.gate ∨ (s.gate.lockdown = false ∧ (classifyFrame l w s).gate = (doorGrant l s).gate) := by
  unfold classifyFrame
  split
  · exact .inl (refuseFrame_gate ..)
  · exact .inl (takeMuster_gate ..)
  · next g hg =>
    refine .inr ⟨?_, takeGrant_gate ..⟩
    cases h : s.gate.lockdown
    · rfl
    · exact absurd hg (classify_ne_grant h l w g)

theorem classifyWaiting_gate (l : Lane) (s : State) :
    (classifyWaiting l s).gate = s.gate ∨
      (s.gate.lockdown = false ∧ (classifyWaiting l s).gate = (doorGrant l s).gate) := by
  unfold classifyWaiting
  split
  · refine (classifyFrame_gate l _ _).imp id (And.imp id fun h => h.trans ?_)
    rw [doorGrant_gate, doorGrant_gate, State.lane_setLane_self]; rfl
  · exact .inl rfl

theorem reportPassage_gate (l : Lane) (s : State) :
    (reportPassage l s).gate = s.gate ∨ (s.gate.lockdown = false ∧ (reportPassage l s).gate = (doorGrant l s).gate) := by
  unfold reportPassage
  split
  · refine (classifyWaiting_gate l _).imp (·.trans (resolvePassage_gate ..)) (And.imp (by simp) fun h => h.trans ?_)
    rw [doorGrant_gate, doorGrant_gate, resolvePassage_lane, if_pos rfl, resolvePassage_gate, State.door, resolvePassage_gate]
    rfl
  · exact .inl rfl

theorem reportLapse_gate (l : Lane) (s : State) :
    (reportLapse l s).gate = s.gate ∨ (s.gate.lockdown = false ∧ (reportLapse l s).gate = (doorGrant l s).gate) := by
  unfold reportLapse
  split
  · refine (classifyWaiting_gate l _).imp (·.trans (lapsePassage_gate ..)) (And.imp (by simp) fun h => h.trans ?_)
    rw [doorGrant_gate, doorGrant_gate, lapsePassage_lane, if_pos rfl, lapsePassage_gate, State.door, lapsePassage_gate]
    rfl
  · exact .inl rfl

/-! ## The lockdown law -/

/-- A door as the lockdown law asks: not RELEASED in lockdown, and FREE while the emergency has freed it (R118). -/
def Door.lawful (lockdown : Bool) (d : Door) : Prop :=
  (lockdown = true → d.status ≠ .released) ∧ (d.freed = true → d.status = .free)

theorem lockdownLaw_iff (s : State) : LockdownLaw s ↔ ∀ l, (s.door l).lawful s.gate.lockdown :=
  ⟨fun h l => ⟨fun hl => h.1 hl l, h.2 l⟩, fun h => ⟨fun hl l => (h l).1 hl, fun l => (h l).2⟩⟩

theorem LockdownLaw.of_gate {s t : State} (h : LockdownLaw s) (hg : t.gate = s.gate) : LockdownLaw t := by
  unfold LockdownLaw State.door at *
  rw [hg]; exact h

/-- The gate's other items have no part in the law. -/
theorem LockdownLaw.of_doors {s t : State} (h : LockdownLaw s) (hd : t.gate.doors = s.gate.doors)
    (hl : t.gate.lockdown = s.gate.lockdown) : LockdownLaw t := by
  unfold LockdownLaw State.door at *
  rw [hd, hl]; exact h

theorem LockdownLaw.setDoor {s : State} (h : LockdownLaw s) {l : Lane} {v : Door}
    (hv : (s.door l).lawful s.gate.lockdown → v.lawful s.gate.lockdown) : LockdownLaw (s.setDoor l v) := by
  rw [lockdownLaw_iff] at *
  intro m
  rw [door_setDoor]
  split
  · exact hv (h l)
  · exact h m

/-- A door put to a state that is no RELEASED, the emergency's mark aside. -/
theorem Door.lawful.of_status {lockdown : Bool} {v : Door} (hs : v.status ≠ .released)
    (hf : v.freed = true → v.status = .free) : v.lawful lockdown := ⟨fun _ => hs, hf⟩

/-- A door whose state and mark stay. -/
theorem Door.lawful.of_same {lockdown : Bool} {d v : Door} (h : d.lawful lockdown) (hs : v.status = d.status)
    (hf : v.freed = d.freed) : v.lawful lockdown := by
  unfold Door.lawful at *
  rw [hs, hf]; exact h

theorem Door.lawful.freed_eq_false {lockdown : Bool} {d : Door} (h : d.lawful lockdown) (hs : d.status ≠ .free) :
    d.freed = false := by
  cases hf : d.freed
  · rfl
  · exact absurd (h.2 hf) hs

/-- A grant outside lockdown keeps the law. -/
theorem Door.lawful.takeGrant {d : Door} (h : d.lawful false) (c : LaneConfig) : (d.takeGrant c).lawful false := by
  refine ⟨by simp, ?_⟩
  unfold Door.takeGrant
  split
  · next hs => rw [show (d.toReleased c).freed = d.freed from rfl, h.freed_eq_false (by simp [hs])]; simp
  all_goals exact h.2

theorem Door.toLocked_status (d : Door) (c : LaneConfig) : (d.toLocked c).status ≠ .released := by
  unfold Door.toLocked
  split <;> exact DoorStatus.noConfusion

theorem Door.toLocked_freed (d : Door) (c : LaneConfig) : (d.toLocked c).freed = d.freed := by
  unfold Door.toLocked
  split <;> rfl

theorem LockdownLaw.doorGrant {s : State} (h : LockdownLaw s) (hl : s.gate.lockdown = false) (l : Lane) :
    LockdownLaw (doorGrant l s) := by
  refine h.setDoor fun hd => ?_
  rw [hl] at hd ⊢
  exact hd.takeGrant _

/-- An operation that at most grants at the lane's door, outside lockdown, keeps the law. -/
theorem LockdownLaw.of_gate_or_grant {s t : State} (h : LockdownLaw s) {l : Lane}
    (hg : t.gate = s.gate ∨ (s.gate.lockdown = false ∧ t.gate = (Machine.doorGrant l s).gate)) : LockdownLaw t := by
  rcases hg with hg | ⟨hl, hg⟩
  · exact h.of_gate hg
  · exact (h.doorGrant hl l).of_gate hg

theorem LockdownLaw.reportPassage {s : State} (h : LockdownLaw s) (l : Lane) : LockdownLaw (reportPassage l s) :=
  h.of_gate_or_grant (reportPassage_gate l s)

theorem LockdownLaw.reportLapse {s : State} (h : LockdownLaw s) (l : Lane) : LockdownLaw (reportLapse l s) :=
  h.of_gate_or_grant (reportLapse_gate l s)

theorem LockdownLaw.restDoor {s : State} (h : LockdownLaw s) (l : Lane) {d : DoorStatus} (hd : d ≠ .released)
    (hf : (s.door l).freed = true → d = .free) : LockdownLaw (restDoor l d s) := by
  rw [lockdownLaw_iff] at *
  intro m
  rw [restDoor_door, restDoor_lockdown]
  split
  · exact ⟨fun _ => hd, hf⟩
  · exact h m

theorem LockdownLaw.endFrame {s : State} (h : LockdownLaw s) (l : Lane) (bits : List Bool) : LockdownLaw (endFrame l bits s) := by
  unfold Machine.endFrame
  dsimp only
  split
  · unfold arriveValid
    split
    · refine h.of_gate_or_grant (l := l) ((classifyFrame_gate l _ _).imp id (And.imp id fun h => h.trans ?_))
      rw [doorGrant_gate, doorGrant_gate, State.lane_setLane_self]; rfl
    · repeat' split
      · exact h
      · exact h
      · exact h
      · exact h.of_gate (refuseFrame_gate ..)
  · exact h.of_gate (appendEntry_gate ..)

theorem LockdownLaw.clockPulse {s : State} (h : LockdownLaw s) (l : Lane) (b : Bool) : LockdownLaw (clockPulse l b s) := by
  unfold Machine.clockPulse
  dsimp only
  split
  · split
    · exact h.endFrame l _
    · exact h
  · exact h

theorem LockdownLaw.gapExpiry {s : State} (h : LockdownLaw s) (l : Lane) : LockdownLaw (gapExpiry l s) := by
  unfold Machine.gapExpiry
  split
  · exact h.endFrame l _
  · exact h

theorem LockdownLaw.frameArrival {s : State} (h : LockdownLaw s) (l : Lane) (e : FrameEnd) :
    LockdownLaw (frameArrival l e s) := by
  cases e with
  | gap => exact h.gapExpiry l
  | extraBit b =>
    unfold Machine.frameArrival
    dsimp only
    split
    · exact h.clockPulse l b
    · exact h

end Sys2Proof.Machine
end

section
/-! PROOFS. The rows that carry a command out, by their command; and the commands that leave lanes, gate, roster and attendance
alone. -/

namespace Sys2Proof.Machine

/-! ## Rows of commands -/

/-- The command that a row carries out: its output buffer, origin, operand words, command buffer and command; none for an event. -/
def commandOfRow : Instr → Option (Option Buffer × Port × List Word × Buffer × Command)
  | .setClock o a b c d => some (none, o, [a, b, c, d], ⟨0, 0⟩, .setClock)
  | .trimClock a => some (none, .bus, [a], ⟨0, 0⟩, .trimClock)
  | .readClock => some (none, .bus, [], ⟨0, 0⟩, .readClock)
  | .acknowledgeStart => some (none, .bus, [], ⟨0, 0⟩, .acknowledgeStart)
  | .loadRecord buf => some (none, .bus, [], buf, .loadRecord)
  | .readRecord a b c d buf => some (some buf, .bus, [a, b, c, d], buf, .readRecord)
  | .deleteRecord a b c d => some (none, .bus, [a, b, c, d], ⟨0, 0⟩, .deleteRecord)
  | .scanIndex a b c buf => some (some buf, .bus, [a, b, c], buf, .scanIndex)
  | .writeLane a b c d e f g h => some (none, .bus, [a, b, c, d, e, f, g, h], ⟨0, 0⟩, .writeLane)
  | .readLane a buf => some (some buf, .bus, [a], buf, .readLane)
  | .releaseDoor o a => some (none, o, [a], ⟨0, 0⟩, .releaseDoor)
  | .setDoorMode a b => some (none, .bus, [a, b], ⟨0, 0⟩, .setDoorMode)
  | .lockdown o => some (none, o, [], ⟨0, 0⟩, .lockdown)
  | .clearLockdown o => some (none, o, [], ⟨0, 0⟩, .clearLockdown)
  | .resetAlarm o a => some (none, o, [a], ⟨0, 0⟩, .resetAlarm)
  | .readDoors => some (none, .bus, [], ⟨0, 0⟩, .readDoors)
  | .setReentryWindow a => some (none, .bus, [a], ⟨0, 0⟩, .setReentryWindow)
  | .writeShift buf => some (none, .bus, [], buf, .writeShift)
  | .readShift a buf => some (some buf, .bus, [a], buf, .readShift)
  | .writePayClass a b c d e => some (none, .bus, [a, b, c, d, e], ⟨0, 0⟩, .writePayClass)
  | .readPayClass a => some (none, .bus, [a], ⟨0, 0⟩, .readPayClass)
  | .writeHolidays a buf => some (none, .bus, [a], buf, .writeHolidays)
  | .readHolidays buf => some (some buf, .bus, [], buf, .readHolidays)
  | .closePeriod o a => some (none, o, [a], ⟨0, 0⟩, .closePeriod)
  | .readTotals a b c d buf => some (some buf, .bus, [a, b, c, d], buf, .readTotals)
  | .listPresent a b buf => some (some buf, .bus, [a, b], buf, .listPresent)
  | .forceOut o a b c d e f g => some (none, o, [0, a, b, c, d, e, f, g], ⟨0, 0⟩, .correctPresence)
  | .forceIn o a b c d e f g => some (none, o, [1, a, b, c, d, e, f, g], ⟨0, 0⟩, .correctPresence)
  | .cancel o a b c d => some (none, o, [2, a, b, c, d], ⟨0, 0⟩, .correctPresence)
  | .writeBellEntry a b c d e f g => some (none, .bus, [a, b, c, d, e, f, g], ⟨0, 0⟩, .writeBellEntry)
  | .readBellEntry a => some (none, .bus, [a], ⟨0, 0⟩, .readBellEntry)
  | .writePattern a b c d e f g => some (none, .bus, [a, b, c, d, e, f, g], ⟨0, 0⟩, .writePattern)
  | .readPattern a => some (none, .bus, [a], ⟨0, 0⟩, .readPattern)
  | .ringZones o a b => some (none, o, [a, b], ⟨0, 0⟩, .ringZones)
  | .silenceZones a => some (none, .bus, [a], ⟨0, 0⟩, .silenceZones)
  | .readBells buf => some (some buf, .bus, [], buf, .readBells)
  | .readJournal a b c d buf => some (some buf, .bus, [a, b, c, d], buf, .readJournal)
  | .releaseJournal a b c => some (none, .bus, [a, b, c], ⟨0, 0⟩, .releaseJournal)
  | .setConsumer a b c => some (none, .bus, [a, b, c], ⟨0, 0⟩, .setConsumer)
  | .journalStatus buf => some (some buf, .bus, [], buf, .journalStatus)
  | .setChannelNotice a b c => some (none, .bus, [a, b, c], ⟨0, 0⟩, .setChannelNotice)
  | .readChannels => some (none, .bus, [], ⟨0, 0⟩, .readChannels)
  | _ => none

/-- CORRECT PRESENCE by its operation word (R112). -/
theorem runCorrection_eq (o : Port) (op : Operands) (s : State) :
    (op 0 = 0 → runCorrection o op s = cmdForceOut o (op 1) (op 2) (op 3) (op 4) (op 5) (op 6) (op 7) s) ∧
      (op 0 = 1 → runCorrection o op s = cmdForceIn o (op 1) (op 2) (op 3) (op 4) (op 5) (op 6) (op 7) s) ∧
      (op 0 = 2 → runCorrection o op s = cmdCancel o (op 1) (op 2) (op 3) (op 4) s) := by
  unfold runCorrection
  refine ⟨fun h => ?_, fun h => ?_, fun h => ?_⟩ <;> simp [h]

/-- What carrying a row's command out is. -/
def CarriesOut (i : Instr) (s : State) : Prop :=
  match commandOfRow i with
  | some (b, o, ws, buf, c) => exec i s = .next (runDirect b (fun u => c.run o (operandsOf ws) buf u) s)
  | none => True

theorem carriesOut (i : Instr) (s : State) : CarriesOut i s := by
  have runs {f g : State → State × Reply} (h : ∀ u, f u = g u) : (Host.Outcome.next (runDirect none f s) : Host.Outcome State Fault Refusal) = .next (runDirect none g s) :=
    congrArg _ (congrArg (runDirect none · s) (funext h))
  cases i
  case forceOut o a b c d e f g =>
    exact runs fun u => ((runCorrection_eq o (operandsOf [0, a, b, c, d, e, f, g]) u).1 rfl).symm
  case forceIn o a b c d e f g =>
    exact runs fun u => ((runCorrection_eq o (operandsOf [1, a, b, c, d, e, f, g]) u).2.1 rfl).symm
  case cancel o a b c d => exact runs fun u => ((runCorrection_eq o (operandsOf [2, a, b, c, d]) u).2.2 rfl).symm
  all_goals first | exact True.intro | exact rfl

/-- A command's row carries its command out. -/
theorem exec_asCommand {i : Instr} {b : Option Buffer} {o : Port} {ws : List Word} {buf : Buffer} {c : Command}
    (h : commandOfRow i = some (b, o, ws, buf, c)) (s : State) :
    exec i s = .next (runDirect b (fun u => c.run o (operandsOf ws) buf u) s) := by
  have := carriesOut i s
  rwa [CarriesOut, h] at this

/-! ## Quiet commands -/

/-- Two states alike in lanes, gate, roster, attendance and what a started part's mirror asks. -/
structure Quiet (s t : State) : Prop where
  lanes : t.lanes = s.lanes
  gate : t.gate = s.gate
  roster : t.roster = s.roster
  attendance : t.attendance = s.attendance
  mirror : t.control.presentMirror = s.control.presentMirror
  running : running t = running s

theorem Quiet.refl (s : State) : Quiet s s := ⟨rfl, rfl, rfl, rfl, rfl, rfl⟩

theorem Quiet.trans {s t u : State} (h : Quiet s t) (h' : Quiet t u) : Quiet s u :=
  ⟨h'.lanes.trans h.lanes, h'.gate.trans h.gate, h'.roster.trans h.roster, h'.attendance.trans h.attendance,
    h'.mirror.trans h.mirror, h'.running.trans h.running⟩

theorem Quiet.appendEntry (b : EntryBody) (s : State) : Quiet s (appendEntry b s) := by constructor <;> simp

theorem Quiet.examineHigh (p : Port) (s : State) : Quiet s (examineHigh p s) := by constructor <;> simp

theorem Quiet.access (r : Requester) (s : State) : Quiet s (access r s) := by constructor <;> simp

theorem Quiet.noticeSet (ps : PortSet) (w : SummaryWord) (n : Nat) (s : State) : Quiet s (noticeSet ps w n s) := by
  constructor <;> simp

theorem Quiet.raiseBoth (c : Cause) (s : State) : Quiet s (raiseBoth c s) := by constructor <;> simp

theorem Quiet.setPortState (p : Port) (v : PortState) (s : State) : Quiet s (s.setPortState p v) := by
  cases p <;> exact ⟨rfl, rfl, rfl, rfl, rfl, rfl⟩

theorem Quiet.setMemory (m : Memory) (s : State) : Quiet s (s.setMemory m) := ⟨rfl, rfl, rfl, rfl, rfl, rfl⟩

theorem Quiet.setChannel (c : Channel) (v : ChannelState) (s : State) : Quiet s (s.setChannel c v) := ⟨rfl, rfl, rfl, rfl, rfl, rfl⟩

theorem Quiet.setBells (v : Bells) (s : State) : Quiet s (s.setBells v) := ⟨rfl, rfl, rfl, rfl, rfl, rfl⟩

theorem Quiet.setPay (v : PayTables) (s : State) : Quiet s (s.setPay v) := ⟨rfl, rfl, rfl, rfl, rfl, rfl⟩

theorem Quiet.setJournal (v : Journal) (s : State) : Quiet s (s.setJournal v) := ⟨rfl, rfl, rfl, rfl, rfl, rfl⟩

/-- The commands that change lanes, doors, records or the list of those present. -/
def Command.quiet : Command → Bool
  | .setClock | .loadRecord | .readRecord | .deleteRecord | .writeLane | .readTotals | .correctPresence | .releaseDoor
  | .setDoorMode | .lockdown | .clearLockdown | .resetAlarm | .setReentryWindow => false
  | _ => true

/-- Every other command leaves them alone. -/
theorem Command.run_quiet {c : Command} (hc : c.quiet = true) (o : Port) (op : Operands) (b : Buffer) (s : State) :
    Quiet s (c.run o op b s).1 := by
  cases c <;> simp only [Command.quiet, Bool.false_eq_true] at hc <;> simp only [Command.run]
  case trimClock => unfold cmdTrimClock; split <;> exact ⟨rfl, rfl, rfl, rfl, rfl, rfl⟩
  case acknowledgeStart => exact ⟨rfl, rfl, rfl, rfl, rfl, rfl⟩
  case readClock => exact .refl s
  case scanIndex => unfold cmdScanIndex; dsimp only; repeat' split
                    all_goals exact .refl s
  case readLane => unfold cmdReadLane; repeat' split
                   all_goals exact .refl s
  case writeShift => unfold cmdWriteShift; dsimp only; repeat' split
                     · exact .refl s
                     · exact .refl s
                     · exact .setPay _ s
  case readShift => unfold cmdReadShift; repeat' split
                    all_goals exact .refl s
  case writePayClass => unfold cmdWritePayClass; split; exacts [.refl s, .setPay _ s]
  case readPayClass => unfold cmdReadPayClass; split <;> exact .refl s
  case writeHolidays => unfold cmdWriteHolidays; dsimp only; repeat' split
                        · exact .refl s
                        · exact .refl s
                        · exact .setPay _ s
  case readHolidays => unfold cmdReadHolidays; split <;> exact .refl s
  case closePeriod => unfold cmdClosePeriod; dsimp only; split; exacts [.refl s, (Quiet.setPay _ s).trans (.appendEntry _ _)]
  case listPresent => unfold cmdListPresent; dsimp only; repeat' split
                      all_goals exact .refl s
  case readDoors => exact .refl s
  case writeBellEntry => unfold cmdWriteBellEntry; split; exacts [.refl s, .setBells _ s]
  case readBellEntry => unfold cmdReadBellEntry; split <;> exact .refl s
  case writePattern => unfold cmdWritePattern; split; exacts [.refl s, .setBells _ s]
  case readPattern => unfold cmdReadPattern; split <;> exact .refl s
  case ringZones => unfold cmdRingZones; split; exacts [.refl s, .setBells _ s]
  case silenceZones => unfold cmdSilenceZones; dsimp only; repeat' split
                       · exact .refl s
                       · exact .refl s
                       · exact .setBells _ s
  case readBells => unfold cmdReadBells; split <;> exact .refl s
  case readJournal => unfold cmdReadJournal; dsimp only; repeat' split
                      all_goals exact .refl s
  case releaseJournal => unfold cmdReleaseJournal; dsimp only; repeat' split
                         · exact .refl s
                         · exact .refl s
                         · exact .setJournal _ s
                         · exact .setJournal _ s
  case setConsumer => unfold cmdSetConsumer; split; exacts [.refl s, (Quiet.setJournal _ s).trans (.examineHigh _ _)]
  case journalStatus => unfold cmdJournalStatus; split <;> exact .refl s
  case setChannelNotice => unfold cmdSetChannelNotice; split; exacts [.refl s, .setChannel _ _ s]
  case readChannels => exact .refl s

/-- Carrying a command out from its row adds its buffer's words and its reply. -/
theorem runDirect_quiet (b : Option Buffer) (cmd : State → State × Reply) (s : State) :
    runDirect b cmd s = s ∨ (engineOpen s = true ∧ Quiet (cmd s).1 (runDirect b cmd s)) := by
  cases h : engineOpen s
  · exact .inl (runDirect_shut h b cmd)
  · refine .inr ⟨rfl, ?_⟩
    cases b
    · rw [runDirect_open h]; exact ⟨rfl, rfl, rfl, rfl, rfl, rfl⟩
    · rw [runDirect_buffer h]; exact ⟨rfl, rfl, rfl, rfl, rfl, rfl⟩

/-! ## Quiet rows of ports, link and engine -/

theorem portAccess_quiet (p : Port) {f : State → State} (hf : ∀ u, Quiet u (f u)) (s : State) : Quiet s (portAccess p f s) := by
  unfold portAccess
  split
  · exact (Quiet.access _ s).trans (hf _)
  · exact .refl s

theorem writeRequestCell_quiet (p : Port) (c : Channel) (v : Word) (s : State) : Quiet s (writeRequestCell p c v s) := by
  unfold writeRequestCell takeRequest
  dsimp only
  repeat' split
  · exact .setChannel _ _ s
  · exact .setChannel _ _ s
  · exact (Quiet.setChannel _ _ s).trans (.noticeSet _ _ _ _)
  · exact .refl s

theorem writeFaultCell_quiet (c : Channel) (v : Word) (s : State) : Quiet s (writeFaultCell c v s) := by
  unfold writeFaultCell
  split
  · exact .setChannel _ _ s
  · exact .refl s

theorem writeWord_quiet (p : Port) (a : BitVec 13) (v : Word) (s : State) : Quiet s (writeWord p a v s) := by
  unfold writeWord
  split
  · exact writeRequestCell_quiet ..
  · exact writeFaultCell_quiet ..
  · exact .setChannel _ _ s
  · exact .setPortState _ _ s
  · exact .setPortState _ _ s
  · exact .refl s
  · unfold writeStorage
    split
    · exact .setMemory _ s
    · exact .setMemory _ s
    · exact .refl s
    · exact .refl s

theorem onBus_quiet {f : State → State} {s : State} (hf : Quiet s (f s)) : Quiet s (onBus f s) := by
  unfold onBus
  split
  · exact hf
  · exact .refl s

theorem startTransfer_quiet (a : BitVec 7) (r : Bool) (s : State) : Quiet s (startTransfer a r s) := by
  unfold startTransfer; dsimp only; split <;> exact ⟨rfl, rfl, rfl, rfl, rfl, rfl⟩

theorem leadByte_quiet (b : Byte) (s : State) : Quiet s (leadByte b s) := by
  unfold leadByte; split <;> exact ⟨rfl, rfl, rfl, rfl, rfl, rfl⟩

theorem pointerByte_quiet (b : Byte) (s : State) : Quiet s (pointerByte b s) := by
  unfold pointerByte; split <;> exact ⟨rfl, rfl, rfl, rfl, rfl, rfl⟩

theorem dataHighByte_quiet (b : Byte) (s : State) : Quiet s (dataHighByte b s) := by
  unfold dataHighByte; split <;> exact ⟨rfl, rfl, rfl, rfl, rfl, rfl⟩

theorem dataLowByte_quiet (b : Byte) (s : State) : Quiet s (dataLowByte b s) := by
  unfold dataLowByte
  split
  · exact (portAccess_quiet .link (writeWord_quiet .link _ _) s).trans ⟨rfl, rfl, rfl, rfl, rfl, rfl⟩
  · exact .refl s

theorem portFetch_quiet (p : Port) (a : BitVec 13) (s : State) : Quiet s (portFetch p a s).2 := by
  refine (Quiet.access (Port.requester p) s).trans ?_
  unfold portFetch portRead
  repeat' split
  all_goals exact ⟨rfl, rfl, rfl, rfl, rfl, rfl⟩

theorem readByte_quiet (s : State) : Quiet s (readByte s) := by
  unfold readByte
  split
  · exact ⟨rfl, rfl, rfl, rfl, rfl, rfl⟩
  · split
    · exact (portFetch_quiet .link _ s).trans ⟨rfl, rfl, rfl, rfl, rfl, rfl⟩
    · exact ⟨rfl, rfl, rfl, rfl, rfl, rfl⟩
  · exact .refl s

theorem channelFault_quiet (c : Channel) (f : ChannelFault) (s : State) : Quiet s (channelFault c f s) :=
  (Quiet.setChannel _ _ s).trans (.noticeSet _ _ _ _)

theorem continueChain_quiet (c : Channel) (w : Word) (b : Bool) (k : Chain) (s : State) : Quiet s (continueChain c w b k s) := by
  unfold continueChain
  repeat' split
  · exact .setChannel _ _ s
  · exact channelFault_quiet ..
  · exact .setChannel _ _ s

/-- A turn is quiet but for the command it carries out. -/
theorem engineTurn_quiet (s : State) :
    Quiet s (engineTurn s) ∨ engineOpen s = true ∧ ∃ u b o, Quiet s u ∧ Quiet (carryOut b o u).1 (engineTurn s) := by
  unfold engineTurn turnWith turnAt
  split
  · next hopen =>
    split
    · next c _ =>
      split
      · exact .inl (.refl s)
      · next k ch _ =>
        have h1 : Quiet s (setLastServed c (s.setChannel c ch)) := ⟨rfl, rfl, rfl, rfl, rfl, rfl⟩
        dsimp only
        split
        · refine .inr ⟨hopen, _, readBlock (access .engine (setLastServed c (s.setChannel c ch))).memory k.next.toNat, k.origin,
            h1.trans (.access .engine _), ?_⟩
          exact ((Quiet.setMemory _ _).trans (.noticeSet _ _ _ _)).trans (continueChain_quiet ..)
        · exact .inl (h1.trans (channelFault_quiet ..))
    · exact .inl (.refl s)
  · exact .inl (.refl s)

/-- What holds after every command holds after a block carried out. -/
theorem carryOut_of_run {P : State → Prop} {s : State} (hs : P s) (hr : ∀ (c : Command) o op b, P (c.run o op b s).1)
    (b : Block) (o : Port) : P (carryOut b o s).1 := by
  unfold carryOut
  dsimp only
  repeat' split
  all_goals first | exact hs | exact hr _ _ _ _

end Sys2Proof.Machine
end

section
/-! PROOFS. The laws that speak of lanes, records and the list of those present, row by row: what has to be shown of such a law for
every step to keep it. -/

namespace Sys2Proof.Machine

/-! ## States alike but for the gate -/

/-- Two states alike in lanes, roster, attendance and what a started part's mirror asks; the gate may differ. -/
structure Alike (s t : State) : Prop where
  lanes : t.lanes = s.lanes
  roster : t.roster = s.roster
  attendance : t.attendance = s.attendance
  mirror : t.control.presentMirror = s.control.presentMirror
  running : running t = running s

theorem Alike.refl (s : State) : Alike s s := ⟨rfl, rfl, rfl, rfl, rfl⟩

theorem Alike.trans {s t u : State} (h : Alike s t) (h' : Alike t u) : Alike s u :=
  ⟨h'.lanes.trans h.lanes, h'.roster.trans h.roster, h'.attendance.trans h.attendance, h'.mirror.trans h.mirror,
    h'.running.trans h.running⟩

theorem Quiet.alike {s t : State} (h : Quiet s t) : Alike s t := ⟨h.lanes, h.roster, h.attendance, h.mirror, h.running⟩

theorem Alike.setPending (v : List Instr) (s : State) : Alike s (s.setPending v) := ⟨rfl, rfl, rfl, rfl, rfl⟩

theorem Alike.setGate (v : Gate) (s : State) : Alike s (s.setGate v) := ⟨rfl, rfl, rfl, rfl, rfl⟩

theorem Alike.setDoor (l : Lane) (v : Door) (s : State) : Alike s (s.setDoor l v) := .setGate _ s

theorem Alike.setPins (v : Pins) (s : State) : Alike s (s.setPins v) := ⟨rfl, rfl, rfl, rfl, rfl⟩

theorem Alike.setBells (v : Bells) (s : State) : Alike s (s.setBells v) := ⟨rfl, rfl, rfl, rfl, rfl⟩

theorem Alike.appendEntry (b : EntryBody) (s : State) : Alike s (appendEntry b s) := (Quiet.appendEntry b s).alike

theorem Alike.raiseBoth (c : Cause) (s : State) : Alike s (raiseBoth c s) := (Quiet.raiseBoth c s).alike

theorem Alike.examineBoth (s : State) : Alike s (examineBoth s) := by constructor <;> simp

/-- A time base written over one of the same power state and start. -/
theorem Alike.setTime {v : TimeBase} {s : State} (hp : v.power = s.time.power) (hs : v.start = s.time.start) :
    Alike s (s.setTime v) :=
  ⟨rfl, rfl, rfl, rfl, by simp only [Machine.running, State.setTime_time, hp, hs]⟩

theorem Alike.writeMirror (s : State) : Alike s (writeMirror s) := ⟨rfl, rfl, rfl, rfl, rfl⟩

theorem Alike.lowerWindow (s : State) : Alike s (lowerWindow s) := .setGate ..

theorem Alike.restDoor (l : Lane) (d : DoorStatus) (s : State) : Alike s (restDoor l d s) := by constructor <;> simp

theorem Alike.doorGrant (l : Lane) (s : State) : Alike s (doorGrant l s) := .setDoor ..

theorem Alike.lockDoor (l : Lane) (s : State) : Alike s (lockDoor l s) := .setDoor ..

theorem Alike.forcedPassage (l : Lane) (s : State) : Alike s (forcedPassage l s) := by constructor <;> simp

theorem Alike.heldAlarm (l : Lane) (s : State) : Alike s (heldAlarm l s) := by constructor <;> simp

theorem Alike.evaluateSchedule (t : Nat) (s : State) : Alike s (evaluateSchedule t s) := by constructor <;> simp

theorem Alike.beginEvacuation (s : State) : Alike s (beginEvacuation s) := by constructor <;> simp

theorem Alike.endEvacuation (s : State) : Alike s (endEvacuation s) := by constructor <;> simp

theorem Alike.foldl {α : Type} {f : State → α → State} (hf : ∀ s a, Alike s (f s a)) (l : List α) (s : State) :
    Alike s (l.foldl f s) := by
  induction l generalizing s with
  | nil => exact .refl s
  | cons a l ih => exact (hf s a).trans (ih _)

theorem Alike.leaveLockdown (l : Lane) (s : State) : Alike s (leaveLockdown l s) := by
  unfold Machine.leaveLockdown
  repeat' split
  · exact .setDoor ..
  · exact .lockDoor ..
  · exact .refl s

theorem Alike.emergencyFree (l : Lane) (s : State) : Alike s (emergencyFree l s) := by
  unfold Machine.emergencyFree
  split
  · exact (Alike.restDoor ..).trans (.setDoor ..)
  · exact .refl s

theorem Alike.emergencyReturn (l : Lane) (s : State) : Alike s (emergencyReturn l s) := by
  unfold Machine.emergencyReturn
  dsimp only
  repeat' split
  · exact (Alike.setDoor ..).trans (.setDoor ..)
  · exact (Alike.setDoor ..).trans (.setDoor ..)
  · exact (Alike.setDoor ..).trans (.lockDoor ..)
  · exact .refl s

theorem Alike.releaseEmergency (s : State) : Alike s (releaseEmergency s) :=
  (Alike.setGate ..).trans ((Alike.foldl (fun s l => Alike.emergencyReturn l s) _ _).trans
    ((Alike.setGate ..).trans ((Alike.endEvacuation _).trans ((Alike.appendEntry ..).trans (.raiseBoth ..)))))

theorem Alike.continueEmergency (s : State) : Alike s (continueEmergency s) :=
  (Alike.foldl (fun s l => Alike.emergencyFree l s) _ _).trans ((Alike.beginEvacuation _).trans (.raiseBoth ..))

theorem Alike.clockNotice (s : State) : Alike s (if s.time.clockUnset then Machine.raiseBoth .clockUnset s else s) := by
  split
  · exact .raiseBoth ..
  · exact .refl s

theorem Alike.startNotices (k : StartKind) (s : State) : Alike s (startNotices k s) := by
  refine Alike.trans (t := if k = .reset then s else Machine.raiseBoth .powerRestored s) ?_ (.clockNotice _)
  split
  · exact .refl s
  · exact .raiseBoth ..

theorem Alike.adaptSensor (l : Lane) (a b : Sensor) (s : State) : Alike s (adaptSensor l a b s) := by
  unfold Machine.adaptSensor
  repeat' split
  · exact .restDoor ..
  · exact .setDoor ..
  · exact .refl s

theorem Alike.normalByMode (l : Lane) (s : State) : Alike s (normalByMode l s) := by
  unfold Machine.normalByMode
  dsimp only
  split
  · exact (Alike.setDoor ..).trans (.lockDoor ..)
  · exact .setDoor ..

/-! ## Laws of punches -/

/-- A lane with another configuration, and its assembly emptied where the change asks it (R44). -/
def LaneState.reconfigured (v : LaneState) (c : LaneConfig) (clears : Bool) : LaneState :=
  { v with config := c, bits := if clears then [] else v.bits, gap := if clears then 0 else v.gap }

/-- What has to be shown of a law over lanes, roster and attendance for every step to keep it: that nothing else has a part in it, and
that the operations on lanes and records keep it. -/
structure PunchLaw (P : State → Prop) : Prop where
  alike : ∀ {s t}, Alike s t → P s → P t
  lamps : ∀ {s}, P s → P (tickLamps s)
  red : ∀ {s} (l : Lane), P s → P (s.setLane l { s.lane l with red := 0 })
  gap : ∀ {s} (l : Lane), 1 < (s.lane l).gap → P s → P (s.setLane l { s.lane l with gap := (s.lane l).gap - 1 })
  pulse : ∀ {s} (l : Lane) (b : Bool), P s → P (clockPulse l b s)
  frame : ∀ {s} (l : Lane), P s → P (gapExpiry l s)
  passage : ∀ {s} (l : Lane), P s → P (reportPassage l s)
  lapse : ∀ {s} (l : Lane), P s → P (reportLapse l s)
  emergency : ∀ {s} (l : Lane), P s → P (emergencyLapse l s)
  musters : ∀ {s}, P s → P (s.modifyAllRecords (fun r => { r with muster := false }))
  sweep : ∀ {s} (t : Nat), P s → P (sweep t s)
  configure : ∀ {s} (l : Lane) (c : LaneConfig) (clears : Bool), P s → P (s.setLane l ((s.lane l).reconfigured c clears))
  trip : ∀ {s}, P s → P (mainsTrip s)
  start : ∀ {s} (k : StartKind) (w : Bool), P s → P (runStart k w s)
  ready : ∀ {s} {v : TimeBase} {c : Control} {m : Memory}, P s → c.presentMirror = s.attendance.length →
    P (((s.setTime v).setMemory m).setControl c)
  load : ∀ {s} (b : Buffer), P s → P (cmdLoadRecord b s).1
  read : ∀ {s} (a : Slot), P s → P (rolloverSlot a s)
  delete : ∀ {s} (w a b c : Word), P s → P (cmdDeleteRecord w a b c s).1
  forceOut : ∀ {s} (o : Port) (w a b c d m n : Word), P s → P (cmdForceOut o w a b c d m n s).1
  forceIn : ∀ {s} (o : Port) (w a b c d m n : Word), P s → P (cmdForceIn o w a b c d m n s).1
  cancel : ∀ {s} (o : Port) (w a b c : Word), P s → P (cmdCancel o w a b c s).1

namespace PunchLaw
variable {P : State → Prop} (h : PunchLaw P) {s : State}
include h

omit h in
theorem foldl {α : Type} {f : State → α → State} (hf : ∀ {s} a, P s → P (f s a)) (l : List α) (hs : P s) : P (l.foldl f s) := by
  induction l generalizing s with
  | nil => exact hs
  | cons a l ih => exact ih (hf a hs)

theorem minuteEvent (hs : P s) : P (minuteEvent s) := by
  unfold Machine.minuteEvent
  split
  · exact hs
  · exact h.alike (.evaluateSchedule ..) (h.sweep _ hs)

theorem crystalSecond (hs : P s) : P (crystalSecond s) := by
  have hadv : s.time.advance.1.power = s.time.power ∧ s.time.advance.1.start = s.time.start := by
    unfold TimeBase.advance
    repeat' split
    all_goals exact ⟨rfl, rfl⟩
  unfold Machine.crystalSecond
  split
  · exact hs
  · exact h.alike (.setTime hadv.1 hadv.2) hs
  · have h1 := h.alike (.setTime hadv.1 hadv.2) hs
    dsimp only
    split
    · unfold secondEvent
      have h2 := h.alike ((Alike.writeMirror _).trans (.lowerWindow _)) h1
      dsimp only
      split
      · exact h.minuteEvent h2
      · exact h2
    · exact h1

theorem assertEmergency (hs : P s) : P (assertEmergency s) := by
  have h1 := h.alike (.appendEntry (plainBody .emergencyOn s.time.clock) _)
    (h.musters (h.alike (.setGate { s.gate with emergency := true, windowCountdown := 0 } s) hs))
  exact h.alike ((Alike.foldl (fun s l => Alike.emergencyFree l s) _ _).trans ((Alike.beginEvacuation _).trans (.raiseBoth ..)))
    (PunchLaw.foldl (fun l => h.emergency l) allLanes h1)

theorem releaseExpiry (l : Lane) (hs : P s) : P (releaseExpiry l s) := by
  unfold Machine.releaseExpiry
  split
  · exact h.lapse l (h.alike (.setDoor ..) hs)
  · exact hs

theorem heldExpiry (l : Lane) (hs : P s) : P (heldExpiry l s) := by
  unfold Machine.heldExpiry
  split
  · exact h.alike (.heldAlarm ..) hs
  · exact hs

theorem tickRelease (l : Lane) (hs : P s) : P (tickRelease l s) := by
  unfold Machine.tickRelease
  split
  · exact h.alike (.setDoor ..) hs
  · exact h.releaseExpiry l hs

theorem tickHeld (l : Lane) (hs : P s) : P (tickHeld l s) := by
  unfold Machine.tickHeld
  split
  · exact h.alike (.setDoor ..) hs
  · exact h.heldExpiry l hs

theorem tickGap (l : Lane) (hs : P s) : P (tickGap l s) := by
  unfold Machine.tickGap
  split
  · next hg => exact h.gap l hg hs
  · exact h.frame l hs

theorem tick (hs : P s) : P (tick s) := by
  unfold Machine.tick
  split
  · refine PunchLaw.foldl (fun l hl => ?_) allLanes (h.lamps (h.alike (.setBells ..) hs))
    exact h.tickGap l (h.tickHeld l (h.tickRelease l hl))
  · exact hs

theorem rotationPulse (l : Lane) (hs : P s) : P (rotationPulse l s) := by
  unfold Machine.rotationPulse
  repeat' split
  · exact h.passage l (h.alike (.setDoor ..) hs)
  · exact h.alike (.forcedPassage ..) hs
  · exact h.alike (.forcedPassage ..) hs
  all_goals exact hs

theorem contactOpening (l : Lane) (hs : P s) : P (contactOpening l s) := by
  unfold Machine.contactOpening
  have h1 : P (setContactPin l true s) := h.alike (.setPins ..) hs
  have h2 := h.alike (.setDoor l { (setContactPin l true s).door l with contactOpen := true } _) h1
  dsimp only
  repeat' split
  · exact h.passage l (h.alike (.setDoor ..) h2)
  · exact h.alike (.forcedPassage ..) h2
  · exact h.alike (.forcedPassage ..) h2
  · exact h2
  · exact h2
  · exact h1

theorem contactClosing (l : Lane) (hs : P s) : P (contactClosing l s) := by
  unfold Machine.contactClosing
  have h1 : P (setContactPin l false s) := h.alike (.setPins ..) hs
  have h2 := h.alike (.setDoor l { (setContactPin l false s).door l with contactOpen := false } _) h1
  dsimp only
  repeat' split
  · exact h.alike (.restDoor ..) h2
  · exact h2
  · exact h1

theorem lineAsserts (hs : P s) : P (lineAsserts s) := by
  unfold Machine.lineAsserts
  have h1 := h.alike (.setPins { s.pins with emergencyLine := true } s) hs
  dsimp only
  split
  · exact h.assertEmergency h1
  · exact h1

theorem lineReleases (hs : P s) : P (lineReleases s) := by
  unfold Machine.lineReleases
  have h1 := h.alike (.setPins { s.pins with emergencyLine := false } s) hs
  dsimp only
  split
  · exact h.alike (.releaseEmergency _) h1
  · exact h1

theorem redExpiry (l : Lane) (hs : P s) : P (redExpiry l s) := by
  unfold Machine.redExpiry
  split
  · exact h.red l hs
  · exact hs

theorem frameArrival (l : Lane) (e : FrameEnd) (hs : P s) : P (frameArrival l e s) := by
  cases e with
  | gap => exact h.frame l hs
  | extraBit b =>
    unfold Machine.frameArrival
    dsimp only
    split
    · exact h.pulse l b hs
    · exact hs

theorem mainsArrival (hs : P s) : P (mainsArrival s) := by
  unfold Machine.mainsArrival
  repeat' split
  · exact hs
  all_goals exact h.start _ _ hs

theorem resetAsserts (hs : P s) : P (resetAsserts s) := by
  unfold Machine.resetAsserts
  split
  · exact h.start _ _ hs
  · exact hs

theorem reconcileEmergency (hs : P s) : P (reconcileEmergency s) := by
  unfold Machine.reconcileEmergency
  split
  · exact h.assertEmergency hs
  · exact h.alike (.continueEmergency s) hs
  · exact h.alike (.releaseEmergency s) hs
  · exact hs

theorem selfTestEnds (b : Bool) (hs : P s) : P (selfTestEnds b s) := by
  unfold Machine.selfTestEnds
  repeat' split
  · refine h.alike ((Alike.startNotices ..).trans (.examineBoth _)) (h.reconcileEmergency ?_)
    exact h.alike (Alike.foldl (fun s l => Alike.setDoor l _ s) allLanes _) (h.ready hs rfl)
  all_goals exact hs

theorem freeByMode (l : Lane) (hs : P s) : P (freeByMode l s) := by
  unfold Machine.freeByMode
  have h1 := h.alike (.setDoor l { s.door l with mode := .free } s) hs
  dsimp only
  split
  · exact h1
  · exact h1
  · exact h.passage l (h.alike (.restDoor ..) h1)

theorem lockDownLane (l : Lane) (hs : P s) : P (lockDownLane l s) := by
  unfold Machine.lockDownLane
  split
  · exact hs
  · exact h.lapse l (h.alike (.restDoor ..) hs)

theorem correction (o : Port) (op : Operands) (hs : P s) : P (runCorrection o op s).1 := by
  unfold runCorrection
  repeat' split
  · exact h.forceOut _ _ _ _ _ _ _ _ hs
  · exact h.forceIn _ _ _ _ _ _ _ _ hs
  · exact h.cancel _ _ _ _ _ hs
  · exact hs

theorem setClock (o : Port) (d m n w : Word) (hs : P s) : P (cmdSetClock o d m n w s).1 := by
  unfold cmdSetClock
  split
  · exact hs
  · have h1 : P (s.setTime (s.time.set ⟨d.toNat, m.toNat, n.toNat⟩ w.toNat)) := h.alike (.setTime rfl rfl) hs
    dsimp only
    exact h.minuteEvent (h.alike (.writeMirror _) (h.alike (.appendEntry ..) h1))

theorem lockdown (o : Port) (hs : P s) : P (cmdLockdown o s).1 := by
  unfold cmdLockdown
  split
  · exact hs
  · have h1 := h.alike (.appendEntry (commandBody .lockdownOn o none s) _)
      (h.alike (.setGate { s.gate with lockdown := true } s) hs)
    dsimp only
    exact PunchLaw.foldl (fun l hl => h.lockDownLane l hl) allLanes h1

theorem clearLockdown (o : Port) (hs : P s) : P (cmdClearLockdown o s).1 := by
  unfold cmdClearLockdown
  split
  · exact hs
  · have h1 := h.alike (.appendEntry (commandBody .lockdownOff o none s) _)
      (h.alike (.setGate { s.gate with lockdown := false } s) hs)
    dsimp only
    exact h.alike (Alike.foldl (fun s l => Alike.leaveLockdown l s) allLanes _) h1

/-- Every command keeps a law of punches. -/
theorem run (c : Command) (o : Port) (op : Operands) (b : Buffer) (hs : P s) : P (c.run o op b s).1 := by
  by_cases hq : c.quiet = true
  · exact h.alike (Command.run_quiet hq o op b s).alike hs
  cases c <;> simp only [Command.quiet, not_true_eq_false] at hq <;> simp only [Command.run]
  case setClock => exact h.setClock _ _ _ _ _ hs
  case loadRecord => exact h.load b hs
  case readRecord =>
    unfold cmdReadRecord; dsimp only; repeat' split
    all_goals first | exact hs | exact h.read _ hs
  case deleteRecord => exact h.delete _ _ _ _ hs
  case writeLane =>
    unfold cmdWriteLane; dsimp only; repeat' split
    · exact hs
    · exact hs
    · exact h.alike (.adaptSensor ..) (h.configure _ _ _ hs)
  case readTotals =>
    unfold cmdReadTotals; dsimp only; repeat' split
    all_goals first | exact hs | exact h.read _ hs
  case correctPresence => exact h.correction o op hs
  case releaseDoor =>
    unfold cmdReleaseDoor; dsimp only; repeat' split
    all_goals first | exact hs | exact h.alike ((Alike.doorGrant ..).trans (.appendEntry ..)) hs
  case setDoorMode =>
    unfold cmdSetDoorMode; dsimp only; repeat' split
    · exact hs
    · exact h.freeByMode _ hs
    · exact h.alike (.normalByMode ..) hs
  case lockdown => exact h.lockdown o hs
  case clearLockdown => exact h.clearLockdown o hs
  case resetAlarm =>
    unfold cmdResetAlarm
    split
    · exact hs
    · exact h.alike ((Alike.setDoor ..).trans (.appendEntry ..)) hs
  case setReentryWindow =>
    unfold cmdSetReentryWindow
    split
    · exact hs
    · exact h.alike (.setGate ..) hs

end PunchLaw
end Sys2Proof.Machine
end

section
/-! PROOFS. Every step, row by row, for a law over lanes, gate, roster and attendance; and the lane and lockdown laws (R47, R50,
R118). -/

namespace Sys2Proof.Machine

/-! ## Laws kept row by row -/

/-- What has to be shown of a law over lanes, gate, roster and attendance for every step to keep it: one row after another. -/
structure RowLaw (P : State → Prop) : Prop where
  quiet : ∀ {s t}, Quiet s t → P s → P t
  run : ∀ {s} (c : Command) (o : Port) (op : Operands) (b : Buffer), P s → P (c.run o op b s).1
  tick : ∀ {s}, P s → P (tick s)
  crystalSecond : ∀ {s}, P s → P (crystalSecond s)
  mainsTrip : ∀ {s}, P s → P (mainsTrip s)
  mainsArrival : ∀ {s}, P s → P (mainsArrival s)
  resetAsserts : ∀ {s}, P s → P (resetAsserts s)
  selfTestEnds : ∀ {s} (b : Bool), P s → P (selfTestEnds b s)
  frameArrival : ∀ {s} (l : Lane) (e : FrameEnd), P s → P (frameArrival l e s)
  clockPulse : ∀ {s} (l : Lane) (b : Bool), P s → P (clockPulse l b s)
  redExpiry : ∀ {s} (l : Lane), P s → P (redExpiry l s)
  passage : ∀ {s} (l : Lane), P s → P (reportPassage l s)
  rotationPulse : ∀ {s} (l : Lane), P s → P (rotationPulse l s)
  contactOpening : ∀ {s} (l : Lane), P s → P (contactOpening l s)
  contactClosing : ∀ {s} (l : Lane), P s → P (contactClosing l s)
  releaseExpiry : ∀ {s} (l : Lane), P s → P (releaseExpiry l s)
  heldExpiry : ∀ {s} (l : Lane), P s → P (heldExpiry l s)
  lineAsserts : ∀ {s}, P s → P (lineAsserts s)
  lineReleases : ∀ {s}, P s → P (lineReleases s)
  windowExpiry : ∀ {s}, P s → P (windowExpiry s)

theorem Quiet.latchSets (s : State) : Quiet s (latchSets s) := by
  unfold Machine.latchSets
  split <;> exact ⟨rfl, rfl, rfl, rfl, rfl, rfl⟩

/-- The loss of all supply stops no running part: none runs in BATTERY-HOLD (R13). -/
theorem Quiet.supplyLost (s : State) : Quiet s (supplyLost s) := by
  unfold Machine.supplyLost
  split
  · next hp => exact ⟨rfl, rfl, rfl, rfl, rfl, by simp [Machine.running, hp]⟩
  · exact .refl s

theorem Quiet.zoneExpiry (z : Zone) (s : State) : Quiet s (zoneExpiry z s) := by
  unfold Machine.zoneExpiry
  split
  · exact .setBells ..
  · exact .refl s

theorem Quiet.setPending (v : List Instr) (s : State) : Quiet s (s.setPending v) := ⟨rfl, rfl, rfl, rfl, rfl, rfl⟩

namespace RowLaw
variable {P : State → Prop} (h : RowLaw P) {s t : State}
include h

theorem command {i : Instr} {b : Option Buffer} {o : Port} {ws : List Word} {buf : Buffer} {c : Command}
    (hi : commandOfRow i = some (b, o, ws, buf, c)) (ht : exec i s = .next t) (hs : P s) : P t := by
  obtain rfl : runDirect b (fun u => c.run o (operandsOf ws) buf u) s = t := by simpa [exec_asCommand hi] using ht
  rcases runDirect_quiet b (fun u => c.run o (operandsOf ws) buf u) s with hr | ⟨-, hq⟩
  · rw [hr]; exact hs
  · exact h.quiet hq (h.run _ _ _ _ hs)

theorem engineTurn (hs : P s) : P (engineTurn s) := by
  rcases engineTurn_quiet s with hq | ⟨-, u, b, o, hu, hq⟩
  · exact h.quiet hq hs
  · exact h.quiet hq (carryOut_of_run (h.quiet hu hs) (fun c o op b => h.run c o op b (h.quiet hu hs)) b o)

omit h in
/-- A row that answers with a state of the law. -/
theorem of_next {u : State} (ht : (.next u : Host.Outcome State Fault Refusal) = .next t) (hu : P u) : P t := by
  obtain rfl : u = t := by simpa using ht
  exact hu

theorem onBus {f : State → State} (hf : Quiet s (f s)) (hs : P s) : P (Machine.onBus f s) := h.quiet (onBus_quiet hf) hs

theorem port {p : Port} {f : State → State} (hf : ∀ u, Quiet u (f u)) (hs : P s) : P (portAccess p f s) :=
  h.quiet (portAccess_quiet p hf s) hs

/-- Every row keeps such a law. -/
theorem exec {i : Instr} (ht : exec i s = .next t) (hs : P s) : P t := by
  cases i
  case crystalSecond => exact of_next ht (h.crystalSecond hs)
  case mainsTrip => exact of_next ht (h.mainsTrip hs)
  case retentionLostLatchSet => exact of_next ht (h.quiet (.latchSets s) hs)
  case retentionSupplyLost => exact of_next ht (h.quiet (.supplyLost s) hs)
  case mainsArrival => exact of_next ht (h.mainsArrival hs)
  case resetAssert => exact of_next ht (h.resetAsserts hs)
  case selfTestEnd => exact of_next ht (h.selfTestEnds _ hs)
  case frameArrival => exact of_next ht (h.frameArrival _ _ hs)
  case grantPassageReport =>
    refine of_next ht ?_
    repeat' split
    · exact h.passage _ hs
    · exact hs
    · exact hs
  case redLampExpiry => exact of_next ht (h.redExpiry _ hs)
  case rotationPulse => exact of_next ht (h.rotationPulse _ hs)
  case contactOpening => exact of_next ht (h.contactOpening _ hs)
  case contactClosing => exact of_next ht (h.contactClosing _ hs)
  case releaseExpiry => exact of_next ht (h.releaseExpiry _ hs)
  case heldCountdownExpiry => exact of_next ht (h.heldExpiry _ hs)
  case emergencyAssert => exact of_next ht (h.lineAsserts hs)
  case emergencyRelease => exact of_next ht (h.lineReleases hs)
  case reentryWindowExpiry => exact of_next ht (h.windowExpiry hs)
  case strokeCounterExpiry => exact of_next ht (h.quiet (.zoneExpiry _ s) hs)
  case requestCellWrite => exact of_next ht (h.port (writeRequestCell_quiet _ _ _) hs)
  case faultCellWrite => exact of_next ht (h.port (writeFaultCell_quiet _ _) hs)
  case summaryWrite => exact of_next ht (h.port (fun u => .setPortState _ _ u) hs)
  case rearmCellWrite => exact of_next ht (h.port (fun u => .setPortState _ _ u) hs)
  case portWordWrite => exact of_next ht (h.port (writeWord_quiet _ _ _) hs)
  case engineTurn => exact of_next ht (h.engineTurn hs)
  case linkPointerSet => exact of_next ht (h.onBus (pointerByte_quiet _ s) hs)
  case linkDataWord => exact of_next ht (h.onBus (dataLowByte_quiet _ s) hs)
  case linkReadByte => exact of_next ht (h.onBus (readByte_quiet s) hs)
  case linkTransferEnd => exact of_next ht (h.onBus (f := endTransfer) ⟨rfl, rfl, rfl, rfl, rfl, rfl⟩ hs)
  case readerClockPulse => exact of_next ht (h.clockPulse _ _ hs)
  case linkTransferStart => exact of_next ht (h.onBus (startTransfer_quiet _ _ s) hs)
  case linkLeadByte => exact of_next ht (h.onBus (leadByte_quiet _ s) hs)
  case linkDataHighByte => exact of_next ht (h.onBus (dataHighByte_quiet _ s) hs)
  all_goals exact h.command rfl ht hs

/-- Every step keeps such a law. -/
theorem step (ht : step s = .next t) (hs : P s) : P t := by
  unfold Machine.step at ht
  split at ht
  · exact of_next ht (h.tick hs)
  · exact h.exec ht (h.quiet (.setPending _ s) hs)

end RowLaw

/-- A law of punches is kept row by row. -/
theorem PunchLaw.rowLaw {P : State → Prop} (h : PunchLaw P) : RowLaw P where
  quiet hq := h.alike hq.alike
  run := h.run
  tick := h.tick
  crystalSecond := h.crystalSecond
  mainsTrip := h.trip
  mainsArrival := h.mainsArrival
  resetAsserts := h.resetAsserts
  selfTestEnds := h.selfTestEnds
  frameArrival := h.frameArrival
  clockPulse := h.pulse
  redExpiry := h.redExpiry
  passage := h.passage
  rotationPulse := h.rotationPulse
  contactOpening := h.contactOpening
  contactClosing := h.contactClosing
  releaseExpiry := h.releaseExpiry
  heldExpiry := h.heldExpiry
  lineAsserts := h.lineAsserts
  lineReleases := h.lineReleases
  windowExpiry {s} hs := by
    unfold Machine.windowExpiry
    split
    · exact h.alike (.setGate ..) hs
    · exact hs

/-! ## Starts -/

theorem loseVolatile_lane (l : Lane) (s : State) : (loseVolatile s).lane l = LaneState.empty (s.lane l).config := by
  simp [loseVolatile, State.lane, vget, LaneState.lose]

theorem mainsTrip_lane (l : Lane) (s : State) :
    (mainsTrip s).lane l = if s.time.power = .mainsRun then LaneState.empty (s.lane l).config else s.lane l := by
  unfold mainsTrip
  split
  · exact loseVolatile_lane l s
  · rfl

theorem lapseRecord_lanes (k : StartKind) (s : State) (p : Slot × Record) : (lapseRecord k s p).lanes = s.lanes := by
  unfold lapseRecord
  split
  · simp
  · rfl

/-- What every step of a fold leaves alone, the fold leaves alone. -/
theorem foldl_keeps {α β : Type} {f : State → α → State} (g : State → β) (hf : ∀ s a, g (f s a) = g s) (l : List α) (s : State) :
    g (l.foldl f s) = g s := by
  induction l generalizing s with
  | nil => rfl
  | cons a l ih => rw [List.foldl_cons, ih, hf]

theorem lapseRecord_gate (k : StartKind) (s : State) (p : Slot × Record) : (lapseRecord k s p).gate = s.gate := by
  unfold lapseRecord
  split
  · simp
  · rfl

theorem runStart_lanes (k : StartKind) (w : Bool) (s : State) :
    (runStart k w s).lanes =
      if k = .cold then Vector.replicate 4 (LaneState.empty LaneConfig.cold) else s.lanes.map LaneState.lose := by
  have hfold (u : State) : (stageSelfTest k (stageLapses k u)).lanes = u.lanes :=
    foldl_keeps State.lanes (lapseRecord_lanes k) u.roster.records u
  rw [runStart, hfold]
  cases k <;> simp [stageEntry, stageRetained, stageDecision, reachStage, loseVolatile]

theorem runStart_gate (k : StartKind) (w : Bool) (s : State) :
    (runStart k w s).gate =
      if k = .cold then { s.gate with windowCountdown := 0 }.coldValues else { s.gate with windowCountdown := 0 } := by
  have hfold (u : State) : (stageSelfTest k (stageLapses k u)).gate = u.gate :=
    foldl_keeps State.gate (lapseRecord_gate k) u.roster.records u
  rw [runStart, hfold]
  cases k <;> simp [stageEntry, stageRetained, stageDecision, reachStage, loseVolatile]

/-! ## What the commands on records do -/

/-- LOAD RECORD changes nothing, or configures a record that is not pending, or creates one in the lowest free slot (R33, R34). -/
theorem cmdLoadRecord_cases (b : Buffer) (s : State) :
    (cmdLoadRecord b s).1 = s ∨
      (∃ a, ∃ i : LoadImage, lookup s.roster i.key = .found a ∧ (s.record a).bind Record.pendingLane = none ∧
        (cmdLoadRecord b s).1 = s.modifyRecord a i.configure) ∨
      ∃ a, ∃ i : LoadImage, (∀ x, lookup s.roster i.key ≠ .found x) ∧ lowestFree s.roster = some a ∧
        (cmdLoadRecord b s).1 = s.setRoster (createRecord s.roster a (i.configure (Record.fresh i.key s.pay.period))) := by
  unfold cmdLoadRecord
  dsimp only
  repeat' split
  · exact .inl rfl
  · exact .inl rfl
  · exact .inl rfl
  · next a hl hp => exact .inr (.inl ⟨a, _, hl, by simpa using hp, rfl⟩)
  · exact .inl rfl
  · next hl _ a ha => exact .inr (.inr ⟨a, _, hl, ha, rfl⟩)

/-- DELETE RECORD changes nothing, or removes a record that is OUT and not pending (R37). -/
theorem cmdDeleteRecord_cases (w x y z : Word) (s : State) :
    (cmdDeleteRecord w x y z s).1 = s ∨
      ∃ a r, s.record a = some r ∧ r.pendingLane = none ∧ r.presence ≠ .inside ∧
        (cmdDeleteRecord w x y z s).1 = s.setRoster (removeRecord s.roster a r) := by
  unfold cmdDeleteRecord
  dsimp only
  repeat' split
  case isFalse.isFalse => next hr hp hi => exact .inr ⟨_, _, hr, by simpa using hp, hi, rfl⟩
  all_goals exact .inl rfl

/-- A correction acts on a record found that is not pending (R112). -/
theorem correctable_ok {ref : RecordRef} {s : State} {a : Slot} {r : Record} (h : correctable ref s = .ok (a, r)) :
    s.record a = some r ∧ r.pendingLane = none := by
  unfold correctable at h
  repeat' split at h
  all_goals cases h
  rename_i hp hr
  exact ⟨hr, by simpa using hp⟩

/-- The entry that a correction finds is the record's, which is IN (R112). -/
theorem inEntry_some {a : Slot} {r : Record} {s : State} {e : Attendance} (h : inEntry a r s = some e) :
    r.presence = .inside ∧ e ∈ s.attendance ∧ e.slot = a := by
  unfold inEntry at h
  split at h
  · next hp => exact ⟨hp, List.mem_of_find?_eq_some h, by simpa using List.find?_some h⟩
  · cases h

/-- An attendance entry whose record is not pending and IN: what FORCE OUT and CANCEL act on (R112). -/
def Correctable (s : State) (e : Attendance) (r : Record) : Prop :=
  s.record e.slot = some r ∧ r.pendingLane = none ∧ r.presence = .inside ∧ e ∈ s.attendance

theorem cmdForceOut_cases (o : Port) (w x y z d m n : Word) (s : State) :
    (cmdForceOut o w x y z d m n s).1 = s ∨
      ∃ e r t, Correctable s e r ∧ (cmdForceOut o w x y z d m n s).1 = (forceOutEntry o e t s).1 := by
  unfold cmdForceOut
  repeat' split
  case h_2 =>
    next hc _ e he =>
    obtain ⟨hr, hp⟩ := correctable_ok hc
    obtain ⟨hi, hm, rfl⟩ := inEntry_some he
    exact .inr ⟨e, _, _, ⟨hr, hp, hi, hm⟩, rfl⟩
  all_goals exact .inl rfl

theorem cmdForceIn_cases (o : Port) (w x y z d m n : Word) (s : State) :
    (cmdForceIn o w x y z d m n s).1 = s ∨
      ∃ a r t, s.record a = some r ∧ r.pendingLane = none ∧ r.presence ≠ .inside ∧
        (cmdForceIn o w x y z d m n s).1 = (forceInRecord o a r t s).1 := by
  unfold cmdForceIn
  repeat' split
  case h_2.isFalse =>
    next hc hi =>
    obtain ⟨hr, hp⟩ := correctable_ok hc
    exact .inr ⟨_, _, _, hr, hp, hi, rfl⟩
  all_goals exact .inl rfl

theorem cmdCancel_cases (o : Port) (w x y z : Word) (s : State) :
    (cmdCancel o w x y z s).1 = s ∨ ∃ e r, Correctable s e r ∧ (cmdCancel o w x y z s).1 = (cancelEntry o e s).1 := by
  unfold cmdCancel
  repeat' split
  case h_2 =>
    next hc _ e he =>
    obtain ⟨hr, hp⟩ := correctable_ok hc
    obtain ⟨hi, hm, rfl⟩ := inEntry_some he
    exact .inr ⟨e, _, ⟨hr, hp, hi, hm⟩, rfl⟩
  all_goals exact .inl rfl

/-! ## The lane law -/

theorem LaneLaw.empty (c : LaneConfig) : LaneLaw (LaneState.empty c) := by simp [LaneLaw, LaneState.empty]

/-- A lane whose assembly and context stay. -/
theorem LaneLaw.of_same {u v : LaneState} (h : LaneLaw u) (hb : v.bits = u.bits) (hg : v.gap = u.gap)
    (hp : v.pending = u.pending) (hw : v.waiting = u.waiting) : LaneLaw v := by
  unfold LaneLaw at *
  rw [hb, hg, hp, hw]; exact h

/-- The lane law is a law of punches: each operation keeps every lane's assembly and context in shape. -/
theorem lanesLaw_punchLaw : PunchLaw LanesLaw where
  alike ha h := h.of_lanes ha.lanes
  lamps {s} h l := by
    have : (tickLamps s).lane l = { s.lane l with red := (s.lane l).red - 1 } := by simp [tickLamps, State.lane, vget]
    rw [this]
    exact (h l).of_same rfl rfl rfl rfl
  red l h := h.at fun hl => hl.of_same rfl rfl rfl rfl
  gap {s} l hg h := h.at fun ⟨hbits, hgap, hruns, hwait⟩ =>
    ⟨hbits, by dsimp only; omega, ⟨fun _ => hruns.mp (by omega), fun _ => by dsimp only; omega⟩, hwait⟩
  pulse l b h := h.clockPulse l b
  frame l h := h.gapExpiry l
  passage l h := h.reportPassage l
  lapse l h := h.reportLapse l
  emergency l h := h.emergencyLapse l
  musters h := h.of_lanes rfl
  sweep t h := h.of_lanes (by simp)
  configure l c clears h := h.at fun ⟨hbits, hgap, hruns, hwait⟩ => by
    cases clears
    · exact ⟨hbits, hgap, hruns, hwait⟩
    · exact ⟨by simp [LaneState.reconfigured], by simp [LaneState.reconfigured], by simp [LaneState.reconfigured], hwait⟩
  trip h l := by
    rw [mainsTrip_lane]
    split
    · exact .empty _
    · exact h l
  start {s} k w h l := by
    rw [State.lane, runStart_lanes]
    split
    · simpa [vget] using LaneLaw.empty LaneConfig.cold
    · simpa [vget, LaneState.lose] using LaneLaw.empty (vget s.lanes l).config
  ready h _ := h.of_lanes rfl
  load {s} b h := by
    rcases cmdLoadRecord_cases b s with hs | ⟨_, _, -, -, hs⟩ | ⟨_, _, -, -, hs⟩ <;> rw [hs] <;> exact h.of_lanes (by simp)
  read a h := h.of_lanes (by simp)
  delete {s} w a b c h := by
    rcases cmdDeleteRecord_cases w a b c s with hs | ⟨_, _, -, -, -, hs⟩ <;> rw [hs] <;> exact h.of_lanes (by simp)
  forceOut {s} o w a b c d m n h := by
    rcases cmdForceOut_cases o w a b c d m n s with hs | ⟨_, _, _, -, hs⟩ <;> rw [hs]
    · exact h
    · exact h.of_lanes (by simp [forceOutEntry])
  forceIn {s} o w a b c d m n h := by
    rcases cmdForceIn_cases o w a b c d m n s with hs | ⟨_, _, _, -, -, -, hs⟩ <;> rw [hs]
    · exact h
    · refine h.of_lanes ?_
      simp only [forceInRecord]
      split <;> simp
  cancel {s} o w a b c h := by
    rcases cmdCancel_cases o w a b c s with hs | ⟨_, _, -, hs⟩ <;> rw [hs]
    · exact h
    · exact h.of_lanes (by simp [cancelEntry])

end Sys2Proof.Machine
end

section
/-! PROOFS. The lockdown law at every row (R118), and the settlement of O58. -/

namespace Sys2Proof.Machine

theorem startNotices_gate (k : StartKind) (s : State) : (startNotices k s).gate = s.gate := by
  unfold startNotices
  dsimp only
  split <;> split <;> simp

namespace LockdownLaw
variable {s : State} (h : LockdownLaw s)
include h

/-- A door whose state and emergency mark stay. -/
theorem setSame {l : Lane} {v : Door} (hs : v.status = (s.door l).status) (hf : v.freed = (s.door l).freed) :
    LockdownLaw (s.setDoor l v) := h.setDoor fun hd => hd.of_same hs hf

/-- A door put to a state that is not RELEASED; where the emergency has freed it, to FREE. -/
theorem setStatus {l : Lane} {v : Door} (hs : v.status ≠ .released) (hf : v.freed = true → v.status = .free) :
    LockdownLaw (s.setDoor l v) := h.setDoor fun _ => .of_status hs hf

/-- A door that the emergency has not freed, put to a state that is not RELEASED. -/
theorem setNotFreed {l : Lane} {v : Door} (hn : (s.door l).freed = false) (hf : v.freed = (s.door l).freed)
    (hs : v.status ≠ .released) : LockdownLaw (s.setDoor l v) := h.setStatus hs (by simp [hf, hn])

/-- A door that is not FREE has not been freed. -/
theorem not_freed {l : Lane} (hs : (s.door l).status ≠ .free) : (s.door l).freed = false :=
  (lockdownLaw_iff s |>.mp h l).freed_eq_false hs

theorem setRest {l : Lane} {d : DoorStatus} (hs : (s.door l).status ≠ .free) (hd : d ≠ .released) :
    LockdownLaw (s.setDoor l ((s.door l).rest d)) := h.setNotFreed (h.not_freed hs) rfl hd

theorem setPassing {l : Lane} (c : LaneConfig) (hs : (s.door l).status ≠ .free) :
    LockdownLaw (s.setDoor l ((s.door l).toPassing c)) :=
  h.setStatus (by simp [Door.toPassing]) fun hf => absurd (hf.symm.trans (h.not_freed hs)) (by decide)

omit h in
theorem foldl {α : Type} {f : State → α → State} (hf : ∀ {s} a, LockdownLaw s → LockdownLaw (f s a)) (l : List α)
    (h : LockdownLaw s) : LockdownLaw (l.foldl f s) := by
  induction l generalizing s with
  | nil => exact h
  | cons a l ih => exact ih (hf a h)

theorem lockDoor {l : Lane} (hn : (s.door l).freed = false) : LockdownLaw (lockDoor l s) :=
  h.setNotFreed hn (Door.toLocked_freed _ _) (Door.toLocked_status _ _)

theorem forcedPassage (l : Lane) : LockdownLaw (forcedPassage l s) := by
  unfold Machine.forcedPassage
  split
  · exact h.of_gate (by simp)
  · exact LockdownLaw.of_gate (s := s.setDoor l { s.door l with forced := true }) (h.setSame rfl rfl) (by simp)

theorem heldAlarm (l : Lane) : LockdownLaw (heldAlarm l s) := by
  have h0 : LockdownLaw (s.setDoor l { s.door l with heldCount := 0 }) := h.setSame rfl rfl
  unfold Machine.heldAlarm
  dsimp only
  split
  · exact h0.of_gate (by simp)
  · have h1 (b : Bool) := h0.setSame (l := l)
      (v := { (s.setDoor l { s.door l with heldCount := 0 }).door l with held := true, heldBell := b }) rfl rfl
    exact (h1 _).of_gate ((raiseBoth_gate ..).trans ((alarmRequest_gate ..).trans (appendEntry_gate ..)))

theorem rotationPulse (l : Lane) : LockdownLaw (rotationPulse l s) := by
  unfold Machine.rotationPulse
  split
  · split
    · next hs => exact (h.setRest (hs.trans_ne (by decide)) (by decide)).reportPassage l
    · exact h.forcedPassage l
    · exact h.forcedPassage l
    · exact h
    · exact h
  · exact h

theorem setContact (l : Lane) (b : Bool) :
    LockdownLaw ((setContactPin l b s).setDoor l { (setContactPin l b s).door l with contactOpen := b }) :=
  LockdownLaw.setSame (h.of_gate (t := setContactPin l b s) rfl) rfl rfl

theorem contactOpening (l : Lane) : LockdownLaw (contactOpening l s) := by
  have h0 : LockdownLaw (setContactPin l true s) := h.of_gate rfl
  have h1 := h.setContact l true
  unfold Machine.contactOpening
  dsimp only
  split
  · split
    · next hs => exact (h1.setPassing _ (hs.trans_ne (by decide))).reportPassage l
    · exact h1.forcedPassage l
    · exact h1.forcedPassage l
    · exact h1
    · exact h1
  · exact h0

theorem contactClosing (l : Lane) : LockdownLaw (contactClosing l s) := by
  have h0 : LockdownLaw (setContactPin l false s) := h.of_gate rfl
  have h1 := h.setContact l false
  unfold Machine.contactClosing
  dsimp only
  split
  · split
    · next hs =>
      have hn := h1.not_freed (hs.trans_ne (by decide))
      exact h1.restDoor l (by decide) fun hf => nomatch hn.symm.trans hf
    · exact h1
  · exact h0

theorem releaseExpiry (l : Lane) : LockdownLaw (releaseExpiry l s) := by
  unfold Machine.releaseExpiry
  split
  · next hs =>
    simp only [Bool.and_eq_true, decide_eq_true_eq] at hs
    exact (h.setRest (hs.1.2.trans_ne (by decide)) (by decide)).reportLapse l
  · exact h

theorem heldExpiry (l : Lane) : LockdownLaw (heldExpiry l s) := by
  unfold Machine.heldExpiry
  split
  · exact h.heldAlarm l
  · exact h

theorem tickLane (l : Lane) : LockdownLaw (tickLane s l) := by
  have h1 : LockdownLaw (tickRelease l s) := by
    unfold tickRelease
    split
    · exact h.setSame rfl rfl
    · exact h.releaseExpiry l
  have h2 : LockdownLaw (tickHeld l (tickRelease l s)) := by
    unfold tickHeld
    split
    · exact h1.setSame rfl rfl
    · exact h1.heldExpiry l
  unfold Machine.tickLane tickGap
  split
  · exact h2
  · exact h2.gapExpiry l

theorem tick : LockdownLaw (tick s) := by
  unfold Machine.tick
  split
  · exact LockdownLaw.foldl (fun l hl => hl.tickLane l) allLanes (h.of_gate rfl)
  · exact h

theorem minuteEvent : LockdownLaw (minuteEvent s) := by
  unfold Machine.minuteEvent
  split
  · exact h
  · exact h.of_gate (by simp)

theorem crystalSecond : LockdownLaw (crystalSecond s) := by
  unfold Machine.crystalSecond
  split
  · exact h
  · exact h
  · dsimp only
    split
    · have h1 : LockdownLaw (lowerWindow (writeMirror (s.setTime s.time.advance.1))) := h.of_doors rfl rfl
      unfold secondEvent
      dsimp only
      split
      · exact h1.minuteEvent
      · exact h1
    · exact h

theorem emergencyFree (l : Lane) : LockdownLaw (emergencyFree l s) := by
  unfold Machine.emergencyFree
  split
  · refine (h.restDoor l (by decide) fun _ => rfl).setStatus ?_ fun _ => ?_
    · simp [restDoor_door]
    · simp [restDoor_door]
  · exact h

theorem emergencyReturn (l : Lane) : LockdownLaw (emergencyReturn l s) := by
  unfold Machine.emergencyReturn
  split
  · next hf =>
    have h1 : LockdownLaw (s.setDoor l { s.door l with freed := false }) :=
      h.setDoor fun hd => ⟨hd.1, by simp⟩
    have hn : ((s.setDoor l { s.door l with freed := false }).door l).freed = false := by simp
    dsimp only
    repeat' split
    · exact h1.setNotFreed hn rfl (by simp [Door.rest])
    · exact h1.setNotFreed hn rfl (by simp [Door.rest])
    · exact h1.lockDoor hn
  · exact h

theorem assertEmergency : LockdownLaw (assertEmergency s) := by
  have h1 : LockdownLaw (s.setGate { s.gate with emergency := true, windowCountdown := 0 }) := h.of_doors rfl rfl
  have h2 := h1.of_gate (modifyAllRecords_gate (fun r => { r with muster := false }) _)
  have h3 := h2.of_gate (appendEntry_gate (plainBody .emergencyOn s.time.clock) _)
  have h4 := LockdownLaw.foldl (fun l hl => hl.of_gate (emergencyLapse_gate l _)) allLanes h3
  have h5 := LockdownLaw.foldl (fun l hl => hl.emergencyFree l) allLanes h4
  exact (h5.of_gate (beginEvacuation_gate _)).of_gate (raiseBoth_gate ..)

theorem releaseEmergency : LockdownLaw (releaseEmergency s) := by
  have h1 : LockdownLaw (s.setGate { s.gate with emergency := false }) := h.of_doors rfl rfl
  exact (LockdownLaw.foldl (fun l hl => hl.emergencyReturn l) allLanes h1).of_doors (by simp [Machine.releaseEmergency])
    (by simp [Machine.releaseEmergency])

theorem continueEmergency : LockdownLaw (continueEmergency s) :=
  (LockdownLaw.foldl (fun l hl => hl.emergencyFree l) allLanes h).of_gate (by simp [Machine.continueEmergency])

theorem reconcileEmergency : LockdownLaw (reconcileEmergency s) := by
  unfold Machine.reconcileEmergency
  split
  · exact h.assertEmergency
  · exact h.continueEmergency
  · exact h.releaseEmergency
  · exact h

theorem setUpDoor (l : Lane) : LockdownLaw (setUpDoor l s) := by
  unfold Machine.setUpDoor
  dsimp only
  split
  · exact h.setStatus (by simp [Door.rest]) (by simp [Door.rest])
  · exact h.setStatus (Door.toLocked_status _ _) (by simp [Door.toLocked_freed])

theorem selfTestEnds (b : Bool) : LockdownLaw (selfTestEnds b s) := by
  unfold Machine.selfTestEnds
  split
  · next p _ =>
    split
    · have h1 : LockdownLaw (((s.setTime { s.time with start := none, selfTest := if b then .passed else .failed }).setMemory
          []).setControl { s.control with clockMirror := s.time.clock, presentMirror := s.attendance.length }) := h.of_gate rfl
      have h2 := LockdownLaw.foldl (fun l hl => hl.setUpDoor l) allLanes h1
      exact (h2.reconcileEmergency.of_gate (startNotices_gate p.kind _)).of_gate (examineBoth_gate _)
    · exact h
  · exact h

theorem mainsTrip : LockdownLaw (mainsTrip s) := by
  unfold Machine.mainsTrip
  split
  · refine (lockdownLaw_iff _).mpr fun l => .of_status ?_ ?_ <;>
      simp [State.door, vget, Door.lose, Door.cold]
  · exact h

theorem runStart (k : StartKind) (w : Bool) : LockdownLaw (runStart k w s) := by
  have hd (l : Lane) := (lockdownLaw_iff s).mp h l
  refine (lockdownLaw_iff _).mpr fun l => ?_
  rw [State.door, runStart_gate]
  split
  · exact ⟨by simp [Gate.coldValues], by simpa [Gate.coldValues, State.door, vget] using (hd l).2⟩
  · exact hd l

theorem mainsArrival : LockdownLaw (mainsArrival s) := by
  unfold Machine.mainsArrival
  repeat' split
  · exact h
  all_goals exact h.runStart _ _

theorem resetAsserts : LockdownLaw (resetAsserts s) := by
  unfold Machine.resetAsserts
  split
  · exact h.runStart _ _
  · exact h

/-! ## Commands -/

theorem setMode (l : Lane) (m : DoorMode) : LockdownLaw (s.setDoor l { s.door l with mode := m }) := h.setSame rfl rfl

theorem freeByMode (l : Lane) : LockdownLaw (freeByMode l s) := by
  have h1 := h.setMode l .free
  unfold Machine.freeByMode
  dsimp only
  split
  · exact h1
  · exact h1
  · exact (h1.restDoor l (by decide) fun _ => rfl).reportPassage l

theorem normalByMode (l : Lane) : LockdownLaw (normalByMode l s) := by
  have h1 := h.setMode l .normal
  unfold Machine.normalByMode
  dsimp only
  split
  · next hs => exact h1.lockDoor hs.2
  · exact h1

theorem leaveLockdown (l : Lane) : LockdownLaw (leaveLockdown l s) := by
  unfold Machine.leaveLockdown
  split
  · next hs =>
    split
    · exact h.setRest (hs.trans_ne (by decide)) (by decide)
    · exact h.lockDoor (h.not_freed (hs.trans_ne (by decide)))
  · exact h

theorem setLane (l : Lane) (v : LaneState) : LockdownLaw (s.setLane l v) := h.of_gate rfl

theorem adaptSensor (l : Lane) (a b : Sensor) : LockdownLaw (adaptSensor l a b s) := by
  unfold Machine.adaptSensor
  split
  · next hs =>
    exact h.restDoor l (by decide) fun hf => absurd (hf.symm.trans (h.not_freed (hs.2.2.trans_ne (by decide)))) (by decide)
  · split
    · exact h.setSame rfl rfl
    · exact h

end LockdownLaw

/-- LOCKDOWN part of the way: the flag set, the lanes still to be put in LOCKDOWN aside (R128). -/
structure LockingDown (rest : List Lane) (s : State) : Prop where
  flag : s.gate.lockdown = true
  doors : ∀ l, l ∉ rest → (s.door l).status ≠ .released
  freed : ∀ l, (s.door l).freed = true → (s.door l).status = .free

theorem LockingDown.of_gate {rest : List Lane} {s t : State} (h : LockingDown rest s) (hg : t.gate = s.gate) :
    LockingDown rest t := by
  obtain ⟨hf, hd, hr⟩ := h
  exact ⟨by rw [hg, hf], fun l => by rw [State.door, hg]; exact hd l, fun l => by rw [State.door, hg]; exact hr l⟩

/-- A lane put in LOCKDOWN: in lockdown its waiting read is granted nothing (log 34). -/
theorem LockingDown.lane {l : Lane} {rest : List Lane} {s : State} (h : LockingDown (l :: rest) s) :
    LockingDown rest (lockDownLane l s) := by
  unfold lockDownLane
  split
  · next hf =>
    refine ⟨h.flag, fun m hm => ?_, h.freed⟩
    by_cases he : m = l
    · rw [he, h.freed l hf]; decide
    · exact h.doors m (by simp [he, hm])
  · next hf =>
    have h1 : LockingDown rest (restDoor l .lockdown s) := by
      refine ⟨by rw [restDoor_lockdown, h.flag], fun m hm => ?_, fun m => ?_⟩ <;> rw [restDoor_door] <;> split
      · simp
      · next he => exact h.doors m (by simp [he, hm])
      · next he => exact fun hc => absurd hc hf
      · exact h.freed m
    rcases reportLapse_gate l (restDoor l .lockdown s) with hg | ⟨hl, -⟩
    · exact h1.of_gate hg
    · exact absurd (hl.symm.trans h1.flag) (by decide)

theorem LockingDown.foldl {rest : List Lane} {s : State} (h : LockingDown rest s) :
    LockingDown [] (rest.foldl (fun acc l => lockDownLane l acc) s) := by
  induction rest generalizing s with
  | nil => exact h
  | cons l rest ih => exact ih h.lane

namespace LockdownLaw
variable {s : State} (h : LockdownLaw s)
include h

theorem lockdown (o : Port) : LockdownLaw (cmdLockdown o s).1 := by
  unfold cmdLockdown
  split
  · exact h
  · have h1 : LockingDown allLanes (appendEntry (commandBody .lockdownOn o none s) (s.setGate { s.gate with lockdown := true })) :=
      LockingDown.of_gate (s := s.setGate { s.gate with lockdown := true })
        ⟨rfl, fun l hl => absurd (List.mem_finRange l) hl, h.2⟩ (appendEntry_gate ..)
    have h2 := h1.foldl
    dsimp only
    exact ⟨fun _ l => h2.doors l List.not_mem_nil, h2.freed⟩

theorem clearLockdown (o : Port) : LockdownLaw (cmdClearLockdown o s).1 := by
  unfold cmdClearLockdown
  split
  · exact h
  · have h1 : LockdownLaw (s.setGate { s.gate with lockdown := false }) := ⟨fun hf => by simp at hf, h.2⟩
    have h2 := h1.of_gate (appendEntry_gate (commandBody .lockdownOff o none s) _)
    dsimp only
    exact LockdownLaw.foldl (fun l hl => hl.leaveLockdown l) allLanes h2

/-- Every command keeps the lockdown law. -/
theorem run (c : Command) (o : Port) (op : Operands) (b : Buffer) : LockdownLaw (c.run o op b s).1 := by
  by_cases hq : c.quiet = true
  · exact h.of_gate (Command.run_quiet hq o op b s).gate
  cases c <;> simp only [Command.quiet, not_true_eq_false] at hq <;> simp only [Command.run]
  case setClock =>
    unfold cmdSetClock
    split
    · exact h
    · have h1 := h.of_gate (State.setTime_gate s (s.time.set ⟨(op 0).toNat, (op 1).toNat, (op 2).toNat⟩ (op 3).toNat))
      dsimp only
      exact minuteEvent (of_gate (h1.of_gate (appendEntry_gate ..)) rfl)
  case loadRecord =>
    rcases cmdLoadRecord_cases b s with hs | ⟨_, _, -, -, hs⟩ | ⟨_, _, -, -, hs⟩ <;> rw [hs] <;> exact h.of_gate (by simp)
  case readRecord =>
    unfold cmdReadRecord; dsimp only; repeat' split
    all_goals exact h
  case deleteRecord =>
    rcases cmdDeleteRecord_cases (op 0) (op 1) (op 2) (op 3) s with hs | ⟨_, _, -, -, -, hs⟩ <;> rw [hs] <;> exact h
  case writeLane =>
    unfold cmdWriteLane; dsimp only; repeat' split
    · exact h
    · exact h
    · unfold configureLane
      dsimp only
      exact (h.setLane _ _).adaptSensor _ _ _
  case readTotals =>
    unfold cmdReadTotals; dsimp only; repeat' split
    all_goals exact h
  case correctPresence =>
    unfold runCorrection
    repeat' split
    · rcases cmdForceOut_cases o (op 1) (op 2) (op 3) (op 4) (op 5) (op 6) (op 7) s with hs | ⟨_, _, _, -, hs⟩ <;> rw [hs]
      · exact h
      · exact h.of_gate (by simp [forceOutEntry])
    · rcases cmdForceIn_cases o (op 1) (op 2) (op 3) (op 4) (op 5) (op 6) (op 7) s with hs | ⟨_, _, _, -, -, -, hs⟩ <;> rw [hs]
      · exact h
      · refine h.of_gate ?_
        simp only [forceInRecord]
        split <;> simp
    · rcases cmdCancel_cases o (op 1) (op 2) (op 3) (op 4) s with hs | ⟨_, _, -, hs⟩ <;> rw [hs]
      · exact h
      · exact h.of_gate (by simp [cancelEntry])
    · exact h
  case releaseDoor =>
    unfold cmdReleaseDoor; dsimp only; repeat' split
    · exact h
    · exact h
    · exact h
    · next hl _ => exact (h.doorGrant (by simpa using hl) _).of_gate (appendEntry_gate ..)
  case setDoorMode =>
    unfold cmdSetDoorMode; dsimp only; repeat' split
    · exact h
    · exact h.freeByMode _
    · exact h.normalByMode _
  case lockdown => exact h.lockdown o
  case clearLockdown => exact h.clearLockdown o
  case resetAlarm =>
    unfold cmdResetAlarm
    split
    · exact h
    · have h1 := h.setSame (l := finOf 4 (op 0)) (v := { s.door (finOf 4 (op 0)) with forced := false, held := false }) rfl rfl
      dsimp only
      exact h1.of_gate (appendEntry_gate ..)
  case setReentryWindow =>
    unfold cmdSetReentryWindow
    split
    · exact h
    · exact h.of_doors rfl rfl

end LockdownLaw

theorem lockdownLaw_rowLaw : RowLaw LockdownLaw where
  quiet hq h := h.of_gate hq.gate
  run c o op b h := h.run c o op b
  tick h := h.tick
  crystalSecond h := h.crystalSecond
  mainsTrip h := h.mainsTrip
  mainsArrival h := h.mainsArrival
  resetAsserts h := h.resetAsserts
  selfTestEnds b h := h.selfTestEnds b
  frameArrival l e h := h.frameArrival l e
  clockPulse l b h := h.clockPulse l b
  redExpiry l h := by
    unfold redExpiry
    split <;> exact h
  passage l h := h.reportPassage l
  rotationPulse l h := h.rotationPulse l
  contactOpening l h := h.contactOpening l
  contactClosing l h := h.contactClosing l
  releaseExpiry l h := h.releaseExpiry l
  heldExpiry l h := h.heldExpiry l
  lineAsserts {s} h := by
    have h1 : LockdownLaw (s.setPins { s.pins with emergencyLine := true }) := h.of_gate rfl
    unfold lineAsserts
    dsimp only
    split
    · exact h1.assertEmergency
    · exact h1
  lineReleases {s} h := by
    have h1 : LockdownLaw (s.setPins { s.pins with emergencyLine := false }) := h.of_gate rfl
    unfold lineReleases
    dsimp only
    split
    · exact h1.releaseEmergency
    · exact h1
  windowExpiry h := by
    unfold windowExpiry
    split
    · exact h.of_doors rfl rfl
    · exact h

/-- Settles O58: the lane law is a law of punches, and the lockdown law is kept row by row. -/
theorem stepKeepsLanesAndDoors : Obligations.StepKeepsLanesAndDoors := by
  intro s t hlanes hdoors ht
  exact ⟨lanesLaw_punchLaw.rowLaw.step ht hlanes, lockdownLaw_rowLaw.step ht hdoors⟩

end Sys2Proof.Machine
end

section
/-! PROOFS. The roster store by itself: records edited, created and removed (R22–R26, R34, R37), and the totals' limits (R98). -/

namespace Sys2Proof.Machine

/-! ## Records edited in place -/

/-- An edit of records that keeps slots and keys keeps the roster law. -/
theorem RosterLaw.map {r : Roster} (h : RosterLaw r) {g : Slot × Record → Slot × Record} (hs : ∀ p, (g p).1 = p.1)
    (hk : ∀ p, (g p).2.key = p.2.key) : RosterLaw { r with records := r.records.map g } where
  slots := by simpa [List.pairwise_map, hs] using h.slots
  keys := h.keys
  indexed a rec hm := by
    obtain ⟨p, hp, hg⟩ := List.mem_map.mp hm
    have hi := h.indexed p.1 p.2 hp
    rw [← hs p, ← hk p, hg] at hi
    exact hi
  backed e he := by
    obtain ⟨rec, hm, hkey⟩ := h.backed e he
    refine ⟨(g (e.slot, rec)).2, List.mem_map.mpr ⟨_, hm, ?_⟩, (hk _).trans hkey⟩
    exact Prod.ext (hs _) rfl
  census site := by
    rw [h.census site, siteCount, siteCount, List.filter_map, List.length_map]
    simp only [Function.comp_def, hk]
  occupied := by rw [List.length_map]; exact h.occupied

theorem RosterLaw.modifyRecord {s : State} (h : RosterLaw s.roster) (a : Slot) {f : Record → Record} (hk : ∀ r, (f r).key = r.key) :
    RosterLaw (s.modifyRecord a f).roster :=
  h.map (fun p => by split <;> rfl) fun p => by split <;> simp [hk]

theorem RosterLaw.modifyAllRecords {s : State} (h : RosterLaw s.roster) {f : Record → Record} (hk : ∀ r, (f r).key = r.key) :
    RosterLaw (s.modifyAllRecords f).roster :=
  h.map (fun _ => rfl) fun p => hk p.2

/-! ## Creation (R26, R34) -/

theorem insertRecord_perm (a : Slot) (rec : Record) (l : List (Slot × Record)) : (insertRecord a rec l).Perm ((a, rec) :: l) := by
  induction l with
  | nil => exact .refl _
  | cons p l ih =>
    unfold insertRecord
    split
    · exact .refl _
    · exact (List.Perm.cons p ih).trans (.swap ..)

theorem insertIndex_perm (e : IndexEntry) (l : List IndexEntry) : (insertIndex e l).Perm (e :: l) := by
  induction l with
  | nil => exact .refl _
  | cons x l ih =>
    unfold insertIndex
    split
    · exact .refl _
    · exact (List.Perm.cons x ih).trans (.swap ..)

/-- A record inserted at a slot that none holds keeps the slot order. -/
theorem insertRecord_pairwise {a : Slot} {rec : Record} {l : List (Slot × Record)} (hl : l.Pairwise (fun p q => p.1 < q.1))
    (ha : ∀ p ∈ l, p.1 ≠ a) : (insertRecord a rec l).Pairwise (fun p q => p.1 < q.1) := by
  induction l with
  | nil => simp [insertRecord]
  | cons p l ih =>
    rw [List.pairwise_cons] at hl
    unfold insertRecord
    split
    · next hlt =>
      refine List.pairwise_cons.mpr ⟨fun q hq => ?_, List.pairwise_cons.mpr hl⟩
      rcases List.mem_cons.mp hq with rfl | hq
      · exact hlt
      · exact hlt.trans (hl.1 q hq)
    · next hlt =>
      refine List.pairwise_cons.mpr ⟨fun q hq => ?_, ih hl.2 fun q hq => ha q (List.mem_cons_of_mem _ hq)⟩
      rcases List.mem_cons.mp ((insertRecord_perm a rec l).mem_iff.mp hq) with rfl | hq
      · exact lt_of_le_of_ne (not_lt.mp hlt) (ha p List.mem_cons_self)
      · exact hl.1 q hq

/-- An index entry inserted of a key that none holds keeps the key order. -/
theorem insertIndex_pairwise {e : IndexEntry} {l : List IndexEntry} (hl : l.Pairwise (fun x y => x.key.rank < y.key.rank))
    (he : ∀ x ∈ l, x.key ≠ e.key) : (insertIndex e l).Pairwise (fun x y => x.key.rank < y.key.rank) := by
  induction l with
  | nil => simp [insertIndex]
  | cons x l ih =>
    rw [List.pairwise_cons] at hl
    unfold insertIndex
    split
    · next hlt =>
      refine List.pairwise_cons.mpr ⟨fun y hy => ?_, List.pairwise_cons.mpr hl⟩
      rcases List.mem_cons.mp hy with rfl | hy
      · exact hlt
      · exact hlt.trans (hl.1 y hy)
    · next hlt =>
      refine List.pairwise_cons.mpr ⟨fun y hy => ?_, ih hl.2 fun y hy => he y (List.mem_cons_of_mem _ hy)⟩
      rcases List.mem_cons.mp ((insertIndex_perm e l).mem_iff.mp hy) with rfl | hy
      · exact lt_of_le_of_ne (not_lt.mp hlt) fun hr => he x List.mem_cons_self (Key.rank_inj hr)
      · exact hl.1 y hy

/-- The slot holds no record exactly when the list names it nowhere. -/
theorem recordAt_eq_none_iff {l : List (Slot × Record)} {a : Slot} : recordAt l a = none ↔ ∀ p ∈ l, p.1 ≠ a := by
  induction l with
  | nil => simp [recordAt]
  | cons p l ih =>
    obtain ⟨b, r⟩ := p
    by_cases hb : a = b
    · simp [recordAt, hb]
    · simp [recordAt, hb, ih, eq_comm]

theorem siteCount_cons (p : Slot × Record) (l : List (Slot × Record)) (site : Fin 64) :
    siteCount (p :: l) site = siteCount l site + if site = siteNumber p.2.key then 1 else 0 := by
  by_cases h : siteNumber p.2.key = site
  · simp [siteCount, h]
  · simp [siteCount, Ne.symm h, eq_comm]

theorem siteCount_perm {l m : List (Slot × Record)} (h : l.Perm m) (site : Fin 64) : siteCount l site = siteCount m site :=
  (h.filter _).length_eq

/-- A record created in a free slot, of a key that no record has, keeps the roster law. -/
theorem RosterLaw.createRecord {r : Roster} (h : RosterLaw r) {a : Slot} {rec : Record} (ha : recordAt r.records a = none)
    (hk : ∀ e ∈ r.index, e.key ≠ rec.key) : RosterLaw (createRecord r a rec) where
  slots := insertRecord_pairwise h.slots (recordAt_eq_none_iff.mp ha)
  keys := insertIndex_pairwise h.keys hk
  indexed b q hm := by
    refine (insertIndex_perm _ _).mem_iff.mpr (List.mem_cons.mpr ?_)
    rcases List.mem_cons.mp ((insertRecord_perm a rec r.records).mem_iff.mp hm) with he | hm
    · cases he; exact .inl rfl
    · exact .inr (h.indexed b q hm)
  backed e he := by
    have hmem (q) : (e.slot, q) ∈ insertRecord a rec r.records ↔ _ := (insertRecord_perm a rec r.records).mem_iff
    rcases List.mem_cons.mp ((insertIndex_perm _ _).mem_iff.mp he) with rfl | he
    · exact ⟨rec, (hmem rec).mpr List.mem_cons_self, rfl⟩
    · obtain ⟨q, hq, hkey⟩ := h.backed e he
      exact ⟨q, (hmem q).mpr (List.mem_cons_of_mem _ hq), hkey⟩
  census site := by
    simp only [Machine.createRecord]
    rw [siteCount_perm (insertRecord_perm a rec r.records), siteCount_cons, ← h.census site]
    simp only [vget_vset]
    split
    · next hs => rw [hs]
    · rfl
  occupied := by
    simp only [Machine.createRecord]
    rw [(insertRecord_perm a rec r.records).length_eq, List.length_cons, ← h.occupied]

/-- What a lookup that finds nothing tells of the index. -/
theorem not_mem_of_lookup {r : Roster} {k : Key} (h : ∀ a, lookup r k ≠ .found a) : ∀ e ∈ r.index, e.key ≠ k := by
  intro e he hk
  unfold lookup at h
  cases hf : r.index.find? (fun e => decide (e.key = k)) with
  | none => exact absurd hk (by simpa using List.find?_eq_none.mp hf e he)
  | some x => exact h x.slot (by rw [hf])

/-- The lowest number from n on that the ascending list leaves free: none from n to it is free (R26). -/
theorem lowestFreeFrom_spec {l : List (Slot × Record)} {n : Nat} (hl : l.Pairwise (fun p q => p.1 < q.1))
    (hn : ∀ p ∈ l, n ≤ p.1.val) :
    n ≤ lowestFreeFrom l n ∧ (∀ p ∈ l, p.1.val ≠ lowestFreeFrom l n) ∧
      ∀ m, n ≤ m → m < lowestFreeFrom l n → ∃ p ∈ l, p.1.val = m := by
  induction l generalizing n with
  | nil => exact ⟨le_refl n, by simp, fun m hm hlt => absurd hlt (by simp [lowestFreeFrom]; omega)⟩
  | cons p l ih =>
    obtain ⟨b, r⟩ := p
    rw [List.pairwise_cons] at hl
    have hb : n ≤ b.val := hn _ List.mem_cons_self
    have hlt (q) (hq : q ∈ l) : b.val < q.1.val := hl.1 q hq
    unfold lowestFreeFrom
    split
    · next he =>
      obtain ⟨h1, h2, h3⟩ := ih (n := n + 1) hl.2 fun q hq => by have := hlt q hq; omega
      refine ⟨by omega, fun q hq => ?_, fun m hm hlt => ?_⟩
      · rcases List.mem_cons.mp hq with rfl | hq
        · dsimp only; omega
        · exact h2 q hq
      · by_cases hmn : m = n
        · exact ⟨_, List.mem_cons_self, by dsimp only; omega⟩
        · obtain ⟨q, hq, hv⟩ := h3 m (by omega) hlt
          exact ⟨q, List.mem_cons_of_mem _ hq, hv⟩
    · next he =>
      refine ⟨le_refl n, fun q hq => ?_, fun m hm hlt => by omega⟩
      rcases List.mem_cons.mp hq with rfl | hq
      · exact he
      · have := hlt q hq; omega

/-- The lowest free slot is free (R26). -/
theorem lowestFree_free {r : Roster} (h : RosterLaw r) {a : Slot} (ha : lowestFree r = some a) : recordAt r.records a = none := by
  unfold lowestFree at ha
  dsimp only at ha
  split at ha
  · obtain rfl := Option.some.inj ha
    refine recordAt_eq_none_iff.mpr fun p hp he => ?_
    exact (lowestFreeFrom_spec h.slots fun _ _ => Nat.zero_le _).2.1 p hp (congrArg Fin.val he)
  · cases ha

/-! ## Removal (R37) -/

/-- The list without a slot's record, and the record. -/
theorem perm_cons_filter {l : List (Slot × Record)} {a : Slot} {rec : Record} (hl : l.Pairwise (fun p q => p.1 < q.1))
    (ha : recordAt l a = some rec) : l.Perm ((a, rec) :: l.filter (fun p => decide (p.1 ≠ a))) := by
  induction l with
  | nil => simp [recordAt] at ha
  | cons p l ih =>
    obtain ⟨b, r⟩ := p
    rw [List.pairwise_cons] at hl
    by_cases hb : a = b
    · subst hb
      obtain rfl : r = rec := by simpa [recordAt] using ha
      have hrest : l.filter (fun p => decide (p.1 ≠ a)) = l :=
        List.filter_eq_self.mpr fun q hq => decide_eq_true (hl.1 q hq).ne'
      rw [List.filter_cons_of_neg (by simp), hrest]
    · rw [List.filter_cons_of_pos (p := fun p : Slot × Record => decide (p.1 ≠ a)) (decide_eq_true (Ne.symm hb))]
      exact (List.Perm.cons _ (ih hl.2 (by simpa [recordAt, hb] using ha))).trans (.swap ..)

theorem RosterLaw.removeRecord {r : Roster} (h : RosterLaw r) {a : Slot} {rec : Record} (ha : recordAt r.records a = some rec) :
    RosterLaw (removeRecord r a rec) where
  slots := h.slots.filter _
  keys := h.keys.filter _
  indexed b q hm := by
    obtain ⟨hm, hb⟩ := List.mem_filter.mp hm
    exact List.mem_filter.mpr ⟨h.indexed b q hm, hb⟩
  backed e he := by
    obtain ⟨he, hs⟩ := List.mem_filter.mp he
    obtain ⟨q, hq, hk⟩ := h.backed e he
    exact ⟨q, List.mem_filter.mpr ⟨hq, hs⟩, hk⟩
  census site := by
    have hc := siteCount_perm (perm_cons_filter h.slots ha) site
    rw [siteCount_cons, ← h.census] at hc
    simp only [Machine.removeRecord, vget_vset]
    split at hc
    · next hs => rw [if_pos hs, ← hs]; omega
    · next hs => rw [if_neg hs]; omega
  occupied := by
    have hc := (perm_cons_filter h.slots ha).length_eq
    rw [List.length_cons, ← h.occupied] at hc
    simp only [Machine.removeRecord]
    omega

/-! ## Totals (R98) -/

theorem TotalsLaw.zero (p : Nat) : TotalsLaw (Totals.zero p) := by constructor <;> simp [Totals.zero]

theorem TotalsLaw.addClosing (t : Totals) (f : Figures) : TotalsLaw (t.addClosing f) := by
  constructor <;> exact Nat.min_le_right _ _

theorem TotalsLaw.addException {t : Totals} (h : TotalsLaw t) : TotalsLaw t.addException :=
  ⟨h.regular, h.overtime, h.night, h.holiday, h.pay, h.closed, Nat.min_le_right _ _⟩

/-- A record whose totals obey their limits. -/
def Record.totalled (r : Record) : Prop := TotalsLaw r.current ∧ TotalsLaw r.previous

theorem Record.totalled.rollover {r : Record} (h : r.totalled) (p : Nat) : (r.rollover p).totalled := by
  unfold Record.rollover
  repeat' split
  · exact h
  · exact ⟨.zero p, h.1⟩
  · exact ⟨.zero p, .zero _⟩

theorem Record.totalled.countException {r : Record} (h : r.totalled) (p : Nat) : (r.countException p).totalled :=
  ⟨(h.rollover p).1.addException, (h.rollover p).2⟩

theorem Record.totalled.addClosing {r : Record} (h : r.totalled) (p : Nat) (f : Figures) : (r.addClosing p f).totalled :=
  ⟨.addClosing .., (h.rollover p).2⟩

theorem Record.rollover_key (r : Record) (p : Nat) : (r.rollover p).key = r.key := by
  unfold Record.rollover
  repeat' split
  all_goals rfl

theorem Record.rollover_presence (r : Record) (p : Nat) : (r.rollover p).presence = r.presence := by
  unfold Record.rollover
  repeat' split
  all_goals rfl

theorem Record.rollover_pendingLane (r : Record) (p : Nat) : (r.rollover p).pendingLane = r.pendingLane := by
  unfold Record.rollover
  repeat' split
  all_goals rfl

end Sys2Proof.Machine
end

section
/-! PROOFS. Roster, attendance list and pending passages together (R28, R29, R98, R106), operation by operation, and the settlement of
O59. -/

namespace Sys2Proof.Machine

/-! ## Places of records and entries -/

theorem recordAt_insertRecord {l : List (Slot × Record)} {a : Slot} (rec : Record) (ha : recordAt l a = none) (b : Slot) :
    recordAt (insertRecord a rec l) b = if b = a then some rec else recordAt l b := by
  induction l with
  | nil => by_cases hb : b = a <;> simp [insertRecord, recordAt, hb]
  | cons p l ih =>
    obtain ⟨c, r⟩ := p
    have hc : a ≠ c := fun he => by simp [recordAt, he] at ha
    have ha' : recordAt l a = none := by simpa [recordAt, hc] using ha
    unfold insertRecord
    split
    · by_cases hb : b = a <;> simp [recordAt, hb]
    · by_cases hb : b = c
      · subst hb
        simp [recordAt, Ne.symm hc]
      · simp only [recordAt, hb, if_false]
        exact ih ha'

theorem recordAt_filter (l : List (Slot × Record)) (a b : Slot) :
    recordAt (l.filter (fun p => decide (p.1 ≠ a))) b = if b = a then none else recordAt l b := by
  induction l with
  | nil => simp [recordAt]
  | cons p l ih =>
    obtain ⟨c, r⟩ := p
    by_cases hc : c = a <;> by_cases hb : b = c <;> simp_all [recordAt]

theorem insertAttendance_perm (e : Attendance) (l : List Attendance) : (insertAttendance e l).Perm (e :: l) := by
  induction l with
  | nil => exact .refl _
  | cons x l ih =>
    unfold insertAttendance
    split
    · exact .refl _
    · exact (List.Perm.cons x ih).trans (.swap ..)

theorem Attendance.notAfter_of_before {e x : Attendance} (h : e.before x = true) : e.notAfter x := by
  unfold Attendance.before at h
  unfold Attendance.notAfter
  split at h <;> simp_all [Nat.le_of_lt]

theorem Attendance.notAfter_of_not_before {e x : Attendance} (h : e.before x ≠ true) : x.notAfter e := by
  unfold Attendance.before at h
  unfold Attendance.notAfter
  split at h <;> simp_all

theorem Attendance.notAfter.trans {x y z : Attendance} (h : x.notAfter y) (h' : y.notAfter z) : x.notAfter z := by
  unfold Attendance.notAfter at *
  split at h <;> split at h' <;> simp_all
  omega

theorem insertAttendance_pairwise {e : Attendance} {l : List Attendance} (hl : l.Pairwise Attendance.notAfter) :
    (insertAttendance e l).Pairwise Attendance.notAfter := by
  induction l with
  | nil => simp [insertAttendance]
  | cons x l ih =>
    rw [List.pairwise_cons] at hl
    unfold insertAttendance
    split
    · next hb =>
      have hex := Attendance.notAfter_of_before hb
      refine List.pairwise_cons.mpr ⟨fun y hy => ?_, List.pairwise_cons.mpr hl⟩
      rcases List.mem_cons.mp hy with rfl | hy
      · exact hex
      · exact hex.trans (hl.1 y hy)
    · next hb =>
      refine List.pairwise_cons.mpr ⟨fun y hy => ?_, ih hl.2⟩
      rcases List.mem_cons.mp ((insertAttendance_perm e l).mem_iff.mp hy) with rfl | hy
      · exact Attendance.notAfter_of_not_before hb
      · exact hl.1 y hy

theorem record_putAttendance (l : List Attendance) (s : State) (a : Slot) : (putAttendance l s).record a = s.record a := rfl

/-! ## The books -/

/-- The pending passages agree with the records (R29), but for lane x where one is named. -/
def PendingBut (x : Option Lane) (s : State) : Prop :=
  ∀ l p, some l ≠ x → (s.lane l).pending = some p →
    ∃ r, s.record p.slot = some r ∧ r.pendingLane = some l ∧ p.kind.fits r.presence

/-- Roster, totals, list and mirror in agreement, and the pending passages but for lane x: between the steps of an operation that
resolves lane x's passage, its kind need not fit. -/
structure Books (x : Option Lane) (s : State) : Prop where
  roster : RosterLaw s.roster
  totals : ∀ a r, s.record a = some r → r.totalled
  order : OrderLaw s
  single : (s.attendance.map Attendance.slot).Nodup
  present : ∀ e ∈ s.attendance, ∃ r, s.record e.slot = some r ∧ r.presence = .inside
  listed : ∀ a r, s.record a = some r → r.presence = .inside → a ∈ s.attendance.map Attendance.slot
  pending : PendingBut x s
  mirror : MirrorLaw s

theorem allTotalsLaw_iff {s : State} (h : RosterLaw s.roster) :
    AllTotalsLaw s ↔ ∀ a r, s.record a = some r → r.totalled :=
  ⟨fun ht a r hr => ht (a, r) (mem_of_recordAt hr), fun ht p hp => ht p.1 p.2 (recordAt_of_mem h.slots hp)⟩

theorem books_iff (s : State) :
    Books none s ↔ RosterLaw s.roster ∧ AllTotalsLaw s ∧ OrderLaw s ∧ PresenceLaw s ∧ MirrorLaw s := by
  constructor
  · intro h
    exact ⟨h.roster, (allTotalsLaw_iff h.roster).mpr h.totals, h.order,
      ⟨h.single, h.present, h.listed, fun l p => h.pending l p (by simp)⟩, h.mirror⟩
  · rintro ⟨hr, ht, ho, ⟨hs, hp, hl, hq⟩, hm⟩
    exact ⟨hr, (allTotalsLaw_iff hr).mp ht, ho, hs, hp, hl, fun l p _ => hq l p, hm⟩

namespace Books
variable {x : Option Lane} {s t : State}

/-- Only the roster, the list, the pending passages and a started part's mirror have a part in the books. -/
theorem of_same (h : Books x s) (hr : t.roster = s.roster) (ha : t.attendance = s.attendance)
    (hl : ∀ l, (t.lane l).pending = (s.lane l).pending) (hm : t.control.presentMirror = s.control.presentMirror)
    (hrun : running t = running s) : Books x t where
  roster := hr ▸ h.roster
  totals := by simpa only [State.record, hr] using h.totals
  order := by simpa only [OrderLaw, ha] using h.order
  single := ha ▸ h.single
  present := by simpa only [State.record, hr, ha] using h.present
  listed := by simpa only [State.record, hr, ha] using h.listed
  pending := by simpa only [PendingBut, State.record, hr, hl] using h.pending
  mirror := by simpa only [MirrorLaw, ha, hm, hrun] using h.mirror

theorem alike (h : Books x s) (ha : Alike s t) : Books x t :=
  h.of_same ha.roster ha.attendance (fun l => by rw [State.lane, ha.lanes]; rfl) ha.mirror ha.running

/-- A lane with another assembly, configuration or lamp. -/
theorem setLane (h : Books x s) {l : Lane} {v : LaneState} (hv : v.pending = (s.lane l).pending) : Books x (s.setLane l v) :=
  h.of_same rfl rfl (fun m => by rw [lane_setLane]; split <;> simp_all) rfl rfl

theorem but (h : Books none s) (l : Lane) : Books (some l) s :=
  { h with pending := fun m p _ => h.pending m p (by simp) }

/-- A record edited so that keys and presences stay, totals keep their limits, and its pending lane stays where a lane holds its
passage. -/
theorem editWhere (h : Books x s) {a : Slot} {f : Record → Record} (hk : ∀ r, (f r).key = r.key)
    (hp : ∀ r, (f r).presence = r.presence)
    (hl : ∀ l p, (s.lane l).pending = some p → ∀ r, (f r).pendingLane = r.pendingLane)
    (ht : ∀ r, r.totalled → (f r).totalled) : Books x (s.modifyRecord a f) := by
  have hrec (b : Slot) : (s.modifyRecord a f).record b = (s.record b).map (if b = a then f else id) := by
    rw [record_modifyRecord]
    split <;> simp
  have hpres (b : Slot) (r : Record) : ((if b = a then f else id) r).presence = r.presence := by
    split
    · exact hp r
    · rfl
  refine ⟨h.roster.modifyRecord a hk, fun b r hr => ?_, h.order, h.single, fun e he => ?_, fun b r hr hi => ?_,
    fun l p hx hlp => ?_, h.mirror⟩
  · rw [hrec] at hr
    obtain ⟨q, hq, rfl⟩ := Option.map_eq_some_iff.mp hr
    split
    · exact ht q (h.totals b q hq)
    · exact h.totals b q hq
  · obtain ⟨r, hr, hi⟩ := h.present e he
    exact ⟨_, by rw [hrec, hr]; rfl, (hpres e.slot r).trans hi⟩
  · rw [hrec] at hr
    obtain ⟨q, hq, rfl⟩ := Option.map_eq_some_iff.mp hr
    exact h.listed b q hq ((hpres b q).symm.trans hi)
  · obtain ⟨r, hr, hrl, hf⟩ := h.pending l p hx hlp
    refine ⟨_, by rw [hrec, hr]; rfl, ?_, (hpres p.slot r).symm ▸ hf⟩
    split
    · exact (hl l p hlp r).trans hrl
    · exact hrl

/-- A record edited so that key, presence and pending lane stay and totals keep their limits. -/
theorem edit (h : Books x s) {a : Slot} {f : Record → Record} (hk : ∀ r, (f r).key = r.key) (hp : ∀ r, (f r).presence = r.presence)
    (hl : ∀ r, (f r).pendingLane = r.pendingLane) (ht : ∀ r, r.totalled → (f r).totalled) : Books x (s.modifyRecord a f) :=
  h.editWhere hk hp (fun _ _ _ => hl) ht

theorem append (h : Books x s) (b : EntryBody) : Books x (appendEntry b s) := h.alike (.appendEntry ..)

/-- The lanes whose passages the books follow hold none of a record that is pending at lane x, or nowhere. -/
theorem slot_ne (h : Books x s) {a : Slot} (ha : ∀ r, s.record a = some r → r.pendingLane = x) {l : Lane} {p : PendingPassage}
    (hx : some l ≠ x) (hl : (s.lane l).pending = some p) : p.slot ≠ a := by
  rintro rfl
  obtain ⟨r, hr, hrl, -⟩ := h.pending l p hx hl
  exact hx (hrl.symm.trans (ha r hr))

/-- An attendance opened for a record that is OUT and pending nowhere but at lane x (R28). -/
theorem openAttendance (h : Books x s) {a : Slot} {r : Record} (hr : s.record a = some r) (hl : r.pendingLane = x)
    (ho : r.presence ≠ .inside) (d : Option ShiftDay) (t : Time) : Books x (openAttendance a d t s) := by
  have hrec (b : Slot) : (Machine.openAttendance a d t s).record b = if b = a then some r.enter else s.record b := by
    rw [Machine.openAttendance, record_modifyRecord]
    split
    · next hb => subst hb; simp [hr]
    · simp
  have hslot : (newAttendance s.pay a d t).slot = a := by unfold newAttendance; split <;> rfl
  have hperm := (insertAttendance_perm (newAttendance s.pay a d t) s.attendance)
  have hfree : ∀ e ∈ s.attendance, e.slot ≠ a := fun e he hs => by
    obtain ⟨q, hq, hi⟩ := h.present e he
    rw [hs, hr] at hq
    exact ho (Option.some.inj hq ▸ hi)
  refine ⟨h.roster.modifyRecord a (fun _ => rfl), fun b q hq => ?_, insertAttendance_pairwise h.order, ?_, fun e he => ?_,
    fun b q hq hi => ?_, fun l p hx hlp => ?_, fun _ => rfl⟩
  · rw [hrec] at hq
    split at hq
    · cases hq; exact h.totals a r hr
    · exact h.totals b q hq
  · refine (hperm.map _).nodup_iff.mpr (List.nodup_cons.mpr ⟨?_, h.single⟩)
    rw [hslot]
    exact fun hm => by obtain ⟨e, he, hs⟩ := List.mem_map.mp hm; exact hfree e he hs
  · rw [hrec]
    rcases List.mem_cons.mp (hperm.mem_iff.mp he) with rfl | he
    · exact ⟨r.enter, by rw [if_pos hslot], rfl⟩
    · rw [if_neg (hfree e he)]; exact h.present e he
  · refine (hperm.map _).mem_iff.mpr (List.mem_cons.mpr ?_)
    rw [hrec] at hq
    split at hq
    · next hb => exact .inl (hb.trans hslot.symm)
    · exact .inr (h.listed b q hq hi)
  · rw [hrec, if_neg (h.slot_ne (fun q hq => by rw [hr] at hq; cases hq; exact hl) hx hlp)]
    exact h.pending l p hx hlp

/-- The attendance of a record ended that is pending nowhere but at lane x (R28). -/
theorem endAttendance (h : Books x s) {a : Slot} (ha : ∀ r, s.record a = some r → r.pendingLane = x) :
    Books x (endAttendance a s) := by
  have hrec (b : Slot) : (Machine.endAttendance a s).record b = if b = a then (s.record b).map Record.leave else s.record b :=
    record_modifyRecord ..
  refine ⟨h.roster.modifyRecord a (fun _ => rfl), fun b q hq => ?_, h.order.filter _, ?_, fun e he => ?_,
    fun b q hq hi => ?_, fun l p hx hlp => ?_, fun _ => rfl⟩
  · rw [hrec] at hq
    split at hq
    · obtain ⟨r, hr, rfl⟩ := Option.map_eq_some_iff.mp hq
      exact h.totals b r hr
    · exact h.totals b q hq
  · exact h.single.sublist (List.filter_sublist.map _)
  · obtain ⟨he, hs⟩ := List.mem_filter.mp he
    rw [hrec, if_neg (by simpa using hs)]
    exact h.present e he
  · rw [hrec] at hq
    split at hq
    · obtain ⟨r, -, rfl⟩ := Option.map_eq_some_iff.mp hq
      cases hi
    · next hb =>
      obtain ⟨e, he, rfl⟩ := List.mem_map.mp (h.listed b q hq hi)
      exact List.mem_map.mpr ⟨e, List.mem_filter.mpr ⟨he, by simpa using hb⟩, rfl⟩
  · rw [hrec, if_neg (h.slot_ne ha hx hlp)]
    exact h.pending l p hx hlp

theorem addException (h : Books x s) (a : Slot) : Books x (addException a s) :=
  h.edit (fun r => r.rollover_key _) (fun r => r.rollover_presence _) (fun r => r.rollover_pendingLane _)
    fun _ hr => hr.countException _

theorem rolloverSlot (h : Books x s) (a : Slot) : Books x (rolloverSlot a s) :=
  h.edit (fun r => r.rollover_key _) (fun r => r.rollover_presence _) (fun r => r.rollover_pendingLane _) fun _ hr => hr.rollover _

/-- An entry closed whose record is pending nowhere but at lane x (R89). -/
theorem closeEntry (h : Books x s) {e : Attendance} (ha : ∀ r, s.record e.slot = some r → r.pendingLane = x) (t : Option Nat) :
    Books x (closeEntry e t s) := by
  have h1 : Books x (s.modifyRecord e.slot (Record.addClosing s.pay.period (figuresOf e t s))) :=
    h.edit (fun r => r.rollover_key _) (fun r => r.rollover_presence _) (fun r => r.rollover_pendingLane _)
      fun _ hr => hr.addClosing _ _
  refine h1.endAttendance fun r hr => ?_
  rw [record_modifyRecord_self] at hr
  obtain ⟨q, hq, rfl⟩ := Option.map_eq_some_iff.mp hr
  exact (q.rollover_pendingLane _).trans (ha q hq)

theorem sweep (h : Books none s) (t : Nat) : Books none (sweep t s) := by
  unfold Machine.sweep
  induction s.attendance.takeWhile (Attendance.due t) generalizing s with
  | nil => exact h
  | cons e l ih =>
    refine ih (s := sweepEntry e s) ?_
    unfold sweepEntry
    split
    · exact h
    · next hp =>
      exact (h.closeEntry (fun r hr => by simpa [hr] using hp) none).alike (.appendEntry ..)

/-- The books while a lane's passage has no part in them, closed again by emptying it together with its record's pending lane (R29). -/
theorem clearPassage {l : Lane} (h : Books (some l) s) {a : Slot} (ha : ∀ r, s.record a = some r → r.pendingLane = some l) :
    Books none (clearPassage l a s) := by
  have hrec (b : Slot) : (Machine.clearPassage l a s).record b =
      if b = a then (s.record b).map Record.clearPending else s.record b := record_modifyRecord ..
  refine ⟨h.roster.modifyRecord a (fun _ => rfl), fun b q hq => ?_, h.order, h.single, fun e he => ?_, fun b q hq hi => ?_,
    fun m p _ hmp => ?_, h.mirror⟩
  · rw [hrec] at hq
    split at hq
    · obtain ⟨r, hr, rfl⟩ := Option.map_eq_some_iff.mp hq
      exact h.totals b r hr
    · exact h.totals b q hq
  · obtain ⟨r, hr, hi⟩ := h.present e he
    rw [hrec, hr]
    split
    · exact ⟨r.clearPending, rfl, hi⟩
    · exact ⟨r, rfl, hi⟩
  · rw [hrec] at hq
    split at hq
    · obtain ⟨r, hr, rfl⟩ := Option.map_eq_some_iff.mp hq
      exact h.listed b r hr hi
    · exact h.listed b q hq hi
  · rw [clearPassage_lane] at hmp
    split at hmp
    · cases hmp
    · next hm =>
      have hx : some m ≠ some l := fun he => hm (Option.some.inj he)
      rw [hrec, if_neg (h.slot_ne ha hx hmp)]
      exact h.pending m p hx hmp

end Books

/-! ## Passages resolved, lapsed and granted -/

/-- The record of a slot, if any, is pending at lane l. -/
def PendingAt (l : Lane) (a : Slot) (s : State) : Prop := ∀ r, s.record a = some r → r.pendingLane = some l

/-- An edit that leaves pending lanes alone. -/
theorem PendingAt.edit {l : Lane} {a : Slot} {s : State} (h : PendingAt l a s) (b : Slot) {f : Record → Record}
    (hf : ∀ r, (f r).pendingLane = r.pendingLane) : PendingAt l a (s.modifyRecord b f) := by
  intro r hr
  rw [record_modifyRecord] at hr
  split at hr
  · obtain ⟨q, hq, rfl⟩ := Option.map_eq_some_iff.mp hr
    exact (hf q).trans (h q hq)
  · exact h r hr

theorem PendingAt.of_roster {l : Lane} {a : Slot} {s t : State} (h : PendingAt l a s) (hr : t.roster = s.roster) :
    PendingAt l a t := by unfold PendingAt State.record at *; rw [hr]; exact h

theorem PendingAt.openAttendance {l : Lane} {a : Slot} {s : State} (h : PendingAt l a s) (b : Slot) (d : Option ShiftDay) (t : Time) :
    PendingAt l a (openAttendance b d t s) :=
  PendingAt.edit (s := putAttendance _ s) (h.of_roster rfl) b fun _ => rfl

theorem PendingAt.addException {l : Lane} {a : Slot} {s : State} (h : PendingAt l a s) (b : Slot) : PendingAt l a (addException b s) :=
  h.edit b fun r => r.rollover_pendingLane _

theorem PendingAt.closeEntry {l : Lane} {a : Slot} {s : State} (h : PendingAt l a s) (e : Attendance) (t : Option Nat) :
    PendingAt l a (closeEntry e t s) :=
  (PendingAt.of_roster (t := putAttendance _ _)
    (h.edit (f := Record.addClosing s.pay.period (figuresOf e t s)) e.slot fun r => r.rollover_pendingLane _) rfl).edit
    (f := Record.leave) e.slot fun _ => rfl

/-- A punch takes effect whose kind fits its record's presence (R74–R76). -/
theorem Books.applyPunch {l : Lane} {s : State} (h : Books (some l) s) {p : PendingPassage} {r : Record}
    (hr : s.record p.slot = some r) (hl : r.pendingLane = some l) (hf : p.kind.fits r.presence) :
    Books (some l) (applyPunch p s) ∧ PendingAt l p.slot (applyPunch p s) := by
  have hat : PendingAt l p.slot s := fun q hq => by rw [hr] at hq; cases hq; exact hl
  have closes : Books (some l) (match attendanceOf p.slot s.attendance with
        | some e => Machine.closeEntry e (some p.readTime.absolute) s
        | none => s) ∧
      PendingAt l p.slot (match attendanceOf p.slot s.attendance with
        | some e => Machine.closeEntry e (some p.readTime.absolute) s
        | none => s) := by
    split
    · next e he =>
      have hs : e.slot = p.slot := by simpa using List.find?_some he
      exact ⟨h.closeEntry (by rw [hs]; exact hat) _, hat.closeEntry _ _⟩
    · exact ⟨h, hat⟩
  have counts : Books (some l) (if p.softPassback then Machine.addException p.slot s else s) ∧
      PendingAt l p.slot (if p.softPassback then Machine.addException p.slot s else s) := by
    split
    · exact ⟨h.addException _, hat.addException _⟩
    · exact ⟨h, hat⟩
  have opens (ho : r.presence = .out) (d : Option ShiftDay) := h.openAttendance hr hl (by simp [ho]) d p.readTime
  unfold Machine.applyPunch
  cases hk : p.kind <;> simp only [hk, PunchKind.fits] at hf
  case inPunch => exact ⟨opens hf _, hat.openAttendance _ _ _⟩
  case inUnscheduled => exact ⟨(opens hf _).addException _, (hat.openAttendance _ _ _).addException _⟩
  case outPunch => exact closes
  case outUnscheduled => exact closes
  case reEntry => exact counts
  case exitAgain => exact counts
  case untimedGrant => exact ⟨h, hat⟩

theorem Books.resolvePassage {l : Lane} {s : State} (h : Books none s) {p : PendingPassage} (hp : (s.lane l).pending = some p) :
    Books none (resolvePassage l p s) := by
  obtain ⟨r, hr, hl, hf⟩ := h.pending l p (by simp) hp
  obtain ⟨h1, hat⟩ := (h.but l).applyPunch hr hl hf
  have h2 : Books (some l) ((Machine.applyPunch p s).modifyRecord p.slot (Record.setLastPassage l p.readTime)) :=
    h1.edit (fun _ => rfl) (fun _ => rfl) (fun _ => rfl) fun _ => id
  exact (h2.alike (.appendEntry ..)).clearPassage ((hat.edit (f := Record.setLastPassage l p.readTime) p.slot fun _ => rfl).of_roster (appendEntry_roster ..))

theorem Books.lapsePassage {l : Lane} {s : State} (h : Books none s) {p : PendingPassage} (hp : (s.lane l).pending = some p)
    (e : Bool) : Books none (lapsePassage l p e s) := by
  obtain ⟨r, hr, hl, -⟩ := h.pending l p (by simp) hp
  refine ((h.but l).alike (.appendEntry ..)).clearPassage fun q hq => ?_
  rw [State.record, appendEntry_roster, ← State.record, hr] at hq
  cases hq
  exact hl

/-- A grant at a record that is not pending, of a kind that fits its presence (R29, R52). -/
theorem Books.setPending {l : Lane} {s : State} (h : Books none s) {p : PendingPassage} {r : Record} (hr : s.record p.slot = some r)
    (hl : r.pendingLane = none) (hf : p.kind.fits r.presence) :
    Books none ((s.setLane l { s.lane l with pending := some p }).modifyRecord p.slot (Record.setPending l)) := by
  have hrec (b : Slot) : ((s.setLane l { s.lane l with pending := some p }).modifyRecord p.slot (Record.setPending l)).record b =
      if b = p.slot then (s.record b).map (Record.setPending l) else s.record b := record_modifyRecord ..
  refine ⟨RosterLaw.modifyRecord (s := s.setLane l _) h.roster p.slot (fun _ => rfl), fun b q hq => ?_, h.order, h.single,
    fun e he => ?_, fun b q hq hi => ?_, fun m v _ hmv => ?_, h.mirror⟩
  · rw [hrec] at hq
    split at hq
    · obtain ⟨q', hq', rfl⟩ := Option.map_eq_some_iff.mp hq
      exact h.totals b q' hq'
    · exact h.totals b q hq
  · obtain ⟨q, hq, hi⟩ := h.present e he
    rw [hrec, hq]
    split
    · exact ⟨q.setPending l, rfl, hi⟩
    · exact ⟨q, rfl, hi⟩
  · rw [hrec] at hq
    split at hq
    · obtain ⟨q', hq', rfl⟩ := Option.map_eq_some_iff.mp hq
      exact h.listed b q' hq' hi
    · exact h.listed b q hq hi
  · rw [lane_modifyRecord, lane_setLane] at hmv
    split at hmv
    · next hm =>
      obtain rfl : p = v := Option.some.inj hmv
      exact ⟨r.setPending l, by simp [hrec, hr], by rw [hm]; rfl, hf⟩
    · rw [hrec, if_neg (h.slot_ne (fun q hq => by rw [hr] at hq; cases hq; exact hl) (by simp) hmv)]
      exact h.pending m v (by simp) hmv

theorem Books.takeGrant {l : Lane} {s : State} (h : Books none s) {g : Grant} {r : Record} (hr : s.record g.slot = some r)
    (hl : r.pendingLane = none) (hf : g.kind.fits r.presence) (w : BadgeRead) : Books none (takeGrant l g w s) := by
  unfold Machine.takeGrant
  dsimp only
  have h1 := (h.setPending (l := l) (p := passageOf g w (decide ((s.door l).status = .passing))) hr hl hf).alike (.doorGrant l _)
  split
  · refine h1.resolvePassage ?_
    rw [State.lane, doorGrant_lanes, ← State.lane, lane_modifyRecord, State.lane_setLane_self]
  · exact h1

/-- A granted passback case has a kind that fits any presence (R68). -/
theorem passbackDecision_grant {s : State} {c : LaneConfig} {a : Slot} {r : Record} {inward : Bool} {g : Grant}
    (h : passbackDecision s c a r inward = .grant g) : g.slot = a ∧ ∀ x, g.kind.fits x := by
  unfold passbackDecision at h
  dsimp only at h
  cases inward <;> repeat' split at h
  all_goals cases h
  all_goals exact ⟨rfl, fun _ => trivial⟩

theorem inPunchDecision_grant {s : State} {a : Slot} {r : Record} {t : Time} {g : Grant} (h : inPunchDecision s a r t = .grant g) :
    g.slot = a ∧ g.kind.fits .out := by
  unfold inPunchDecision at h
  split at h <;> cases h <;> exact ⟨rfl, rfl⟩

theorem outPunchDecision_grant {s : State} {a : Slot} {g : Grant} (h : outPunchDecision s a = .grant g) :
    g.slot = a ∧ g.kind.fits .inside := by
  unfold outPunchDecision at h
  cases h
  exact ⟨rfl, by dsimp only; split <;> split <;> rfl⟩

/-- The kind of a grant fits the record's presence (R66–R72). -/
theorem timedDecision_grant {s : State} {c : LaneConfig} {a : Slot} {r : Record} {w : BadgeRead} {g : Grant}
    (h : timedDecision s c a r w = .grant g) : g.slot = a ∧ g.kind.fits r.presence := by
  unfold timedDecision at h
  split at h
  · cases h; exact ⟨rfl, trivial⟩
  · dsimp only at h
    split at h
    · exact ⟨(passbackDecision_grant h).1, (passbackDecision_grant h).2 _⟩
    · next hne =>
      split at h
      · next hi =>
        have hp : r.presence = .out := by
          cases hp : r.presence
          · rfl
          · simp [hi, hp] at hne
        exact hp ▸ inPunchDecision_grant h
      · next hi =>
        have hp : r.presence = .inside := by
          cases hp : r.presence
          · simp [hi, hp] at hne
          · rfl
        exact hp ▸ outPunchDecision_grant h

/-- A granted frame's record is not pending, and the kind fits its presence (R64, R67–R72). -/
theorem classify_grant {s : State} {l : Lane} {w : BadgeRead} {g : Grant} (h : classify s l w = .grant g) :
    ∃ r, s.record g.slot = some r ∧ r.pendingLane = none ∧ g.kind.fits r.presence := by
  unfold classify at h
  split at h
  · cases h
  · cases h
  · next a _ =>
    split at h
    · cases h
    · next r hr =>
      unfold recordDecision at h
      repeat' split at h
      case isFalse =>
        next hpend =>
        obtain ⟨hs, hf⟩ := timedDecision_grant h
        exact ⟨r, by rw [hs, hr], by simpa using hpend, hf⟩
      all_goals cases h

/-! ## Frames (R51, R52, R57) -/

namespace Books
variable {s : State} (h : Books none s) (l : Lane)
include h

theorem refuseFrame (w : BadgeRead) (a : Option Slot) (r : DenyReason) : Books none (refuseFrame l w a r s) :=
  (h.append _).setLane rfl

theorem classifyFrame (w : BadgeRead) : Books none (classifyFrame l w s) := by
  unfold Machine.classifyFrame
  split
  · exact h.refuseFrame l _ _ _
  · next a _ =>
    have h1 : Books none (s.modifyRecord a fun r => { r with muster := true }) :=
      h.edit (fun _ => rfl) (fun _ => rfl) (fun _ => rfl) fun _ => id
    exact h1.append _
  · next g hg =>
    obtain ⟨r, hr, hl, hf⟩ := classify_grant hg
    exact h.takeGrant hr hl hf w

theorem classifyWaiting : Books none (classifyWaiting l s) := by
  unfold Machine.classifyWaiting
  split
  · have h1 : Books none (s.setLane l { s.lane l with waiting := none }) := h.setLane rfl
    exact h1.classifyFrame l _
  · exact h

theorem reportPassage : Books none (reportPassage l s) := by
  unfold Machine.reportPassage
  split
  · next hp => exact (h.resolvePassage hp).classifyWaiting l
  · exact h

theorem reportLapse : Books none (reportLapse l s) := by
  unfold Machine.reportLapse
  split
  · next hp => exact (h.lapsePassage hp false).classifyWaiting l
  · exact h

theorem emergencyLapse : Books none (emergencyLapse l s) := by
  have h1 : Books none (match (s.lane l).pending with
      | some p => Machine.lapsePassage l p true s
      | none => s) := by
    split
    · next hp => exact h.lapsePassage hp true
    · exact h
  exact h1.setLane rfl

theorem arriveValid (w : BadgeRead) : Books none (arriveValid l w s) := by
  unfold Machine.arriveValid
  repeat' split
  · exact h.classifyFrame l w
  · exact h
  · exact h.setLane rfl
  · exact h
  · exact h.refuseFrame l _ _ _

theorem endFrame (bits : List Bool) : Books none (endFrame l bits s) := by
  unfold Machine.endFrame
  dsimp only
  have h1 : Books none (s.setLane l { s.lane l with bits := [], gap := 0 }) := h.setLane rfl
  split
  · exact h1.arriveValid l _
  · exact (h1.append _).setLane rfl

theorem clockPulse (b : Bool) : Books none (clockPulse l b s) := by
  unfold Machine.clockPulse
  dsimp only
  repeat' split
  · exact h.endFrame l _
  · exact h.setLane rfl
  · exact h

theorem gapExpiry : Books none (gapExpiry l s) := by
  unfold Machine.gapExpiry
  split
  · exact h.endFrame l _
  · exact h

end Books

/-! ## Starts (R40, R41, R59) -/

/-- With no passage pending and no part running, roster and list alone make the books. -/
theorem Books.of_idle {s t : State} (h : Books none s) (hr : t.roster = s.roster) (ha : t.attendance = s.attendance)
    (hl : ∀ l, (t.lane l).pending = none) (hrun : running t = false) : Books none t where
  roster := hr ▸ h.roster
  totals := by simpa only [State.record, hr] using h.totals
  order := by simpa only [OrderLaw, ha] using h.order
  single := ha ▸ h.single
  present := by simpa only [State.record, hr, ha] using h.present
  listed := by simpa only [State.record, hr, ha] using h.listed
  pending l p _ hp := by simp [hl] at hp
  mirror hf := by simp [hrun] at hf

/-- The books of a part with no record. -/
theorem Books.empty {s : State} (hr : s.roster = Roster.empty) (ha : s.attendance = []) (hl : ∀ l, (s.lane l).pending = none)
    (hrun : running s = false) : Books none s := by
  have hnone (a) : s.record a = none := by simp [State.record, hr, Roster.empty, recordAt]
  refine ⟨?_, ?_, ?_, ?_, ?_, ?_, ?_, ?_⟩
  · rw [hr]
    constructor <;> simp [Roster.empty, siteCount, vget]
  · simp [hnone]
  · simp [OrderLaw, ha]
  · simp [ha]
  · simp [ha]
  · simp [hnone]
  · intro l p _ hp; simp [hl] at hp
  · intro hf; simp [hrun] at hf

/-- The books through a start: no passage is pending and the part does not run. -/
structure IdleBooks (s : State) : Prop where
  books : Books none s
  lanes : ∀ l, (s.lane l).pending = none
  stopped : running s = false

theorem IdleBooks.of_same {s t : State} (h : IdleBooks s) (hr : t.roster = s.roster) (ha : t.attendance = s.attendance)
    (hl : t.lanes = s.lanes) (hrun : running t = false) : IdleBooks t := by
  have hlanes (l) : (t.lane l).pending = none := by rw [State.lane, hl]; exact h.lanes l
  exact ⟨h.books.of_idle hr ha hlanes hrun, hlanes, hrun⟩

theorem running_start {s : State} {p : StartProgress} (h : s.time.start = some p) : running s = false := by simp [running, h]

theorem IdleBooks.lapseRecord {s : State} (h : IdleBooks s) (k : StartKind) (p : Slot × Record) : IdleBooks (lapseRecord k s p) := by
  unfold Machine.lapseRecord
  split
  · have h1 := h.of_same (appendEntry_roster (startLapseBody k p.1 p.2 s) s) (by simp) (by simp) (by simpa using h.stopped)
    exact ⟨h1.books.editWhere (fun _ => rfl) (fun _ => rfl) (fun l q hq => nomatch (h1.lanes l).symm.trans hq) fun _ => id, h1.lanes, h1.stopped⟩
  · exact h

theorem IdleBooks.stageLapses {s : State} (h : IdleBooks s) (k : StartKind) : IdleBooks (stageLapses k s) := by
  have hfold : IdleBooks (s.roster.records.foldl (Machine.lapseRecord k) s) := by
    generalize s.roster.records = rs
    induction rs generalizing s with
    | nil => exact h
    | cons p rs ih => exact ih (h.lapseRecord k p)
  exact hfold.of_same rfl rfl rfl (running_start rfl)

theorem Books.stageDecision {s : State} (h : Books none s) (k : StartKind) : IdleBooks (stageDecision k s) := by
  have hl (l) : ((Machine.stageDecision k s).lane l).pending = none := by
    rw [show (Machine.stageDecision k s).lane l = (loseVolatile s).lane l from rfl, loseVolatile_lane]; rfl
  exact ⟨h.of_idle rfl rfl hl (running_start rfl), hl, running_start rfl⟩

theorem IdleBooks.stageRetained {s : State} (h : IdleBooks s) (k : StartKind) (w : Bool) : IdleBooks (stageRetained k w s) := by
  cases k with
  | cold =>
    have hl (l) : ((Machine.stageRetained .cold w s).lane l).pending = none := by
      simp [Machine.stageRetained, reachStage, State.lane, vget, LaneState.empty]
    exact ⟨.empty rfl rfl hl (running_start rfl), hl, running_start rfl⟩
  | warm => exact h.of_same rfl rfl rfl (running_start rfl)
  | reset => exact h.of_same rfl rfl rfl (running_start rfl)

theorem IdleBooks.stageEntry {s : State} (h : IdleBooks s) (k : StartKind) : IdleBooks (stageEntry k s) :=
  h.of_same (by simp [Machine.stageEntry, reachStage]) (by simp [Machine.stageEntry, reachStage])
    (by simp [Machine.stageEntry, reachStage]) (running_start rfl)

theorem Books.runStart {s : State} (h : Books none s) (k : StartKind) (w : Bool) : Books none (runStart k w s) :=
  ((((h.stageDecision k).stageRetained k w).stageEntry k).stageLapses k).of_same (t := Machine.runStart k w s) rfl rfl rfl
    (running_start rfl) |>.books

theorem Books.mainsTrip {s : State} (h : Books none s) : Books none (mainsTrip s) := by
  by_cases hp : s.time.power = .mainsRun
  · refine h.of_idle (by simp [Machine.mainsTrip, hp, loseVolatile]) (by simp [Machine.mainsTrip, hp, loseVolatile]) (fun l => ?_)
      (by simp [Machine.mainsTrip, hp, running])
    rw [mainsTrip_lane, if_pos hp]; rfl
  · rw [Machine.mainsTrip, if_neg hp]; exact h

/-! ## Records created and deleted -/

theorem Books.createRecord {s : State} (h : Books none s) {a : Slot} {r : Record} (ha : s.record a = none)
    (hk : ∀ e ∈ s.roster.index, e.key ≠ r.key) (hp : r.presence = .out) (ht : r.totalled) :
    Books none (s.setRoster (createRecord s.roster a r)) := by
  have hrec (b : Slot) : (s.setRoster (Machine.createRecord s.roster a r)).record b = if b = a then some r else s.record b :=
    recordAt_insertRecord r ha b
  have hold {b : Slot} {q : Record} (hq : s.record b = some q) : (s.setRoster (Machine.createRecord s.roster a r)).record b = some q := by
    rw [hrec, if_neg, hq]
    rintro rfl
    simp [ha] at hq
  refine ⟨h.roster.createRecord ha hk, fun b q hq => ?_, h.order, h.single, fun e he => ?_, fun b q hq hi => ?_,
    fun l p hx hl => ?_, h.mirror⟩
  · rw [hrec] at hq
    split at hq
    · cases hq; exact ht
    · exact h.totals b q hq
  · obtain ⟨q, hq, hi⟩ := h.present e he
    exact ⟨q, hold hq, hi⟩
  · rw [hrec] at hq
    split at hq
    · cases hq; simp [hp] at hi
    · exact h.listed b q hq hi
  · obtain ⟨q, hq, hrest⟩ := h.pending l p hx hl
    exact ⟨q, hold hq, hrest⟩

theorem Books.removeRecord {s : State} (h : Books none s) {a : Slot} {r : Record} (ha : s.record a = some r)
    (hl : r.pendingLane = none) (hp : r.presence ≠ .inside) : Books none (s.setRoster (removeRecord s.roster a r)) := by
  have hrec (b : Slot) : (s.setRoster (Machine.removeRecord s.roster a r)).record b = if b = a then none else s.record b :=
    recordAt_filter s.roster.records a b
  refine ⟨h.roster.removeRecord ha, fun b q hq => ?_, h.order, h.single, fun e he => ?_, fun b q hq hi => ?_,
    fun l p hx hlp => ?_, h.mirror⟩
  · rw [hrec] at hq
    split at hq
    · cases hq
    · exact h.totals b q hq
  · obtain ⟨q, hq, hi⟩ := h.present e he
    rw [hrec, if_neg]
    · exact ⟨q, hq, hi⟩
    · intro hs
      rw [hs, ha] at hq
      cases hq
      exact hp hi
  · rw [hrec] at hq
    split at hq
    · cases hq
    · exact h.listed b q hq hi
  · rw [hrec, if_neg (h.slot_ne (fun q hq => by rw [ha] at hq; cases hq; exact hl) hx hlp)]
    exact h.pending l p hx hlp

/-! ## The obligation -/

/-- Roster, totals, list and pending passages are kept in agreement by every operation on punches and records. -/
theorem books_punchLaw : PunchLaw (Books none) where
  alike ha h := h.alike ha
  lamps {s} h := h.of_same rfl rfl (fun l => by simp [tickLamps, State.lane, vget]) rfl rfl
  red l h := h.setLane rfl
  gap l _ h := h.setLane rfl
  pulse l b h := h.clockPulse l b
  frame l h := h.gapExpiry l
  passage l h := h.reportPassage l
  lapse l h := h.reportLapse l
  emergency l h := h.emergencyLapse l
  musters {s} h := by
    refine ⟨h.roster.modifyAllRecords fun _ => rfl, fun a r hr => ?_, h.order, h.single, fun e he => ?_, fun a r hr hi => ?_,
      fun l p hx hl => ?_, h.mirror⟩
    · rw [record_modifyAllRecords] at hr
      obtain ⟨q, hq, rfl⟩ := Option.map_eq_some_iff.mp hr
      exact h.totals a q hq
    · obtain ⟨r, hr, hi⟩ := h.present e he
      exact ⟨{ r with muster := false }, by simp [hr], hi⟩
    · rw [record_modifyAllRecords] at hr
      obtain ⟨q, hq, rfl⟩ := Option.map_eq_some_iff.mp hr
      exact h.listed a q hq hi
    · obtain ⟨r, hr, hrl, hf⟩ := h.pending l p hx hl
      exact ⟨{ r with muster := false }, by simp [hr], hrl, hf⟩
  sweep t h := h.sweep t
  configure l c clears h := h.setLane rfl
  trip h := h.mainsTrip
  start k w h := h.runStart k w
  ready h hm := ⟨h.roster, h.totals, h.order, h.single, h.present, h.listed, h.pending, fun _ => hm⟩
  load {s} b h := by
    rcases cmdLoadRecord_cases b s with hs | ⟨a, i, -, -, hs⟩ | ⟨a, i, hk, ha, hs⟩ <;> rw [hs]
    · exact h
    · exact h.edit (fun _ => rfl) (fun _ => rfl) (fun _ => rfl) fun _ => id
    · exact h.createRecord (lowestFree_free h.roster ha) (not_mem_of_lookup hk) rfl ⟨.zero _, .zero _⟩
  read a h := h.rolloverSlot a
  delete {s} w a b c h := by
    rcases cmdDeleteRecord_cases w a b c s with hs | ⟨a, r, hr, hl, hp, hs⟩ <;> rw [hs]
    · exact h
    · exact h.removeRecord hr hl hp
  forceOut {s} o w a b c d m n h := by
    rcases cmdForceOut_cases o w a b c d m n s with hs | ⟨e, r, t, ⟨hr, hl, -, -⟩, hs⟩ <;> rw [hs]
    · exact h
    · exact (h.closeEntry (fun q hq => by rw [hr] at hq; cases hq; exact hl) _).append _
  forceIn {s} o w a b c d m n h := by
    rcases cmdForceIn_cases o w a b c d m n s with hs | ⟨a, r, t, hr, hl, hi, hs⟩ <;> rw [hs]
    · exact h
    · have h1 := h.openAttendance hr hl hi (chooseInstance s r.shift t) t
      unfold forceInRecord
      dsimp only
      split
      · exact h1.append _
      · exact (h1.addException a).append _
  cancel {s} o w a b c h := by
    rcases cmdCancel_cases o w a b c s with hs | ⟨e, r, ⟨hr, hl, -, -⟩, hs⟩ <;> rw [hs]
    · exact h
    · exact (h.endAttendance (a := e.slot) fun q hq => by rw [hr] at hq; cases hq; exact hl).append _

/-- Settles O59: the five laws together are a law of punches, with the pending passages' agreement set aside for the lane whose
passage an operation resolves. -/
theorem stepKeepsRosterAndPresence : Obligations.StepKeepsRosterAndPresence := by
  intro s t hr ht ho hp hm hstep
  exact (books_iff t).mp (books_punchLaw.rowLaw.step hstep ((books_iff s).mpr ⟨hr, ht, ho, hp, hm⟩))

end Sys2Proof.Machine
end

section
/-! PROOFS. The step, the clock and the commands of the clock (chapter 1). -/

namespace Sys2Proof.Machine

/-! ## The step -/

/-- Settles O1: the step's own branch for a queue that is not empty. -/
theorem stepRunsFrontCommand : Obligations.StepRunsFrontCommand := by
  intro s c rest h
  unfold step
  rw [h]
  rfl

/-! ## Running parts -/

theorem running_iff (s : State) : running s = true ↔ s.time.power = .mainsRun ∧ s.time.start = none := by simp [running]

theorem running_of_engineOpen {s : State} (h : engineOpen s = true) : running s = true := by
  unfold engineOpen at h
  exact (Bool.and_eq_true _ _ ▸ h).1

/-! ## The advance of the clock (R1, R5, R6) -/

theorem TimeBase.advance_within {t : TimeBase} (hr : t.minuteLength ≠ .longRepeated) (hs : t.clock.second < t.minuteLength.last) :
    t.advance = (t.nextSecond, false) := by
  unfold TimeBase.advance
  unfold MinuteLength.last at hs
  split <;> simp_all

theorem TimeBase.advance_long {t : TimeBase} (hl : t.minuteLength = .long) (hs : t.clock.second = 59) :
    t.advance = ({ t with minuteLength := .longRepeated }, false) := by
  simp [TimeBase.advance, hl, hs]

/-- A minute begun by counting, as R1, R5 and R6 give it. -/
theorem TimeBase.beginMinute_eq {t : TimeBase} (h : ClockLaw t) : t.beginMinute = t.afterMinute := by
  have hday := h.day
  have hmin := h.minute
  have hclock : t.clock.nextMinute =
      if t.clock.minute = 1439 then ⟨if t.clock.day = 65535 then 65535 else t.clock.day + 1, 0, 0⟩
      else ⟨t.clock.day, t.clock.minute + 1, 0⟩ := by
    unfold Time.nextMinute nextDay
    by_cases hm : t.clock.minute = 1439
    · rw [if_neg (by omega), if_pos hm]
      by_cases hd : t.clock.day = 65535
      · rw [if_neg (by omega), if_pos hd]
      · rw [if_pos (by omega), if_neg hd]
    · rw [if_pos (by omega), if_neg hm]
  have hlimit : (decide (1439 ≤ t.clock.minute) && decide (65535 ≤ t.clock.day)) =
      (decide (t.clock.minute = 1439) && decide (t.clock.day = 65535)) := by
    congr 1 <;> exact decide_eq_decide.mpr (by omega)
  unfold TimeBase.beginMinute TimeBase.afterMinute
  rw [hclock, hlimit]
  rfl

theorem TimeBase.advance_end {t : TimeBase} (h : ClockLaw t) (he : t.atMinuteEnd) : t.advance = (t.afterMinute, true) := by
  rw [← TimeBase.beginMinute_eq h]
  unfold TimeBase.advance
  rcases he with ⟨hl, hs⟩ | ⟨hl, hs⟩ | hl <;> simp [*]

/-! ## Crystal seconds -/

/-- A started part after the second event of a crystal second that brings its time base to t (R2). -/
def State.atSecond (s : State) (t : TimeBase) : State :=
  { s with
    time := t
    control := { s.control with clockMirror := t.clock }
    gate := { s.gate with windowCountdown := s.gate.windowCountdown - 1 } }

/-- The crystal second in a started part: the second event, and the minute event where a minute began (R2, R3). -/
theorem crystalSecond_running {s : State} {t : TimeBase} {b : Bool} (hr : running s = true) (ha : s.time.advance = (t, b)) :
    crystalSecond s = if b then minuteEvent (s.atSecond t) else s.atSecond t := by
  unfold crystalSecond
  rw [ha, ((running_iff s).mp hr).1]
  dsimp only
  rw [if_pos hr]
  rfl

/-- Settles O3: the clock advances within its minute, and the second event follows. -/
theorem crystalSecondWithinMinute : Obligations.CrystalSecondWithinMinute := by
  intro s hr hl
  refine ⟨fun hs => ?_, fun hlong hs => ?_⟩
  · exact congrArg _ (crystalSecond_running hr (TimeBase.advance_within hl hs))
  · exact congrArg _ (crystalSecond_running hr (TimeBase.advance_long hlong hs))

/-- In the hold a crystal second advances and counts (R13). -/
theorem crystalSecond_hold {s : State} {t : TimeBase} {b : Bool} (hp : s.time.power = .batteryHold) (ha : s.time.advance = (t, b)) :
    crystalSecond s = s.setTime t.countHold := by
  unfold crystalSecond
  rw [ha, hp]

/-- Through a start a crystal second advances the clock and issues no event (R2, R3). -/
theorem crystalSecond_starting {s : State} {t : TimeBase} {b : Bool} (hp : s.time.power = .mainsRun) (hs : s.time.start ≠ none)
    (ha : s.time.advance = (t, b)) : crystalSecond s = s.setTime t := by
  have hr : ¬ running s = true := fun hr => hs ((running_iff s).mp hr).2
  unfold crystalSecond
  rw [ha, hp]
  dsimp only
  rw [if_neg hr]

/-- Settles O7: in the hold the advance and the hold count, through a start the advance alone. -/
theorem eventsInHold : Obligations.EventsInHold := by
  intro s
  refine ⟨fun hp => ⟨fun hl hs => ?_, fun hc he => ?_, ?_, ?_, fun hl hs => ?_⟩,
    fun hp hn => ⟨fun hl hs => ?_, fun hl hs => ?_, fun hc he => ?_⟩⟩
  · exact congrArg _ (crystalSecond_hold hp (TimeBase.advance_within hl hs))
  · exact congrArg _ (crystalSecond_hold hp (TimeBase.advance_end hc he))
  · exact congrArg _ (if_pos hp)
  · exact congrArg _ (if_pos hp)
  · exact congrArg _ (crystalSecond_hold hp (TimeBase.advance_long hl hs))
  · exact congrArg _ (crystalSecond_starting hp hn (TimeBase.advance_within hl hs))
  · exact congrArg _ (crystalSecond_starting hp hn (TimeBase.advance_long hl hs))
  · exact congrArg _ (crystalSecond_starting hp hn (TimeBase.advance_end hc he))

/-- The minute event reaches attendance and bells only: the list with its mirror, the records, the journal with its causes, and the
zone players (R3). -/
theorem minuteEvent_frame (s : State) :
    minuteEvent s =
      { s with
        control := (minuteEvent s).control, attendance := (minuteEvent s).attendance, roster := (minuteEvent s).roster
        journal := (minuteEvent s).journal, bells := { s.bells with zones := (minuteEvent s).bells.zones } } := by
  unfold minuteEvent
  split
  · rfl
  · have hbells (t : Nat) (u : State) : (evaluateSchedule t u).bells = { u.bells with zones := (evaluateSchedule t u).bells.zones } := by
      apply Bells.ext <;> simp
    apply State.ext <;> simp
    rw [hbells]
    simp

theorem minuteEvent_clockMirror (s : State) : (minuteEvent s).control.clockMirror = s.control.clockMirror := by
  unfold minuteEvent
  split
  · rfl
  · simp

/-- While the clock is unset a minute event reaches nothing (R7). -/
theorem minuteEvent_unset {s : State} (h : s.time.clockUnset = true) : minuteEvent s = s := if_pos h

/-- Settles O4: the advance into the new minute, then the minute event, which reaches attendance and bells only. -/
theorem crystalSecondEndsMinute : Obligations.CrystalSecondEndsMinute := by
  intro s hr hc he
  have hs : crystalSecond s = minuteEvent (s.atSecond s.time.afterMinute) := crystalSecond_running hr (TimeBase.advance_end hc he)
  have hf := minuteEvent_frame (s.atSecond s.time.afterMinute)
  refine ⟨minuteEvent (s.atSecond s.time.afterMinute), congrArg _ hs, ?_, minuteEvent_clockMirror _, ?_, ?_, fun hu => ?_⟩
  · rw [hf]; rfl
  · rw [hf]; rfl
  · rw [hf]; rfl
  · rw [minuteEvent_unset (s := s.atSecond s.time.afterMinute) hu]; rfl

/-! ## Clock commands -/

/-- A command without an output buffer, carried out from its row where the channels are open. -/
theorem runDirect_none {s : State} (h : engineOpen s = true) (cmd : State → State × Reply) :
    runDirect none cmd s = (cmd s).1.answering (cmd s).2 := runDirect_open h cmd

/-- Settles O9: the three commands' own bodies, the clamps written out. -/
theorem trimReadAcknowledge : Obligations.TrimReadAcknowledge := by
  intro s ho
  refine ⟨fun w => ⟨fun hu => ?_, fun hu => ⟨_, rfl, ?_⟩⟩, ?_, ?_⟩
  · refine congrArg _ ((runDirect_none ho _).trans ?_)
    simp [cmdTrimClock, hu]
  · refine congrArg _ ((runDirect_none ho _).trans ?_)
    simp [cmdTrimClock, hu]
    rfl
  · exact congrArg _ ((runDirect_none ho _).trans rfl)
  · exact congrArg _ ((runDirect_none ho _).trans rfl)

end Sys2Proof.Machine
end

section
/-! PROOFS. The sweep of a minute event (R107–R109): which attendances it closes, and what each closing brings. -/

namespace Sys2Proof.Machine

/-! ## Closings -/

/-- The record of a closed attendance (R89, R98): rolled over, the figures added, OUT. -/
def closedRecord (pt : PayTables) (c : Attendance × Record) : Record :=
  { c.2.rolled pt.period with
    current := (c.2.rolled pt.period).current.addClosing (closingFigures pt c.2.payClass c.1 none)
    presence := .out, muster := false }

/-- The AUTO-CLOSE entry of an attendance appended (R108). -/
def appendAutoClose (time : Time) (pt : PayTables) (u : State) (c : Attendance × Record) : State :=
  appendEntry (autoCloseEntry time c.2 c.1 (closingFigures pt c.2.payClass c.1 none)) u

theorem Record.rollover_eq_rolled (p : Nat) (r : Record) : r.rollover p = r.rolled p := rfl

theorem figuresOf_eq {s : State} {e : Attendance} {r : Record} (h : s.record e.slot = some r) (t : Option Nat) :
    figuresOf e t s = closingFigures s.pay r.payClass e t := by simp [figuresOf, h]

theorem closeEntry_record (e : Attendance) (t : Option Nat) (s : State) (b : Slot) :
    (closeEntry e t s).record b =
      if b = e.slot then (s.record b).map fun r => (r.addClosing s.pay.period (figuresOf e t s)).leave else s.record b := by
  unfold closeEntry endAttendance
  rw [record_modifyRecord, record_putAttendance, record_modifyRecord]
  split
  · rw [Option.map_map]; rfl
  · rfl

theorem closeEntry_attendance (e : Attendance) (t : Option Nat) (s : State) :
    (closeEntry e t s).attendance = s.attendance.filter (fun x => decide (x.slot ≠ e.slot)) := rfl

theorem closeEntry_mirror (e : Attendance) (t : Option Nat) (s : State) :
    (closeEntry e t s).control.presentMirror = (closeEntry e t s).attendance.length := rfl

theorem closeEntry_sameLog (e : Attendance) (t : Option Nat) (s : State) : SameLog s (closeEntry e t s) := ⟨rfl, rfl, rfl, rfl⟩

theorem SameLog.refl (s : State) : SameLog s s := ⟨rfl, rfl, rfl, rfl⟩

theorem SameLog.trans {s t u : State} (h : SameLog s t) (h' : SameLog t u) : SameLog s u :=
  ⟨h'.time.trans h.time, h'.journal.trans h.journal, h'.bus.trans h.bus, h'.link.trans h.link⟩

theorem autoCloseBody_eq {s : State} {e : Attendance} {r : Record} (h : s.record e.slot = some r) (f : Figures) :
    autoCloseBody e s f = autoCloseEntry s.time.clock r e f := by
  unfold autoCloseBody autoCloseEntry badgeOf attendanceKindCode
  cases e.schedule.isSome <;> simp [h, plainBody, Figures.flags]

/-- One examined entry whose record is not pending is closed at the scheduled end (R108). -/
theorem sweepEntry_closes {s : State} {e : Attendance} {r : Record} (h : s.record e.slot = some r) (hp : r.pendingLane = none) :
    sweepEntry e s = appendAutoClose s.time.clock s.pay (closeEntry e none s) (e, r) := by
  unfold sweepEntry
  rw [if_neg (by simp [h, hp]), autoCloseBody_eq h, figuresOf_eq h]
  rfl

/-- One examined entry whose record is pending is passed over (R109). -/
theorem sweepEntry_passes {s : State} {e : Attendance} {r : Record} (h : s.record e.slot = some r) (hp : r.pendingLane ≠ none) :
    sweepEntry e s = s := by
  unfold sweepEntry
  rw [if_pos (by simpa [h, Option.isSome_iff_ne_none] using hp)]

/-! ## The sweep as a whole -/

/-- What the closings C, each an attendance with its record, make of u. -/
structure Closes (C : List (Attendance × Record)) (u t : State) : Prop where
  attendance : t.attendance = u.attendance.filter (fun x => decide (x.slot ∉ C.map fun c => c.1.slot))
  others : ∀ a, a ∉ C.map (fun c => c.1.slot) → t.record a = u.record a
  closed : ∀ c ∈ C, t.record c.1.slot = some (closedRecord u.pay c)
  mirror : t.control.presentMirror = t.attendance.length
  log : SameLog (C.foldl (appendAutoClose u.time.clock u.pay) u) t

/-- Appends over alike states leave alike logs. -/
theorem SameLog.foldl {s t : State} (h : SameLog s t) (f : Attendance × Record → EntryBody) (C : List (Attendance × Record)) :
    SameLog (C.foldl (fun u c => Machine.appendEntry (f c) u) s) (C.foldl (fun u c => Machine.appendEntry (f c) u) t) := by
  induction C generalizing s t with
  | nil => exact h
  | cons c C ih => exact ih (h.appendEntry (f c))

/-- A list of entries with distinct slots, each with its record, swept in turn. -/
theorem sweepList_closes (L : List (Attendance × Record)) (u : State) (hrec : ∀ c ∈ L, u.record c.1.slot = some c.2)
    (hslots : (L.map fun c => c.1.slot).Nodup) (hmirror : u.control.presentMirror = u.attendance.length) :
    Closes (L.filter fun c => decide (c.2.pendingLane = none)) u ((L.map Prod.fst).foldl (fun acc e => sweepEntry e acc) u) := by
  induction L generalizing u with
  | nil => exact ⟨by simp, fun _ _ => rfl, by simp, hmirror, .refl u⟩
  | cons c L ih =>
    obtain ⟨e, r⟩ := c
    obtain ⟨hne, hnodup⟩ := List.nodup_cons.mp hslots
    have hr : u.record e.slot = some r := hrec (e, r) List.mem_cons_self
    rw [List.map_cons, List.foldl_cons]
    by_cases hp : r.pendingLane = none
    · rw [List.filter_cons_of_pos (by simpa using hp), sweepEntry_closes hr hp]
      have hrec' (b : Slot) : (appendAutoClose u.time.clock u.pay (closeEntry e none u) (e, r)).record b =
          if b = e.slot then some (closedRecord u.pay (e, r)) else u.record b := by
        have h1 : (appendAutoClose u.time.clock u.pay (closeEntry e none u) (e, r)).record b = (closeEntry e none u).record b := by
          simp [appendAutoClose, State.record]
        rw [h1, closeEntry_record]
        split
        · next hb =>
          rw [hb, hr, figuresOf_eq hr]
          rfl
        · rfl
      obtain ⟨hatt, hothers, hclosed, hm, hlog⟩ := ih (appendAutoClose u.time.clock u.pay (closeEntry e none u) (e, r))
        (fun d hd => by
          rw [hrec', if_neg (fun he => hne (List.mem_map.mpr ⟨d, hd, he⟩))]
          exact hrec d (List.mem_cons_of_mem _ hd)) hnodup (by simp [appendAutoClose, closeEntry_mirror])
      have hpay : (appendAutoClose u.time.clock u.pay (closeEntry e none u) (e, r)).pay = u.pay := by simp [appendAutoClose]
      have htime : (appendAutoClose u.time.clock u.pay (closeEntry e none u) (e, r)).time = u.time := by simp [appendAutoClose]
      have hattendance : (appendAutoClose u.time.clock u.pay (closeEntry e none u) (e, r)).attendance =
          u.attendance.filter (fun x => decide (x.slot ≠ e.slot)) := by simp [appendAutoClose, closeEntry_attendance]
      refine ⟨?_, fun a ha => ?_, fun d hd => ?_, hm, ?_⟩
      · rw [hatt, hattendance, List.filter_filter]
        refine List.filter_congr fun x _ => ?_
        rw [List.map_cons, ← Bool.decide_and]
        exact decide_eq_decide.mpr (by simp [not_or, and_comm])
      · rw [List.map_cons, List.mem_cons, not_or] at ha
        rw [hothers a ha.2, hrec', if_neg ha.1]
      · rcases List.mem_cons.mp hd with rfl | hd
        · rw [hothers, hrec', if_pos rfl]
          exact fun hmem => hne (List.map_subset _ (List.filter_subset_self _) hmem)
        · rw [hclosed d hd, hpay]
      · rw [hpay, htime] at hlog
        exact SameLog.trans ((closeEntry_sameLog e none u).appendEntry _ |>.foldl _ _) hlog
    · rw [List.filter_cons_of_neg (by simpa using hp), sweepEntry_passes hr hp]
      exact ih u (fun d hd => hrec d (List.mem_cons_of_mem _ hd)) hnodup hmirror

/-! ## The entries due -/

theorem Attendance.due_iff (t : Nat) (e : Attendance) : e.due t = true ↔ ∃ d ∈ e.deadline, d ≤ t := by
  unfold Attendance.due
  cases e.deadline <;> simp

/-- In a list in deadline order the due entries stand at the front (R106, R107). -/
theorem takeWhile_due {l : List Attendance} (h : l.Pairwise Attendance.notAfter) (t : Nat) :
    l.takeWhile (Attendance.due t) = l.filter (Attendance.due t) := by
  induction l with
  | nil => rfl
  | cons e l ih =>
    rw [List.pairwise_cons] at h
    by_cases hd : e.due t = true
    · rw [List.takeWhile_cons_of_pos hd, List.filter_cons_of_pos hd, ih h.2]
    · rw [List.takeWhile_cons_of_neg hd, List.filter_cons_of_neg hd]
      refine (List.filter_eq_nil_iff.mpr fun x hx hdx => hd ?_).symm
      obtain ⟨b, hb, hle⟩ := (Attendance.due_iff t x).mp hdx
      have hn := h.1 x hx
      unfold Attendance.notAfter at hn
      rw [Option.mem_def.mp hb] at hn
      cases ha : e.deadline with
      | none => simp [ha] at hn
      | some a => exact (Attendance.due_iff t e).mpr ⟨a, ha, le_trans (by simpa [ha] using hn) hle⟩

/-- Listed entries with their records. -/
theorem exists_withRecords {s : State} {l : List Attendance} (h : ∀ e ∈ l, ∃ r, s.record e.slot = some r) :
    ∃ L : List (Attendance × Record), L.map Prod.fst = l ∧ ∀ c ∈ L, s.record c.1.slot = some c.2 := by
  induction l with
  | nil => exact ⟨[], rfl, by simp⟩
  | cons e l ih =>
    obtain ⟨r, hr⟩ := h e List.mem_cons_self
    obtain ⟨L, hL, hrec⟩ := ih fun x hx => h x (List.mem_cons_of_mem _ hx)
    exact ⟨(e, r) :: L, by rw [List.map_cons, hL], fun c hc => by
      rcases List.mem_cons.mp hc with rfl | hc
      · exact hr
      · exact hrec c hc⟩

/-- The sweep of a minute event, in all its parts. -/
theorem swept_sweep {v : State} (ho : OrderLaw v) (hp : PresenceLaw v) (hm : v.control.presentMirror = v.attendance.length) :
    swept v (sweep v.time.clock.absolute v) := by
  have hdue := takeWhile_due ho v.time.clock.absolute
  obtain ⟨L, hL, hrec⟩ := exists_withRecords (s := v) (l := v.attendance.filter (Attendance.due v.time.clock.absolute))
    fun e he => (hp.present e (List.mem_of_mem_filter he)).imp fun _ h => h.1
  have hmap : (L.map fun c => c.1.slot) = (v.attendance.filter (Attendance.due v.time.clock.absolute)).map Attendance.slot := by
    rw [← hL, List.map_map]; rfl
  have hnodup : (L.map fun c => c.1.slot).Nodup := by
    rw [hmap]; exact hp.single.sublist (List.filter_sublist.map _)
  have hsweep : sweep v.time.clock.absolute v = (L.map Prod.fst).foldl (fun acc e => sweepEntry e acc) v := by
    rw [hL, ← hdue]; rfl
  obtain ⟨hatt, hothers, hclosed, hmirror, hlog⟩ := sweepList_closes L v hrec hnodup hm
  rw [← hsweep] at hatt hothers hclosed hmirror hlog
  have hmem (e) (he : e ∈ v.attendance) :
      e ∈ (L.filter fun c => decide (c.2.pendingLane = none)).map Prod.fst ↔ e.closesAt v v.time.clock.absolute := by
    constructor
    · intro h
      obtain ⟨c, hc, rfl⟩ := List.mem_map.mp h
      obtain ⟨hcL, hcp⟩ := List.mem_filter.mp hc
      have hd : c.1 ∈ v.attendance.filter (Attendance.due v.time.clock.absolute) := hL ▸ List.mem_map_of_mem hcL
      refine ⟨(Attendance.due_iff _ _).mp (List.mem_filter.mp hd).2, fun r hr => ?_⟩
      rw [hrec c hcL] at hr
      cases hr
      simpa using hcp
    · rintro ⟨hd, hn⟩
      have h1 : e ∈ L.map Prod.fst := hL ▸ List.mem_filter.mpr ⟨he, (Attendance.due_iff _ _).mpr hd⟩
      obtain ⟨c, hc, rfl⟩ := List.mem_map.mp h1
      exact List.mem_map.mpr ⟨c, List.mem_filter.mpr ⟨hc, by simpa using hn c.2 (hrec c hc)⟩, rfl⟩
  have hsub : ((L.filter fun c => decide (c.2.pendingLane = none)).map Prod.fst).Sublist v.attendance :=
    (List.filter_sublist.map _).trans (hL ▸ List.filter_sublist)
  have hslot (e) (he : e ∈ v.attendance) :
      e.slot ∈ ((L.filter fun c => decide (c.2.pendingLane = none)).map fun c => c.1.slot) ↔ e.closesAt v v.time.clock.absolute := by
    rw [← hmem e he]
    constructor
    · intro h
      obtain ⟨c, hc, hs⟩ := List.mem_map.mp h
      have hc' := List.mem_map_of_mem (f := Prod.fst) hc
      rwa [← List.inj_on_of_nodup_map hp.single (hsub.subset hc') he hs]
    · intro h
      obtain ⟨c, hc, rfl⟩ := List.mem_map.mp h
      exact List.mem_map.mpr ⟨c, hc, rfl⟩
  refine ⟨_, rfl, ?_, fun e he => ?_, hmirror, fun a ha => ?_, fun e he hc r hr => ?_, _, hsub, hmem, fun c hc => ?_, hlog.journal⟩
  · rw [hatt]; exact List.filter_sublist
  · rw [hatt, List.mem_filter, decide_eq_true_eq, hslot e he]
    exact ⟨fun h => h.2, fun h => ⟨he, h⟩⟩
  · refine hothers a fun hmem' => ?_
    obtain ⟨c, hc, rfl⟩ := List.mem_map.mp hmem'
    have hc' := List.mem_map_of_mem (f := Prod.fst) hc
    exact ha c.1 (hsub.subset hc') rfl ((hmem c.1 (hsub.subset hc')).mp hc')
  · obtain ⟨c, hc', rfl⟩ := List.mem_map.mp ((hmem e he).mpr hc)
    have h1 := hrec c (List.mem_of_mem_filter hc')
    rw [Option.mem_def, h1] at hr
    cases hr
    exact hclosed c hc'
  · exact hrec c (List.mem_of_mem_filter hc)

/-- What the bells do after a sweep has no part in it. -/
theorem swept.evaluateSchedule {v t : State} (h : swept v t) (n : Nat) : swept v (evaluateSchedule n t) := by
  simpa only [swept, evaluateSchedule_attendance, evaluateSchedule_control, evaluateSchedule_recordAt, evaluateSchedule_journal] using h

/-- A minute event with the clock set sweeps (R3, R107). -/
theorem swept_minuteEvent {v : State} (hu : v.time.clockUnset = false) (ho : OrderLaw v) (hp : PresenceLaw v)
    (hm : v.control.presentMirror = v.attendance.length) : swept v (minuteEvent v) := by
  unfold minuteEvent
  rw [if_neg (by simp [hu])]
  exact (swept_sweep ho hp hm).evaluateSchedule _

/-- Settles O5: the minute event's sweep, issued in the state of the second event. -/
theorem minuteEventClosesDueAttendances : Obligations.MinuteEventClosesDueAttendances := by
  intro s hr hc he hu ho hp hm
  have hs : crystalSecond s = minuteEvent (s.atSecond s.time.afterMinute) := crystalSecond_running hr (TimeBase.advance_end hc he)
  obtain ⟨now, hnow, hsub, hatt, hmirror, hothers, hclosed, C, hC, hmem, hrec, hjournal⟩ :=
    swept_minuteEvent (v := s.atSecond s.time.afterMinute) hu ho ⟨hp.single, hp.present, hp.listed, hp.pending⟩ (hm hr)
  refine ⟨_, now, congrArg Host.Outcome.next hs, hnow, hsub, hatt, hmirror, hothers, hclosed, C, hC, hmem, hrec, hjournal.trans ?_⟩
  have hsame : SameLog { s with time := s.time.afterMinute } (s.atSecond s.time.afterMinute) := ⟨rfl, rfl, rfl, rfl⟩
  exact (hsame.foldl (fun c => autoCloseEntry s.time.afterMinute.clock c.2 c.1 (closingFigures s.pay c.2.payClass c.1 none)) C).journal

end Sys2Proof.Machine
end

section
/-! PROOFS. The schedule at a minute event (R139–R141): which entries fire, which one is chosen at a zone, and what the zones make of the
requests; and SET CLOCK (R8), whose minute event is at the time set. -/

namespace Sys2Proof.Machine

/-! ## Entries that fire -/

theorem mem_bellDays {day d : Nat} (h : day ≤ 65535) : d ∈ bellDays day ↔ day ≤ d + 1 ∧ d ≤ day + 1 ∧ d ≤ 65535 := by
  unfold bellDays
  by_cases h0 : day = 0 <;> by_cases h1 : day = 65535 <;> simp [h0, h1] <;> omega

theorem holidayAllows_iff (s : State) (e : BellEntry) (d : Nat) :
    holidayAllows s e d = true ↔ e.holidayRule = .ring ∨ d ∉ s.pay.holidays := by
  simp [holidayAllows]

/-- An entry fires as R139 and R140 say. -/
theorem fires_iff {s : State} {day minute : Nat} (hd : day ≤ 65535) (hm : minute ≤ 1439) (i : BellIndex) :
    fires s (day * 1440 + minute) (vget s.bells.schedule i) = true ↔ bellFires s day minute i := by
  have h1 : (day * 1440 + minute) / 1440 = day := by omega
  have h2 : day * 1440 + minute - day * 1440 = minute := by omega
  unfold fires bellFires
  rw [h1]
  dsimp only
  rw [h2, Bool.and_eq_true]
  refine and_congr_right fun _ => ?_
  have shift (e : BellEntry) :
      (bellDays day).any (shiftFires s e (day * 1440 + minute)) = true ↔
        (vget s.pay.shifts e.shift).enabled = true ∧
          ∃ d, day ≤ d + 1 ∧ d ≤ day + 1 ∧ d ≤ 65535 ∧
            (vget s.pay.shifts e.shift).dayMask.getLsbD ((d + s.time.epochWeekday) % 7) = true ∧
            (e.holidayRule = .ring ∨ d ∉ s.pay.holidays) ∧
            (d * 1440 + (vget s.pay.shifts e.shift).start : Int) + e.offset +
                (if e.trigger = .shiftEnd then ((vget s.pay.shifts e.shift).length : Int) else 0) =
              day * 1440 + minute := by
    simp only [List.any_eq_true, mem_bellDays hd, shiftFires, Bool.and_eq_true, decide_eq_true_eq, holidayAllows_iff, weekday,
      Nat.cast_add, Nat.cast_mul, Nat.cast_ofNat]
    constructor
    · rintro ⟨d, ⟨ha, hb, hc⟩, ⟨⟨hen, hmask⟩, hhol⟩, hmoment⟩
      exact ⟨hen, d, ha, hb, hc, hmask, hhol, hmoment⟩
    · rintro ⟨hen, d, ha, hb, hc, hmask, hhol, hmoment⟩
      exact ⟨d, ⟨ha, hb, hc⟩, ⟨⟨hen, hmask⟩, hhol⟩, hmoment⟩
  cases ht : (vget s.bells.schedule i).trigger
  case clock => simp [holidayAllows_iff, weekday, and_assoc]
  all_goals
    rw [if_neg (by simp)]
    have := shift (vget s.bells.schedule i)
    rw [ht] at this
    exact this

/-- The fired candidates at a zone are the rule's (R141). -/
theorem mem_candidates_iff {s : State} {day minute : Nat} (hd : day ≤ 65535) (hm : minute ≤ 1439) (z : Zone) (i : BellIndex) :
    i ∈ (firing s (day * 1440 + minute)).filter (s.bells.candidate z) ↔ bellCandidate s day minute z i := by
  simp [firing, Bells.candidate, bellCandidate, fires_iff hd hm, Pattern.silent]
  exact and_comm

/-! ## The choice at a zone (R141) -/

/-- Entry i is better than entry j: the higher priority, on a tie the lower index. -/
def Bells.beats (b : Bells) (i j : BellIndex) : Prop :=
  b.entryPriority j < b.entryPriority i ∨ (b.entryPriority j = b.entryPriority i ∧ i < j)

/-- An entry that is the choice so far and beats all later ones stays the choice. -/
theorem Bells.better_stays {b : Bells} {i : BellIndex} {l : List BellIndex} (h : ∀ j ∈ l, b.beats i j) :
    l.foldl b.better (some i) = some i := by
  induction l with
  | nil => rfl
  | cons j l ih =>
    have hj : b.better (some i) j = some i := by
      have := h j List.mem_cons_self
      unfold Bells.beats at this
      exact if_neg (by omega)
    rw [List.foldl_cons, hj]
    exact ih fun k hk => h k (List.mem_cons_of_mem _ hk)

/-- Of an ascending list the entry that beats all others is chosen. -/
theorem Bells.better_chooses {b : Bells} {i : BellIndex} {l : List BellIndex} (hl : l.Pairwise (· < ·)) (hi : i ∈ l)
    (h : ∀ j ∈ l, j ≠ i → b.beats i j) {best : Option BellIndex} (hbest : ∀ j ∈ best, b.entryPriority j < b.entryPriority i) :
    l.foldl b.better best = some i := by
  induction l generalizing best with
  | nil => cases hi
  | cons j l ih =>
    rw [List.pairwise_cons] at hl
    rw [List.foldl_cons]
    by_cases hj : j = i
    · subst hj
      have hb : b.better best j = some j := by
        cases best with
        | none => rfl
        | some k => exact if_pos (hbest k rfl)
      rw [hb]
      exact Bells.better_stays fun k hk => h k (List.mem_cons_of_mem _ hk) (hl.1 k hk).ne'
    · have hil : i ∈ l := (List.mem_cons.mp hi).resolve_left (Ne.symm hj)
      refine ih hl.2 hil (fun k hk => h k (List.mem_cons_of_mem _ hk)) fun k hk => ?_
      have hlt : b.entryPriority j < b.entryPriority i := by
        rcases h j List.mem_cons_self hj with hlt | ⟨-, hij⟩
        · exact hlt
        · exact absurd hij (lt_asymm (hl.1 i hil))
      cases best with
      | none => cases hk; exact hlt
      | some m =>
        unfold Bells.better at hk
        dsimp only at hk
        split at hk <;> cases hk
        · exact hlt
        · exact hbest _ rfl

theorem candidates_pairwise (s : State) (t : Nat) (z : Zone) :
    ((firing s t).filter (s.bells.candidate z)).Pairwise (· < ·) :=
  ((List.pairwise_lt_finRange 64).filter _).filter _

/-! ## The requests of a minute event -/

/-- One zone's request at a minute event. -/
def Bells.ringAt (b : Bells) (fired : List BellIndex) (acc : Bells) (z : Zone) : Bells :=
  match b.choose fired z with
  | some i => acc.request z (vget b.schedule i).pattern (.schedule i)
  | none => acc

/-- What the zones of a list make of their requests: each its own, the other zones none. -/
theorem Bells.ringAt_foldl (b : Bells) (fired : List BellIndex) {zs : List Zone} (hz : zs.Nodup) (acc : Bells) :
    zs.foldl (b.ringAt fired) acc = { acc with zones := (zs.foldl (b.ringAt fired) acc).zones } ∧
      ∀ y, vget (zs.foldl (b.ringAt fired) acc).zones y =
        if y ∈ zs then vget (b.ringAt fired acc y).zones y else vget acc.zones y := by
  induction zs generalizing acc with
  | nil => exact ⟨rfl, fun y => by simp⟩
  | cons z zs ih =>
    obtain ⟨hnot, hnodup⟩ := List.nodup_cons.mp hz
    obtain ⟨hrest, hzones⟩ := ih hnodup (b.ringAt fired acc z)
    have hz1 : b.ringAt fired acc z = { acc with zones := (b.ringAt fired acc z).zones } := by
      unfold Bells.ringAt
      split
      · exact Bells.request_rest ..
      · rfl
    have hother (y : Zone) (hy : y ≠ z) : vget (b.ringAt fired acc z).zones y = vget acc.zones y := by
      unfold Bells.ringAt
      split
      · rw [Bells.request_zone, if_neg (fun h => hy h.1)]
      · rfl
    have hpatterns : (b.ringAt fired acc z).patterns = acc.patterns := by rw [hz1]
    have hlocked : (b.ringAt fired acc z).locked = acc.locked := by rw [hz1]
    have hlater (y : Zone) (hy : y ≠ z) :
        vget (b.ringAt fired (b.ringAt fired acc z) y).zones y = vget (b.ringAt fired acc y).zones y := by
      have htakes (n) : (b.ringAt fired acc z).takes y n = acc.takes y n := by
        simp only [Bells.takes, hpatterns, hlocked, hother y hy]
      have hstarted (n src) : (b.ringAt fired acc z).started n src = acc.started n src := by
        simp only [Bells.started, hpatterns]
      unfold Bells.ringAt at htakes hstarted hother ⊢
      cases b.choose fired y with
      | none => exact hother y hy
      | some i =>
        dsimp only
        rw [Bells.request_zone, Bells.request_zone, htakes, hstarted, hother y hy]
    refine ⟨by rw [List.foldl_cons, hrest, hz1], fun y => ?_⟩
    rw [List.foldl_cons, hzones]
    by_cases hy : y = z
    · subst hy
      rw [if_neg hnot, if_pos List.mem_cons_self]
    · rw [hother y hy, hlater y hy]
      simp [hy]

/-- The bells of an evaluation, zone by zone. -/
theorem evaluateSchedule_bells (t : Nat) (s : State) :
    (evaluateSchedule t s).bells = { s.bells with zones := (evaluateSchedule t s).bells.zones } ∧
      ∀ z, vget (evaluateSchedule t s).bells.zones z = vget (s.bells.ringAt (firing s t) s.bells z).zones z := by
  obtain ⟨h1, h2⟩ := s.bells.ringAt_foldl (firing s t) (List.nodup_finRange 8) s.bells
  exact ⟨h1, fun z => (h2 z).trans (if_pos (List.mem_finRange z))⟩

/-- The bells of a minute event's evaluation (R139–R141, R145). -/
theorem rung_evaluateSchedule {v : State} (hd : v.time.clock.day ≤ 65535) (hm : v.time.clock.minute ≤ 1439) :
    rung v (evaluateSchedule v.time.clock.absolute v) := by
  obtain ⟨hrest, hzones⟩ := evaluateSchedule_bells v.time.clock.absolute v
  refine ⟨hrest, fun z => ?_⟩
  have hmem (i) := mem_candidates_iff (s := v) hd hm z i
  rw [hzones z]
  constructor
  · intro hnone
    have hempty : (firing v v.time.clock.absolute).filter (v.bells.candidate z) = [] :=
      List.eq_nil_iff_forall_not_mem.mpr fun i hi => hnone i ((hmem i).mp hi)
    simp [Bells.ringAt, Bells.choose, hempty]
  · rintro i n rfl hi hbest
    have hchoose : v.bells.choose (firing v v.time.clock.absolute) z = some i :=
      Bells.better_chooses (candidates_pairwise ..) ((hmem i).mpr hi)
        (fun j hj hne => hbest j ((hmem j).mp hj) hne) (by simp)
    simp only [Bells.ringAt, hchoose, Bells.request_zone]
    exact ⟨fun h => if_pos ⟨trivial, (Bells.takes_iff ..).mpr h⟩, fun h => if_neg fun hc => h ((Bells.takes_iff ..).mp hc.2)⟩

/-- What a sweep changes has no part in the evaluation. -/
theorem evaluateSchedule_sweep (t n : Nat) (s : State) : (evaluateSchedule t (sweep n s)).bells = (evaluateSchedule t s).bells := by
  have hshift : shiftFires (sweep n s) = shiftFires s := by
    funext e t d
    simp only [shiftFires, holidayAllows, weekday, sweep_pay, sweep_time]
  have hf : firing (sweep n s) t = firing s t := by
    unfold firing
    refine List.filter_congr fun i _ => ?_
    simp only [fires, hshift, holidayAllows, weekday, sweep_bells, sweep_pay, sweep_time]
  unfold evaluateSchedule
  simp only [hf, sweep_bells, State.setBells_bells]

/-- A minute event with the clock set rings the schedule (R3, R141). -/
theorem rung_minuteEvent {v : State} (hu : v.time.clockUnset = false) (hd : v.time.clock.day ≤ 65535)
    (hm : v.time.clock.minute ≤ 1439) : rung v (minuteEvent v) := by
  unfold minuteEvent
  rw [if_neg (by simp [hu])]
  have h := rung_evaluateSchedule hd hm
  unfold rung at h ⊢
  rw [evaluateSchedule_sweep]
  exact h

theorem TimeBase.afterMinute_clock {t : TimeBase} (h : ClockLaw t) : t.afterMinute.clock.day ≤ 65535 ∧ t.afterMinute.clock.minute ≤ 1439 := by
  have hd := h.day
  have hm := h.minute
  unfold TimeBase.afterMinute
  dsimp only
  split
  · dsimp only
    split <;> omega
  · dsimp only; omega

/-- Settles O6: the schedule's evaluation in the state of the second event. -/
theorem minuteEventRingsSchedule : Obligations.MinuteEventRingsSchedule := by
  intro s hr hc he hu
  have hs : crystalSecond s = minuteEvent (s.atSecond s.time.afterMinute) := crystalSecond_running hr (TimeBase.advance_end hc he)
  obtain ⟨hd, hm⟩ := TimeBase.afterMinute_clock hc
  exact ⟨_, _, _, congrArg Host.Outcome.next hs, rfl, rfl, (rung_minuteEvent (v := s.atSecond s.time.afterMinute) hu hd hm).2⟩

/-! ## SET CLOCK (R8) -/

/-- The state after SET CLOCK has written the clock and appended its entry. -/
def State.clockWritten (s : State) (origin : Port) (time : Time) (wd : Nat) : State :=
  appendEntry (clockSetEntry origin s.time time wd) { s with time := s.time.set time wd }

/-- The state in which SET CLOCK issues its minute event. -/
def State.clockSet (s : State) (origin : Port) (time : Time) (wd : Nat) : State := writeMirror (s.clockWritten origin time wd)

theorem cmdSetClock_inRange {day minute second wd : Word} (hm : minute.toNat ≤ 1439) (hs : second.toNat ≤ 59) (hw : wd.toNat ≤ 6)
    (origin : Port) (s : State) :
    cmdSetClock origin day minute second wd s =
      (minuteEvent (s.clockSet origin ⟨day.toNat, minute.toNat, second.toNat⟩ wd.toNat), .done []) := by
  have hb : firstBad [false, decide (1439 < minute.toNat), decide (59 < second.toNat), decide (6 < wd.toNat)] = none :=
    firstBad_none.mpr (by simp [hm, hs, hw])
  have he : clockSetBody origin s.time ⟨day.toNat, minute.toNat, second.toNat⟩ wd.toNat =
      clockSetEntry origin s.time ⟨day.toNat, minute.toNat, second.toNat⟩ wd.toNat := by cases origin <;> rfl
  unfold cmdSetClock
  rw [hb]
  dsimp only
  rw [he]
  rfl

/-- With no attendance due a sweep does nothing (R107). -/
theorem sweep_none_due {s : State} {t : Nat} (h : ∀ e ∈ s.attendance, ∀ d ∈ e.deadline, t < d) : sweep t s = s := by
  have hnil : s.attendance.takeWhile (Attendance.due t) = [] := by
    cases ha : s.attendance with
    | nil => rfl
    | cons e l =>
      refine List.takeWhile_cons_of_neg fun hd => ?_
      obtain ⟨d, hd, hle⟩ := (Attendance.due_iff t e).mp hd
      exact absurd (h e (by rw [ha]; exact List.mem_cons_self) d hd) (by omega)
  unfold sweep
  rw [hnil]
  rfl

/-- With no entry enabled an evaluation does nothing (R139). -/
theorem evaluateSchedule_none_enabled {s : State} (h : ∀ i, (vget s.bells.schedule i).enabled = false) (t : Nat) :
    (evaluateSchedule t s).bells = s.bells := by
  have hf : firing s t = [] := List.filter_eq_nil_iff.mpr fun i _ => by simp [fires, h i]
  obtain ⟨hrest, hzones⟩ := evaluateSchedule_bells t s
  rw [hrest]
  refine Bells.ext rfl rfl rfl rfl (Vector.ext fun n hn => ?_)
  simpa [vget, Bells.ringAt, Bells.choose, hf] using hzones ⟨n, hn⟩

/-- A minute event leaves channels and arbiter alone. -/
theorem minuteEvent_control (s : State) :
    (minuteEvent s).control =
      { s.control with
        clockMirror := (minuteEvent s).control.clockMirror, presentMirror := (minuteEvent s).control.presentMirror
        bus := (minuteEvent s).control.bus, link := (minuteEvent s).control.link } := by
  unfold minuteEvent
  split
  · rfl
  · apply Control.ext <;> simp

theorem minuteEvent_roster (s : State) :
    (minuteEvent s).roster = { s.roster with records := (minuteEvent s).roster.records } := by
  unfold minuteEvent
  split
  · rfl
  · apply Roster.ext <;> simp

theorem OrderLaw.alike {s t : State} (h : OrderLaw s) (ha : Alike s t) : OrderLaw t := by
  unfold OrderLaw
  rw [ha.attendance]
  exact h

theorem PresenceLaw.alike {s t : State} (h : PresenceLaw s) (ha : Alike s t) : PresenceLaw t where
  single := ha.attendance ▸ h.single
  present := by simpa only [State.record, ha.roster, ha.attendance] using h.present
  listed := by simpa only [State.record, ha.roster, ha.attendance] using h.listed
  pending := by simpa only [PendingLaw, State.record, State.lane, ha.roster, ha.lanes] using h.pending

theorem Alike.clockWritten (s : State) (origin : Port) (time : Time) (wd : Nat) : Alike s (s.clockWritten origin time wd) :=
  (Alike.setTime (v := s.time.set time wd) rfl rfl).trans (.appendEntry ..)

theorem State.clockWritten_time (s : State) (origin : Port) (time : Time) (wd : Nat) :
    (s.clockWritten origin time wd).time = s.time.set time wd := by simp [State.clockWritten]

theorem State.clockWritten_bells (s : State) (origin : Port) (time : Time) (wd : Nat) :
    (s.clockWritten origin time wd).bells = s.bells := by simp [State.clockWritten]

/-- A minute event with no attendance due leaves list, roster, journal and control page alone (R107). -/
theorem minuteEvent_none_due {s : State} (h : ∀ e ∈ s.attendance, ∀ d ∈ e.deadline, s.time.clock.absolute < d) :
    (minuteEvent s).attendance = s.attendance ∧ (minuteEvent s).roster = s.roster ∧ (minuteEvent s).journal = s.journal ∧
      (minuteEvent s).control = s.control := by
  unfold minuteEvent
  split
  · exact ⟨rfl, rfl, rfl, rfl⟩
  · dsimp only
    rw [sweep_none_due h]
    simp

/-- A minute event with no entry enabled leaves the bells alone (R139). -/
theorem minuteEvent_none_enabled {s : State} (h : ∀ i, (vget s.bells.schedule i).enabled = false) :
    (minuteEvent s).bells = s.bells := by
  unfold minuteEvent
  split
  · rfl
  · dsimp only
    rw [evaluateSchedule_sweep, evaluateSchedule_none_enabled h]

/-- A minute event after the mirror was rewritten, as a whole (R3, R11). -/
theorem minuteEvent_writeMirror (v : State) :
    minuteEvent (writeMirror v) =
      { v with
        control :=
          { v.control with
            clockMirror := (minuteEvent (writeMirror v)).control.clockMirror
            presentMirror := (minuteEvent (writeMirror v)).control.presentMirror
            bus := (minuteEvent (writeMirror v)).control.bus, link := (minuteEvent (writeMirror v)).control.link }
        attendance := (minuteEvent (writeMirror v)).attendance
        roster := { v.roster with records := (minuteEvent (writeMirror v)).roster.records }
        journal := (minuteEvent (writeMirror v)).journal
        bells := { v.bells with zones := (minuteEvent (writeMirror v)).bells.zones } } := by
  conv_lhs => rw [minuteEvent_frame, minuteEvent_control, minuteEvent_roster]
  rfl

/-- Settles O8: the operands' ranges, then the minute event in the state with the clock set. -/
theorem setClockResult : Obligations.SetClockResult := by
  refine ⟨fun s origin day minute second wd ho n hn => ?_, fun s origin day minute second wd ho hm hs hw => ?_⟩
  · refine congrArg Host.Outcome.next ((runDirect_open ho _).trans ?_)
    have hb : firstBad [false, decide (1439 < minute.toNat), decide (59 < second.toNat), decide (6 < wd.toNat)] = some n :=
      firstBad_of_firstOut (by simp) hn
    unfold cmdSetClock
    rw [hb]
  · have hcmd : exec (.setClock origin day minute second wd) s = .next
        ((minuteEvent (s.clockSet origin ⟨day.toNat, minute.toNat, second.toNat⟩ wd.toNat)).answering (.done [])) := by
      refine congrArg Host.Outcome.next ((runDirect_open ho _).trans ?_)
      rw [cmdSetClock_inRange hm hs hw]
    have hday : day.toNat ≤ 65535 := by omega
    generalize htime : (⟨day.toNat, minute.toNat, second.toNat⟩ : Time) = time at hcmd ⊢
    have habs : time.absolute = day.toNat * 1440 + minute.toNat := by rw [← htime]; rfl
    obtain ⟨hd, hmin⟩ : time.day ≤ 65535 ∧ time.minute ≤ 1439 := by rw [← htime]; exact ⟨hday, hm⟩
    have hclock := s.clockWritten_time origin time wd.toNat
    have hbells := s.clockWritten_bells origin time wd.toNat
    have hall := Alike.clockWritten s origin time wd.toNat
    have hf := minuteEvent_writeMirror (s.clockWritten origin time wd.toNat)
    have hu : (s.clockSet origin time wd.toNat).time.clockUnset = false := congrArg TimeBase.clockUnset hclock
    have ht : (minuteEvent (s.clockSet origin time wd.toNat)).time = s.time.set time wd.toNat :=
      (congrArg State.time hf).trans hclock
    have hmirror : (minuteEvent (s.clockSet origin time wd.toNat)).control.clockMirror = time :=
      (minuteEvent_clockMirror _).trans (congrArg TimeBase.clock hclock)
    refine ⟨_, s.clockWritten origin time wd.toNat, hcmd, ht, congrArg (fun x => appendEntry _ { s with time := x }) ht.symm, hmirror, rfl,
      ?_, fun hnone => ?_, fun hord hp hmir => ?_, ?_, fun hb => ?_⟩
    · refine (congrArg (State.answering · (.done [])) hf).trans ?_
      rw [hall.roster, hbells]
      rfl
    · obtain ⟨h1, h2, h3, h4⟩ := minuteEvent_none_due (s := s.clockSet origin time wd.toNat) fun e he d hd' =>
        lt_of_eq_of_lt ((congrArg (fun t => t.clock.absolute) hclock).trans habs) (hnone e (hall.attendance ▸ he) d hd')
      refine ⟨h1.trans hall.attendance, h2.trans hall.roster, h3, h4.trans ?_⟩
      exact congrArg (fun c => { (s.clockWritten origin time wd.toNat).control with clockMirror := c })
        (congrArg TimeBase.clock hclock)
    · have h1 : swept (s.clockSet origin time wd.toNat) (minuteEvent (s.clockSet origin time wd.toNat)) :=
        swept_minuteEvent hu ((hord.alike hall).alike (.writeMirror _))
          ((hp.alike hall).alike (.writeMirror _)) ?_
      · obtain ⟨now, hnow, hsub, hatt, hmirror', hothers, hclosed, C, hC, hmem, hrec, hjournal⟩ := h1
        refine ⟨now, hnow, hsub, hatt, hmirror', hothers, hclosed, C, hC, hmem, hrec, hjournal.trans ?_⟩
        have hsame : SameLog (s.clockWritten origin time wd.toNat) (s.clockSet origin time wd.toNat) := ⟨rfl, rfl, rfl, rfl⟩
        exact (hsame.foldl (fun c => autoCloseEntry (s.clockWritten origin time wd.toNat).time.clock c.2 c.1
          (closingFigures (s.clockWritten origin time wd.toNat).pay c.2.payClass c.1 none)) C).journal
      · exact hall.mirror.trans ((hmir (running_of_engineOpen ho)).trans (congrArg List.length hall.attendance.symm))
    · exact rung_minuteEvent (v := s.clockSet origin time wd.toNat) hu ((congrArg (fun t => t.clock.day) hclock).trans_le hd)
        ((congrArg (fun t => t.clock.minute) hclock).trans_le hmin)
    · exact (minuteEvent_none_enabled (s := s.clockSet origin time wd.toNat) (hbells ▸ hb)).trans hbells

end Sys2Proof.Machine
end

section
/-! PROOFS. Power states and starts (sections 1.5 to 1.7): the trip, the arrival of mains, and what each kind of start keeps. -/

namespace Sys2Proof.Machine

/-! ## The trip (R12) -/

theorem loseVolatile_channel (c : Channel) (s : State) : (loseVolatile s).channel c = ChannelState.atStart := by
  simp [loseVolatile, State.channel, Control.restart, vget]

theorem loseVolatile_portState (p : Port) (s : State) :
    (loseVolatile s).portState p = { s.portState p with channelSummary := 0, eventSummary := 0, armed := true } := by
  cases p <;> rfl

/-- What is lost with the mains, as one state. -/
theorem loseVolatile_eq (s : State) :
    loseVolatile s =
      { s with
        memory := [], control := s.control.restart, link := LinkState.atStart s.pins.linkAddressPins
        lanes := s.lanes.map LaneState.lose, bells := s.bells.lose, journal := s.journal.loseMarks
        gate := { s.gate with windowCountdown := 0 } } := rfl

/-- A mains trip in MAINS-RUN (R12). -/
theorem mainsTrip_eq {s : State} (hp : s.time.power = .mainsRun) :
    mainsTrip s =
      { s with
        memory := [], control := s.control.restart, link := LinkState.atStart s.pins.linkAddressPins
        lanes := s.lanes.map LaneState.lose, bells := s.bells.lose, journal := s.journal.loseMarks
        gate := { s.gate with doors := s.gate.doors.map Door.lose, windowCountdown := 0 }
        time := { s.time with power := .batteryHold, start := none, selfTest := .notTested, holdDuration := 0 } } := by
  rw [mainsTrip, if_pos hp, loseVolatile_eq]
  rfl

/-- Settles O10: the trip's next state, field by field. -/
theorem mainsTripKeepsRetained : Obligations.MainsTripKeepsRetained := by
  intro s hp
  refine ⟨mainsTrip s, rfl, ?_⟩
  rw [mainsTrip_eq hp]
  refine ⟨rfl, rfl, rfl, rfl, rfl, rfl, fun l => ?_, fun l => ?_, rfl, rfl, rfl, fun c => ?_, rfl, rfl, rfl, rfl, fun p => ?_, rfl, rfl,
    rfl, rfl, fun l => ?_, fun z => ?_, rfl⟩
  · simp [State.lane, vget, LaneState.lose, LaneState.empty]
  · simp [State.door, vget, Door.lose]
  · simp [State.channel, Control.restart, vget]
  · cases p <;> rfl
  · simp [doorOutput]
  · simp [zoneOutput, running]

/-! ## Appends while the part does not run -/

/-- During stages 1 to 5 of a start an append changes the journal alone (R161). -/
theorem appendEntry_stopped {s : State} (h : running s = false) (b : EntryBody) :
    appendEntry b s = s.setJournal (s.journal.append s.time.clock b) := by simp [appendEntry, h]

/-! ## Lapses of a start (R41) -/

/-- The flags of a start's LAPSED entries. -/
def StartKind.lapseFlags (k : StartKind) : EntryFlags := { power := decide (k = .warm), reset := decide (k = .reset) }

theorem startLapseBody_eq (k : StartKind) (p : Slot × Record) (s : State) :
    startLapseBody k p.1 p.2 s = unknownLapse k.lapseFlags s.time.clock p := rfl

/-- The records that are pending, in their order. -/
def pendingIn (rs : List (Slot × Record)) : List (Slot × Record) := rs.filter fun p => p.2.pendingLane.isSome

/-- The lapses of a part that does not run: each pending record's entry, its pending lane cleared, and nothing else. -/
theorem lapseRecords_foldl (k : StartKind) (rs : List (Slot × Record)) {s : State} (h : running s = false) :
    rs.foldl (lapseRecord k) s =
        { s with
          roster := { s.roster with records := (rs.foldl (lapseRecord k) s).roster.records }
          journal := (pendingIn rs).foldl (fun j p => j.append s.time.clock (unknownLapse k.lapseFlags s.time.clock p)) s.journal } ∧
      ∀ a, (rs.foldl (lapseRecord k) s).record a =
        if ∃ p ∈ pendingIn rs, p.1 = a then (s.record a).map (fun r => { r with pendingLane := none }) else s.record a := by
  induction rs generalizing s with
  | nil => exact ⟨rfl, fun a => by simp [pendingIn]⟩
  | cons p rs ih =>
    rw [List.foldl_cons]
    by_cases hp : p.2.pendingLane.isSome = true
    · have h1 : lapseRecord k s p =
          (s.setJournal (s.journal.append s.time.clock (unknownLapse k.lapseFlags s.time.clock p))).modifyRecord p.1
            (fun r => { r with pendingLane := none }) := by
        rw [lapseRecord, if_pos hp, appendEntry_stopped h]
        rfl
      have hcons : pendingIn (p :: rs) = p :: pendingIn rs := List.filter_cons_of_pos hp
      obtain ⟨hf, hrec⟩ := ih (s := lapseRecord k s p) (by rw [h1]; exact h)
      refine ⟨?_, fun a => ?_⟩
      · rw [hf, hcons, h1]
        rfl
      · have h2 : (lapseRecord k s p).record a = if a = p.1 then (s.record a).map (fun r => { r with pendingLane := none }) else s.record a := by
          rw [h1, record_modifyRecord]
          rfl
        rw [hrec, h2, hcons]
        by_cases ha : a = p.1
        · have hmem : ∃ q ∈ p :: pendingIn rs, q.1 = a := ⟨p, List.mem_cons_self, ha.symm⟩
          rw [if_pos ha, if_pos hmem]
          split
          · rw [Option.map_map]; rfl
          · rfl
        · have hiff : (∃ q ∈ p :: pendingIn rs, q.1 = a) ↔ ∃ q ∈ pendingIn rs, q.1 = a := by simp [Ne.symm ha]
          rw [if_neg ha]
          exact if_congr hiff.symm rfl rfl
    · have h1 : lapseRecord k s p = s := if_neg hp
      have hcons : pendingIn (p :: rs) = pendingIn rs := List.filter_cons_of_neg hp
      rw [h1, hcons]
      exact ih h

/-! ## Starts that keep the retained items (R15, R17) -/

/-- A warm or reset start up to its self-test: what stays, what is lost, and what it journals. -/
theorem runStart_keeps {k : StartKind} (hk : k ≠ .cold) (w : Bool) (s : State) :
    runStart k w s =
        { loseVolatile s with
          time :=
            { s.time with
              power := .mainsRun, start := some ⟨k, .selfTest⟩, selfTest := .testing
              holdDuration := if k = .warm then 0 else s.time.holdDuration }
          roster := { s.roster with records := (runStart k w s).roster.records }
          journal :=
            (pendingIn s.roster.records).foldl
              (fun j p => j.append s.time.clock (unknownLapse k.lapseFlags s.time.clock p))
              (s.journal.loseMarks.append s.time.clock (startEntryBody k s)) } ∧
      ∀ a, (runStart k w s).record a = (s.record a).map (fun r => { r with pendingLane := none }) := by
  have h1 : stageEntry k (stageRetained k w (stageDecision k s)) =
      { loseVolatile s with
        time :=
          { s.time with
            power := .mainsRun, start := some ⟨k, .startEntry⟩, selfTest := .notTested
            holdDuration := if k = .warm then 0 else s.time.holdDuration }
        journal := s.journal.loseMarks.append s.time.clock (startEntryBody k s) } := by
    unfold stageEntry
    rw [appendEntry_stopped (by cases k <;> rfl)]
    cases k
    · exact absurd rfl hk
    · rfl
    · rfl
  obtain ⟨hf, hrec⟩ := lapseRecords_foldl k s.roster.records (s := stageEntry k (stageRetained k w (stageDecision k s)))
    (by rw [h1]; rfl)
  have hrun : runStart k w s = stageSelfTest k (reachStage k .lapses
      (s.roster.records.foldl (lapseRecord k) (stageEntry k (stageRetained k w (stageDecision k s))))) := by
    unfold runStart stageLapses
    rw [h1]
    rfl
  refine ⟨?_, fun a => ?_⟩
  · rw [hrun, hf, h1]
    rfl
  · have h2 : (runStart k w s).record a =
        (s.roster.records.foldl (lapseRecord k) (stageEntry k (stageRetained k w (stageDecision k s)))).record a := by rw [hrun]; rfl
    have h3 : (stageEntry k (stageRetained k w (stageDecision k s))).record a = s.record a := by rw [h1]; rfl
    rw [h2, hrec, h3]
    split
    · rfl
    · next hno =>
      cases hr : s.record a with
      | none => rfl
      | some r =>
        have hl : r.pendingLane = none := by
          by_contra hne
          exact hno ⟨(a, r), List.mem_filter.mpr ⟨mem_of_recordAt hr, Option.isSome_iff_ne_none.mpr hne⟩, rfl⟩
        rw [Option.map_some, ← hl]

/-- The retained blocks at their cold-start values and the volatile ones restarted, with a time base and a journal. -/
def State.coldWith (t : TimeBase) (j : Journal) (s : State) : State :=
  { s with
    time := t, roster := Roster.empty
    lanes := Vector.replicate 4 (LaneState.empty LaneConfig.cold)
    gate := { s.gate with windowCountdown := 0 }.coldValues
    pay := PayTables.cold, attendance := [], bells := Bells.cold, journal := j, memory := []
    control := s.control.restart, link := LinkState.atStart s.pins.linkAddressPins }

/-- The time base of a cold start at a stage. -/
def TimeBase.coldAt (t : TimeBase) (w : Bool) (stage : StartStage) (test : SelfTest) (mark : Bool) : TimeBase :=
  { t.coldValues w with power := .mainsRun, start := some ⟨.cold, stage⟩, selfTest := test, retentionMark := mark }

theorem stageRetained_cold (w : Bool) (s : State) :
    stageRetained .cold w (stageDecision .cold s) = s.coldWith (s.time.coldAt w .retained .notTested false) Journal.empty := by
  rw [stageDecision, loseVolatile_eq]
  rfl

theorem stageEntry_cold (t : TimeBase) (w : Bool) (j : Journal) (s : State) :
    stageEntry .cold (s.coldWith (t.coldAt w .retained .notTested false) j) =
      s.coldWith (t.coldAt w .startEntry .notTested true) (j.append Time.zero (plainBody .coldStart Time.zero)) := by
  rw [stageEntry, appendEntry_stopped rfl]
  rfl

theorem coldStart_journal : Journal.empty.append Time.zero (plainBody .coldStart Time.zero) = State.reset.journal := by decide

/-- A cold start up to its self-test: no record is left to lapse. -/
theorem runStart_cold (w : Bool) (s : State) :
    runStart .cold w s = s.coldWith (s.time.coldAt w .selfTest .testing true) State.reset.journal := by
  rw [runStart, stageRetained_cold, stageEntry_cold, coldStart_journal]
  rfl

/-! ## The arrival of mains (R14, TABLE 1-4) -/

theorem mainsArrival_lost {s : State} (hp : s.time.power ≠ .mainsRun) (hl : s.time.retentionLatch = true) :
    mainsArrival s = runStart .cold true s := by
  unfold mainsArrival
  split
  · next h => exact absurd h hp
  · exact if_pos hl

theorem mainsArrival_warm {s : State} (hp : s.time.power ≠ .mainsRun) (hl : s.time.retentionLatch = false)
    (hm : s.time.retentionMark = true) : mainsArrival s = runStart .warm false s := by
  unfold mainsArrival
  split
  · next h => exact absurd h hp
  · rw [if_neg (by simp [hl]), if_pos hm]

theorem mainsArrival_cold {s : State} (hp : s.time.power ≠ .mainsRun) (hl : s.time.retentionLatch = false)
    (hm : s.time.retentionMark = false) : mainsArrival s = runStart .cold false s := by
  unfold mainsArrival
  split
  · next h => exact absurd h hp
  · rw [if_neg (by simp [hl]), if_neg (by simp [hm])]

theorem runStart_keeps_time {k : StartKind} (hk : k ≠ .cold) (w : Bool) (s : State) :
    (runStart k w s).time =
      { s.time with
        power := .mainsRun, start := some ⟨k, .selfTest⟩, selfTest := .testing
        holdDuration := if k = .warm then 0 else s.time.holdDuration } :=
  congrArg State.time (runStart_keeps hk w s).1

theorem runStart_reset_time (w : Bool) {s : State} (hp : s.time.power = .mainsRun) :
    (runStart .reset w s).time = { s.time with start := some ⟨.reset, .selfTest⟩, selfTest := .testing } :=
  (runStart_keeps_time (by decide) w s).trans (by simp [hp])

theorem runStart_cold_time (w : Bool) (s : State) :
    (runStart .cold w s).time = s.time.coldAt w .selfTest .testing true :=
  congrArg State.time (runStart_cold w s)

/-- Settles O11: the latch, then the mark, decide between a cold and a warm start. -/
theorem mainsArrivalDecides : Obligations.MainsArrivalDecides := by
  intro s hp
  refine ⟨mainsArrival s, rfl, ?_⟩
  cases hl : s.time.retentionLatch with
  | true =>
    have ht := (congrArg State.time (mainsArrival_lost hp hl)).trans (runStart_cold_time true s)
    simp [ht, TimeBase.coldAt, TimeBase.coldValues]
  | false =>
    cases hm : s.time.retentionMark with
    | true =>
      have ht := (congrArg State.time (mainsArrival_warm hp hl hm)).trans (runStart_keeps_time (by decide) false s)
      simp [ht, hm]
    | false =>
      have ht := (congrArg State.time (mainsArrival_cold hp hl hm)).trans (runStart_cold_time false s)
      simp [ht, TimeBase.coldAt, TimeBase.coldValues]

/-! ## Warm and reset starts -/

/-- The pending records of a lawful roster stand in slot order. -/
theorem pendingRecords_pendingIn {s : State} (h : RosterLaw s.roster) : pendingRecords s (pendingIn s.roster.records) := by
  refine ⟨h.slots.sublist List.filter_sublist, fun a r => ?_⟩
  rw [pendingIn, List.mem_filter, Option.isSome_iff_ne_none]
  exact and_congr_left fun _ => ⟨recordAt_of_mem h.slots, mem_of_recordAt⟩

theorem runStart_keeps_journal {k : StartKind} (hk : k ≠ .cold) (w : Bool) (s : State) :
    (runStart k w s).journal =
      (pendingIn s.roster.records).foldl (fun j p => j.append s.time.clock (unknownLapse k.lapseFlags s.time.clock p))
        (s.journal.loseMarks.append s.time.clock (startEntryBody k s)) :=
  congrArg State.journal (runStart_keeps hk w s).1

/-- Settles O13: the records lapse in slot order and all else retained stays. -/
theorem warmStartKeepsRetained : Obligations.WarmStartKeepsRetained := by
  intro s hp hl hm
  have hrun := mainsArrival_warm (by simp [hp]) hl hm
  have hj := runStart_keeps_journal (k := .warm) (by decide) false s
  obtain ⟨hf, hrec⟩ := runStart_keeps (k := .warm) (by decide) false s
  refine ⟨runStart .warm false s, congrArg Host.Outcome.next hrun, runStart_keeps_time (by decide) false s, hrec, ?_⟩
  rw [hf]
  refine ⟨rfl, rfl, rfl, rfl, rfl, rfl, rfl, rfl, fun l => ?_, fun hnone => ?_, rfl, fun hlaw => ?_⟩
  · show ((loseVolatile s).lane l).config = _
    rw [loseVolatile_lane]
    rfl
  · have hnil : pendingIn s.roster.records = [] := List.filter_eq_nil_iff.mpr fun p hp => by simp [hnone p hp]
    show List.foldl _ _ (pendingIn s.roster.records) = _
    rw [hnil]
    rfl
  · exact ⟨_, pendingRecords_pendingIn hlaw, rfl⟩

/-- Settles O14: a reset start, or the start begun again. -/
theorem resetAssertRestarts : Obligations.ResetAssertRestarts := by
  intro s
  refine ⟨fun hrun => ?_, fun kind stage hp hs => ⟨resetAsserts s, rfl, fun hstage => ?_, fun hstage => ?_⟩⟩
  · obtain ⟨hp, hs⟩ := (running_iff s).mp hrun
    have heq : resetAsserts s = runStart .reset false s := by rw [resetAsserts, if_pos hp, resetKind, hs]
    obtain ⟨hf, hrec⟩ := runStart_keeps (k := .reset) (by decide) false s
    refine ⟨runStart .reset false s, congrArg Host.Outcome.next heq, ?_, ?_, hrec, ?_⟩
    · exact runStart_reset_time false hp
    · rw [hf]; rfl
    rw [hf]
    refine ⟨rfl, rfl, fun c => loseVolatile_channel c s, rfl, fun p => ?_, fun l => ?_, fun z => ?_, fun z => ?_, fun hlaw => ?_⟩
    · show ((loseVolatile s).portState p).armed = true ∧ ((loseVolatile s).portState p).channelSummary = 0 ∧
        ((loseVolatile s).portState p).eventSummary = 0
      simp [loseVolatile_portState]
    · show ((loseVolatile s).lane l).pending = none ∧ ((loseVolatile s).lane l).waiting = none ∧ ((loseVolatile s).lane l).bits = []
      simp [loseVolatile_lane, LaneState.empty]
    · show vget (Vector.replicate 8 none) z = none
      simp [vget]
    · simp [zoneOutput, running]
    · exact ⟨_, pendingRecords_pendingIn hlaw, rfl⟩
  · have hk : resetKind s = .reset := by
      have hentry : stage.beforeEntry = false := by cases stage <;> simp_all [StartStage.beforeEntry]
      rw [resetKind, hs]
      exact if_neg (by simp [hentry])
    have heq : resetAsserts s = runStart .reset false s := by rw [resetAsserts, if_pos hp, hk]
    rw [heq, runStart_reset_time false hp]
  · have hk : resetKind s = kind := by
      rw [resetKind, hs]
      rcases hstage with rfl | rfl <;> rfl
    have heq : resetAsserts s = runStart kind false s := by rw [resetAsserts, if_pos hp, hk]
    rw [heq]
    by_cases hcold : kind = .cold
    · subst hcold
      rw [runStart_cold]
      exact ⟨rfl, rfl, rfl, fun _ => ⟨rfl, rfl, rfl, rfl⟩, fun h => by cases h⟩
    · have ht := runStart_keeps_time hcold false s
      refine ⟨by rw [ht], by rw [ht], by rw [ht], fun h => absurd h hcold, fun hw hlaw => ⟨?_, _, pendingRecords_pendingIn hlaw, ?_⟩⟩
      · rw [ht, if_pos hw]
      · subst hw
        exact runStart_keeps_journal hcold false s

end Sys2Proof.Machine
end

section
/-! PROOFS. The end of a start (section 1.6): notices, thresholds, the doors set up, and the emergency line sampled. -/

namespace Sys2Proof.Machine

/-! ## Notices (R181) -/

theorem or_shiftLeft_of_getLsbD {w : Word} {n : Nat} (h : w.getLsbD n = true) : w ||| (1#16 <<< n) = w := by
  apply BitVec.eq_of_getLsbD_eq
  intro i hi
  by_cases hn : i = n
  · subst hn; simp [h]
  · rw [BitVec.getLsbD_or, BitVec.getLsbD_shiftLeft]
    have : (1#16).getLsbD (i - n) = true → i < n ∨ i = n := by
      rw [BitVec.getLsbD_one]
      simp only [Bool.and_eq_true, decide_eq_true_eq]
      omega
    grind

theorem PortState.attend_summaries (p : PortState) :
    p.attend.eventSummary = p.eventSummary ∧ p.attend.channelSummary = p.channelSummary := by
  unfold PortState.attend
  split <;> exact ⟨rfl, rfl⟩

theorem PortState.note_event_eventSummary (p : PortState) (n : Nat) :
    (p.note .eventWord n).eventSummary = p.eventSummary ||| (1#16 <<< n) := by
  unfold PortState.note
  dsimp only
  split
  · next h => exact (or_shiftLeft_of_getLsbD h).symm
  · exact (PortState.attend_summaries _).1

theorem PortState.note_event_channelSummary (p : PortState) (n : Nat) : (p.note .eventWord n).channelSummary = p.channelSummary := by
  unfold PortState.note
  dsimp only
  split
  · rfl
  · exact (PortState.attend_summaries _).2

theorem raiseCause_frame (p : Port) (c : Cause) (s : State) :
    raiseCause p c s =
      { s with control := { s.control with bus := (raiseCause p c s).control.bus, link := (raiseCause p c s).control.link } } := by
  cases p <;> rfl

theorem raiseBoth_frame (c : Cause) (s : State) :
    raiseBoth c s =
      { s with control := { s.control with bus := (raiseBoth c s).control.bus, link := (raiseBoth c s).control.link } } := rfl

theorem raiseBoth_portState (c : Cause) (p : Port) (s : State) :
    (raiseBoth c s).portState p = (s.portState p).note .eventWord c.bit := by
  cases p <;> rfl

/-- The cause as a mask of the event word. -/
def Cause.mask (c : Cause) : Word := 1#16 <<< c.bit

theorem raiseBoth_eventSummary (c : Cause) (p : Port) (s : State) :
    ((raiseBoth c s).portState p).eventSummary = (s.portState p).eventSummary ||| c.mask := by
  rw [raiseBoth_portState, PortState.note_event_eventSummary, Cause.mask]

theorem raiseBoth_channelSummary (c : Cause) (p : Port) (s : State) :
    ((raiseBoth c s).portState p).channelSummary = (s.portState p).channelSummary := by
  rw [raiseBoth_portState, PortState.note_event_channelSummary]

/-! ## Thresholds (R161) -/

theorem reaches_iff (s : State) (p : Port) : s.journal.reaches p = true ↔ reachesThreshold s p := by
  simp [Journal.reaches, reachesThreshold, and_comm]

/-- What one examination leaves: the port's mark and summary, and nothing else. -/
theorem examineHigh_frame (p : Port) (s : State) :
    examineHigh p s =
      { s with
        control := { s.control with bus := (examineHigh p s).control.bus, link := (examineHigh p s).control.link }
        journal :=
          { s.journal with
            bus := { s.journal.bus with highMark := (examineHigh p s).journal.bus.highMark }
            link := { s.journal.link with highMark := (examineHigh p s).journal.link.highMark } } } := by
  unfold examineHigh
  split
  · cases p <;> rfl
  · rfl

theorem examineHigh_highMark (p q : Port) (s : State) :
    ((examineHigh p s).journal.consumer q).highMark =
      ((s.journal.consumer q).highMark || (decide (q = p) && s.journal.reaches p)) := by
  unfold examineHigh
  split
  · next h => cases p <;> cases q <;> simp [h, raiseCause, notice, Journal.setConsumer, Journal.consumer]
  · next h => simp [h]

theorem examineBoth_frame (s : State) :
    examineBoth s =
      { s with
        control := { s.control with bus := (examineBoth s).control.bus, link := (examineBoth s).control.link }
        journal :=
          { s.journal with
            bus := { s.journal.bus with highMark := (examineBoth s).journal.bus.highMark }
            link := { s.journal.link with highMark := (examineBoth s).journal.link.highMark } } } := by
  unfold examineBoth
  rw [examineHigh_frame .link, examineHigh_frame .bus]

theorem examineHigh_bus_reaches_link (s : State) : (examineHigh .bus s).journal.reaches .link = s.journal.reaches .link := by
  unfold examineHigh
  split <;> rfl

theorem examineBoth_highMark (p : Port) (s : State) :
    ((examineBoth s).journal.consumer p).highMark = ((s.journal.consumer p).highMark || s.journal.reaches p) := by
  unfold examineBoth
  rw [examineHigh_highMark, examineHigh_bus_reaches_link, examineHigh_highMark]
  cases p <;> simp

theorem examineBoth_portState (p : Port) (s : State) :
    (examineBoth s).portState p =
      if s.journal.reaches p = true then (s.portState p).note .eventWord Cause.journalHigh.bit else s.portState p := by
  unfold examineBoth
  rw [examineHigh_portState, examineHigh_bus_reaches_link, examineHigh_portState, examineHigh_portState]
  cases p <;> simp

/-! ## The start notices (R21) -/

theorem startNotices_frame (kind : StartKind) (s : State) :
    startNotices kind s =
      { s with
        control := { s.control with bus := (startNotices kind s).control.bus, link := (startNotices kind s).control.link } } := by
  unfold startNotices
  dsimp only
  split <;> split <;> rfl

theorem startNotices_channelSummary (kind : StartKind) (p : Port) (s : State) :
    ((startNotices kind s).portState p).channelSummary = (s.portState p).channelSummary := by
  unfold startNotices
  dsimp only
  split <;> split <;> simp [raiseBoth_channelSummary]

theorem startNotices_eventSummary (kind : StartKind) (p : Port) (s : State) :
    ((startNotices kind s).portState p).eventSummary =
      (s.portState p).eventSummary ||| (if kind = .reset then 0 else 8) ||| (if s.time.clockUnset = true then 16 else 0) := by
  unfold startNotices
  dsimp only
  split <;> split <;> simp_all [raiseBoth_eventSummary, Cause.mask, Cause.bit]

theorem startNotices_reaches (kind : StartKind) (p : Port) (s : State) : (startNotices kind s).journal.reaches p = s.journal.reaches p := by
  rw [startNotices_frame]

/-- The start notices and the examination, from the state whose doors are set up. -/
theorem noticedFrom_examineBoth (kind : StartKind) (u : State) : noticedFrom kind u (examineBoth (startNotices kind u)) := by
  refine ⟨?_, fun p => ⟨?_, if u.journal.reaches p = true then 1 else 0, ?_, ?_⟩⟩
  · rw [examineBoth_frame, startNotices_frame]
  · rw [examineBoth_portState]
    split
    · rw [PortState.note_event_channelSummary, startNotices_channelSummary]
    · rw [startNotices_channelSummary]
  · rw [examineBoth_highMark, startNotices_reaches, ← reaches_iff]
    have hj : (startNotices kind u).journal = u.journal := by rw [startNotices_frame]
    rw [hj]
    cases u.journal.reaches p <;> simp
  · rw [examineBoth_portState, startNotices_reaches, apply_ite PortState.eventSummary, PortState.note_event_eventSummary,
      startNotices_eventSummary]
    cases u.journal.reaches p <;> simp [Cause.bit]

/-! ## Doors, lane by lane -/

/-- A state that differs in its doors alone. -/
def sameButDoors (s t : State) : Prop := t = { s with gate := { s.gate with doors := t.gate.doors } }

theorem sameButDoors.setDoor {s t : State} (h : sameButDoors s t) (l : Lane) (d : Door) : sameButDoors s (t.setDoor l d) := by
  unfold sameButDoors at *
  conv_lhs => rw [h]
  rfl

/-- A pass over lanes that replaces each lane's door by one fixed before. -/
theorem foldl_setDoor {s : State} {f : Lane → State → State} (h : Lane → Door) {ls : List Lane} (hn : ls.Nodup)
    (hf : ∀ l ∈ ls, ∀ t, sameButDoors s t → t.door l = s.door l → f l t = t.setDoor l (h l)) {t : State} (ht : sameButDoors s t)
    (hd : ∀ l ∈ ls, t.door l = s.door l) :
    sameButDoors s (ls.foldl (fun acc l => f l acc) t) ∧
      ∀ l, (ls.foldl (fun acc l => f l acc) t).door l = if l ∈ ls then h l else t.door l := by
  induction ls generalizing t with
  | nil => exact ⟨ht, fun l => by simp⟩
  | cons k ks ih =>
    obtain ⟨hk, hks⟩ := List.nodup_cons.mp hn
    have h1 : f k t = t.setDoor k (h k) := hf k List.mem_cons_self t ht (hd k List.mem_cons_self)
    have hne : ∀ l ∈ ks, l ≠ k := fun l hl e => hk (e ▸ hl)
    obtain ⟨hfr, hdr⟩ := ih hks (fun l hl => hf l (List.mem_cons_of_mem _ hl)) (t := f k t) (h1 ▸ ht.setDoor k (h k))
      (fun l hl => by rw [h1, State.door_setDoor_other _ _ _ _ (hne l hl)]; exact hd l (List.mem_cons_of_mem _ hl))
    refine ⟨hfr, fun l => (hdr l).trans ?_⟩
    rw [h1]
    by_cases hl : l = k
    · subst hl; simp [hk]
    · simp [hl]

theorem allLanes_nodup : allLanes.Nodup := List.nodup_finRange 4

theorem mem_allLanes (l : Lane) : l ∈ allLanes := List.mem_finRange l

/-- The pass over all four lanes. -/
theorem foldl_allLanes_setDoor {s : State} {f : Lane → State → State} (h : Lane → Door)
    (hf : ∀ l t, sameButDoors s t → t.door l = s.door l → f l t = t.setDoor l (h l)) :
    sameButDoors s (allLanes.foldl (fun acc l => f l acc) s) ∧ ∀ l, (allLanes.foldl (fun acc l => f l acc) s).door l = h l := by
  obtain ⟨hs, hd⟩ := foldl_setDoor (s := s) (t := s) h allLanes_nodup (fun l _ => hf l) rfl (fun l _ => rfl)
  exact ⟨hs, fun l => (hd l).trans (if_pos (mem_allLanes l))⟩

/-! ## The doors at stage 6 (R134) -/

/-- The door that stage 6 sets up at a lane. -/
def doorSetUp (s : State) (l : Lane) : Door :=
  { s.door l with
    mode := .normal, freed := false, heldBell := false, release := 0
    contactOpen := vget s.pins.contactOpen l
    status :=
      if s.gate.lockdown = true then .lockdown
      else if (s.lane l).config.sensor = .contact ∧ vget s.pins.contactOpen l = true then .passing else .locked
    heldCount :=
      if s.gate.lockdown = false ∧ (s.lane l).config.sensor = .contact ∧ vget s.pins.contactOpen l = true then
        (s.lane l).config.heldLimit * 100
      else 0 }

theorem setUpDoor_eq {s t : State} (l : Lane) (h : sameButDoors s t) (hd : t.door l = s.door l) :
    setUpDoor l t = t.setDoor l (doorSetUp s l) := by
  have hl : t.lane l = s.lane l := by rw [h]; rfl
  have hp : t.pins = s.pins := by rw [h]
  have hg : t.gate.lockdown = s.gate.lockdown := by rw [h]
  unfold setUpDoor
  refine congrArg (t.setDoor l) ?_
  rw [hd, hl, hp, hg]
  unfold doorSetUp Door.toLocked Door.toPassing Door.rest heldTicks
  by_cases hk : s.gate.lockdown = true
  · simp [hk]
  · by_cases hc : (s.lane l).config.sensor = .contact ∧ vget s.pins.contactOpen l = true
    · simp [hk, hc]
    · simp [hk, hc]

/-- The doors set up, the emergency line not yet sampled. -/
def setUpDoors (s : State) : State := allLanes.foldl (fun acc l => setUpDoor l acc) s

theorem setUpDoors_spec (s : State) : sameButDoors s (setUpDoors s) ∧ ∀ l, (setUpDoors s).door l = doorSetUp s l :=
  foldl_allLanes_setDoor (doorSetUp s) (fun l _ h hd => setUpDoor_eq l h hd)

/-- The state whose doors stage 6 sets up: started, the mirrors written, pages 1–31 zero. -/
def State.started (s : State) (passed : Bool) : State :=
  { s with
    time := { s.time with start := none, selfTest := if passed then .passed else .failed }
    memory := []
    control := { s.control with clockMirror := s.time.clock, presentMirror := s.attendance.length } }

theorem selfTestEnds_eq {s : State} {kind : StartKind} (hp : s.time.power = .mainsRun) (hs : s.time.start = some ⟨kind, .selfTest⟩)
    (passed : Bool) :
    selfTestEnds passed s = examineBoth (startNotices kind (reconcileEmergency (setUpDoors (s.started passed)))) := by
  rw [selfTestEnds, hs]
  exact if_pos ⟨hp, rfl⟩

theorem setUpDoors_started (s : State) (passed : Bool) :
    setUpDoors (s.started passed) =
        { s.started passed with gate := { s.gate with doors := (setUpDoors (s.started passed)).gate.doors } } ∧
      ∀ l, (setUpDoors (s.started passed)).door l = doorSetUp s l :=
  setUpDoors_spec (s.started passed)

theorem setUpAs_setUpDoors (s : State) (passed : Bool) : setUpAs s (setUpDoors (s.started passed)) := by
  obtain ⟨hf, hd⟩ := setUpDoors_started s passed
  exact ⟨by conv_lhs => rw [hf], hd⟩

/-! ## The emergency line at stage 6 -/

theorem State.setDoor_setDoor (s : State) (l : Lane) (d e : Door) : (s.setDoor l d).setDoor l e = s.setDoor l e := by
  have h : vset (vset s.gate.doors l d) l e = vset s.gate.doors l e := vector_ext_vget fun i => by
    rw [vget_vset, vget_vset, vget_vset]; split <;> rfl
  simp only [State.setDoor, State.setGate_gate, h]
  rfl

theorem State.setDoor_door (s : State) (l : Lane) : s.setDoor l (s.door l) = s := by
  simp [State.setDoor, State.door, State.setGate]

/-- With the held-bell mark clear a FAIL-FREE lane is freed without a change to the bells. -/
theorem emergencyFree_eq {s : State} {l : Lane} (h : (s.door l).heldBell = false) :
    emergencyFree l s = s.setDoor l
      (if (s.lane l).config.failState = .failFree then
        { s.door l with status := .free, freed := true, release := 0, heldCount := 0 }
      else s.door l) := by
  unfold emergencyFree
  split
  · simp [restDoor, stopHeldBell, h, Door.rest, State.setDoor_setDoor]
  · exact (s.setDoor_door l).symm

/-- The line found asserting in a retained emergency: no edge, the FAIL-FREE doors freed and the evacuation begun again. -/
theorem continueEmergency_spec {u : State} (h : ∀ l, (u.door l).heldBell = false) :
    (continueEmergency u).gate = { u.gate with doors := (continueEmergency u).gate.doors } ∧
      (∀ l, (continueEmergency u).door l =
        if (u.lane l).config.failState = .failFree then
          { u.door l with status := .free, freed := true, release := 0, heldCount := 0 }
        else u.door l) ∧
      requested u.bells.emergencyMask 7 .evacuation { u.bells with locked := u.bells.emergencyMask } (continueEmergency u).bells ∧
      (∀ p, ((continueEmergency u).portState p).eventSummary = (u.portState p).eventSummary ||| 4) ∧
      continueEmergency u =
        { u with
          gate := (continueEmergency u).gate, bells := (continueEmergency u).bells
          control :=
            { u.control with
              bus := (continueEmergency u).control.bus, link := (continueEmergency u).control.link } } := by
  obtain ⟨hf, hd⟩ := foldl_allLanes_setDoor (s := u) (f := emergencyFree)
    (fun l => if (u.lane l).config.failState = .failFree then
        { u.door l with status := .free, freed := true, release := 0, heldCount := 0 }
      else u.door l)
    (fun l t ht hl => by
      have hlane : t.lane l = u.lane l := by rw [ht]; rfl
      rw [emergencyFree_eq (by rw [hl]; exact h l), hl, hlane])
  unfold continueEmergency
  generalize allLanes.foldl (fun acc l => emergencyFree l acc) u = v at hf hd
  obtain ⟨doors, rfl⟩ : ∃ doors, v = { u with gate := { u.gate with doors } } := ⟨_, hf⟩
  refine ⟨rfl, hd, Bells.requestAll_spec .., fun p => ?_, rfl⟩
  rw [raiseBoth_eventSummary]
  cases p <;> rfl

theorem lineAsserts_eq {u : State} (hr : running u = true) (hp : u.pins.emergencyLine = true) (he : u.gate.emergency = false) :
    lineAsserts u = assertEmergency u := by
  have h0 : u.setPins { u.pins with emergencyLine := true } = u := by rw [← hp]; rfl
  unfold lineAsserts
  simp [h0, hr, he]

theorem lineReleases_eq {u : State} (hr : running u = true) (hp : u.pins.emergencyLine = false) (he : u.gate.emergency = true) :
    lineReleases u = releaseEmergency u := by
  have h0 : u.setPins { u.pins with emergencyLine := false } = u := by rw [← hp]; rfl
  unfold lineReleases
  simp [h0, hr, he]

theorem running_setUpDoors_started {s : State} (hp : s.time.power = .mainsRun) (passed : Bool) :
    running (setUpDoors (s.started passed)) = true := by
  rw [(setUpDoors_started s passed).1]
  exact (running_iff _).mpr ⟨hp, rfl⟩

theorem setUpDoors_started_pins (s : State) (passed : Bool) : (setUpDoors (s.started passed)).pins = s.pins := by
  rw [(setUpDoors_started s passed).1]
  rfl

theorem setUpDoors_started_emergency (s : State) (passed : Bool) :
    (setUpDoors (s.started passed)).gate.emergency = s.gate.emergency := by
  rw [(setUpDoors_started s passed).1]

/-- Stage 6 with the line released and no emergency retained: the doors as set up are not changed. -/
theorem reconcileEmergency_quiet {u : State} (hl : u.pins.emergencyLine = false) (he : u.gate.emergency = false) :
    reconcileEmergency u = u := by rw [reconcileEmergency, hl, he]

/-- What the notices leave of a state set up. -/
theorem noticedFrom.opened {kind : StartKind} {u t : State} (h : noticedFrom kind u t) :
    t.time = u.time ∧ t.memory = u.memory ∧ t.control.clockMirror = u.control.clockMirror ∧
      t.control.presentMirror = u.control.presentMirror ∧ (∀ l, t.door l = u.door l) ∧
      (∀ p, kind ≠ .reset → (t.portState p).eventSummary.getLsbD 3 = true) ∧
      (∀ p, u.time.clockUnset = true → (t.portState p).eventSummary.getLsbD 4 = true) ∧
      t.roster = u.roster ∧ t.attendance = u.attendance ∧ t.lanes = u.lanes ∧ t.pay = u.pay := by
  obtain ⟨hf, hp⟩ := h
  have hbits (p : Port) : (kind ≠ .reset → (t.portState p).eventSummary.getLsbD 3 = true) ∧
      (u.time.clockUnset = true → (t.portState p).eventSummary.getLsbD 4 = true) := by
    obtain ⟨-, high, -, he⟩ := hp p
    rw [he]
    exact ⟨fun hk => by simp [hk], fun hu => by simp [hu]⟩
  refine ⟨?_, ?_, ?_, ?_, fun l => ?_, fun p => (hbits p).1, fun p => (hbits p).2, ?_, ?_, ?_, ?_⟩ <;> (rw [hf]; try rfl)

/-- Settles O15: the started state, its doors, the line's four cases and the notices. -/
theorem selfTestEndOpensGate : Obligations.SelfTestEndOpensGate := by
  intro s passed kind hp hs
  obtain ⟨hf, hd⟩ := setUpDoors_started s passed
  have hset := setUpAs_setUpDoors s passed
  have hrun := running_setUpDoors_started hp passed
  have heq := selfTestEnds_eq hp hs passed
  generalize setUpDoors (s.started passed) = u at *
  obtain ⟨doors, rfl⟩ : ∃ doors, u = { s.started passed with gate := { s.gate with doors } } := ⟨_, hf⟩
  generalize hu : ({ s.started passed with gate := { s.gate with doors } } : State) = u at *
  have hpins : u.pins = s.pins := by rw [← hu]; rfl
  have hemergency : u.gate.emergency = s.gate.emergency := by rw [← hu]
  have hquiet (hl : s.pins.emergencyLine = false) (he : s.gate.emergency = false) : noticedFrom kind u (selfTestEnds passed s) := by
    rw [heq, reconcileEmergency_quiet (hpins ▸ hl) (hemergency.trans he)]
    exact noticedFrom_examineBoth kind u
  refine ⟨fun hl he => ⟨_, rfl, ?_⟩, selfTestEnds passed s, u, rfl, hset, hu ▸ rfl, hquiet,
    fun hl he => ?_, fun hl he => ?_, fun hl he => ?_⟩
  · obtain ⟨htime, hmem, hclock, hpresent, hdoor, hpower, hunset, hroster, hatt, hlanes, hpay⟩ := (hquiet hl he).opened
    have htime' := htime.trans (congrArg State.time hu.symm)
    have hopen : engineOpen (selfTestEnds passed s) = passed := by
      rw [engineOpen, running, htime']
      cases passed <;> simp [State.started, hp]
    refine ⟨htime', hopen, hmem.trans (hu ▸ rfl), hclock.trans (hu ▸ rfl), hpresent.trans (hu ▸ rfl), fun l => ?_, hpower,
      fun p hc => hunset p (hu ▸ hc), hroster.trans (hu ▸ rfl), hatt.trans (hu ▸ rfl), hlanes.trans (hu ▸ rfl), hpay.trans (hu ▸ rfl)⟩
    rw [hdoor, hd]
    exact ⟨rfl, rfl, rfl, rfl, rfl⟩
  · have hl' : u.pins.emergencyLine = true := hpins ▸ hl
    have he' : u.gate.emergency = false := hemergency.trans he
    refine ⟨assertEmergency u, congrArg Host.Outcome.next (lineAsserts_eq hrun hl' he'), ?_⟩
    rw [heq, reconcileEmergency, hl', he']
    exact noticedFrom_examineBoth kind _
  · have hl' : u.pins.emergencyLine = false := hpins ▸ hl
    have he' : u.gate.emergency = true := hemergency.trans he
    refine ⟨releaseEmergency u, congrArg Host.Outcome.next (lineReleases_eq hrun hl' he'), ?_⟩
    rw [heq, reconcileEmergency, hl', he']
    exact noticedFrom_examineBoth kind _
  · have hl' : u.pins.emergencyLine = true := hpins ▸ hl
    have he' : u.gate.emergency = true := hemergency.trans he
    obtain ⟨hgate, hfreed, hbells, hports, hframe⟩ := continueEmergency_spec (u := u) fun l => by rw [hd]; rfl
    refine ⟨continueEmergency u, ?_, hgate.trans (hu ▸ rfl), fun l => (hfreed l).trans (hu ▸ rfl), ?_, hports, hframe⟩
    · rw [heq, reconcileEmergency, hl', he']
      exact noticedFrom_examineBoth kind _
    · have hb : u.bells = s.bells := hu ▸ rfl
      rw [hb] at hbells
      exact hbells

/-! ## A part without supply -/

theorem examineBoth_none {s : State} (h : ∀ p, s.journal.reaches p = false) : examineBoth s = s := by
  unfold examineBoth examineHigh
  simp [h]

/-- The two notices of a cold start at a port whose summary is zero and whose line is armed: one pulse. -/
theorem PortState.restart_coldNotices (p : PortState) :
    (p.restart.note .eventWord Cause.powerRestored.bit).note .eventWord Cause.clockUnset.bit =
      { PortState.afterColdStart with pulses := p.pulses + 1 } := by
  simp [PortState.restart, PortState.note, PortState.attend, PortState.afterColdStart, Cause.bit, setBit]

/-- The doors of a cold start with the contacts closed (R134). -/
theorem doorSetUp_coldWith {s : State} {l : Lane} (h : vget s.pins.contactOpen l = false) (t : TimeBase) (j : Journal) :
    doorSetUp (s.coldWith t j) l = Door.cold := by
  have hp : vget (s.coldWith t j).pins.contactOpen l = false := h
  have hd : (s.coldWith t j).door l = { s.door l with forced := false, held := false } := vget_map ..
  have hk : (s.coldWith t j).gate.lockdown = false := rfl
  simp [doorSetUp, hp, hd, hk, Door.cold]

/-- The state after the first self-test of a cold start, but for its notices. -/
def State.coldEnded (s : State) (w : Bool) : State :=
  { State.reset with
    time := { State.reset.time with retentionWasLost := w }
    control := { State.reset.control with arbiter := s.control.arbiter, bus := s.control.bus.restart, link := s.control.link.restart }
    freeCount := s.freeCount, reply := s.reply, pending := s.pending }

theorem setUpDoors_coldWith {s : State} (hpins : s.pins = State.reset.pins) (w : Bool) :
    setUpDoors ((s.coldWith (s.time.coldAt w .selfTest .testing true) State.reset.journal).started true) = s.coldEnded w := by
  obtain ⟨hf, hd⟩ := setUpDoors_started (s.coldWith (s.time.coldAt w .selfTest .testing true) State.reset.journal) true
  have hopen (l : Lane) : vget s.pins.contactOpen l = false := by rw [hpins]; exact vget_replicate ..
  have hdoors := vector_ext_vget fun l =>
    ((hd l).trans (doorSetUp_coldWith (hopen l) _ _)).trans (vget_replicate (n := 4) Door.cold l).symm
  have hlink : LinkState.atStart s.pins.linkAddressPins = State.reset.link := by rw [hpins]; decide
  rw [hf, hdoors]
  ext1
  case pins => exact hpins
  case link => exact hlink
  all_goals rfl

theorem startNotices_coldEnded (s : State) (w : Bool) :
    startNotices .cold (s.coldEnded w) =
      { s.coldEnded w with
        control :=
          { State.reset.control with
            arbiter := s.control.arbiter
            bus := { PortState.afterColdStart with pulses := s.control.bus.pulses + 1 }
            link := { PortState.afterColdStart with pulses := s.control.link.pulses + 1 } } } := by
  rw [← PortState.restart_coldNotices s.control.bus, ← PortState.restart_coldNotices s.control.link]
  rfl

/-- Settles O12: the arrival of mains and a passed self-test. -/
theorem unpoweredPartComesUpFresh : Obligations.UnpoweredPartComesUpFresh := by
  intro s hp hm hl hpins
  have harrival : mainsArrival s = s.coldWith (s.time.coldAt false .selfTest .testing true) State.reset.journal :=
    (mainsArrival_cold (by simp [hp]) hl hm).trans (runStart_cold false s)
  refine ⟨_, _, congrArg Host.Outcome.next harrival, rfl, ?_⟩
  rw [selfTestEnds_eq rfl rfl, setUpDoors_coldWith hpins, reconcileEmergency_quiet rfl rfl, startNotices_coldEnded,
    examineBoth_none (fun p => by cases p <;> rfl)]
  rfl

end Sys2Proof.Machine
end

section
/-! PROOFS. The tables of pay and bells, the channel commands, the plain expiry rows, and the laws at reset. -/

namespace Sys2Proof.Machine

/-! ## A command carried out from its own row -/

/-- A command that hands nothing to a buffer. -/
theorem next_of_cmd {s t : State} {r : Reply} {cmd : State → State × Reply} (ho : engineOpen s = true) (hc : cmd s = (t, r)) :
    (.next (runDirect none cmd s) : Host.Outcome State Fault Refusal) = .next (t.answering r) := by
  rw [runDirect_open ho, hc]

/-- A command that hands words to its buffer. -/
theorem next_of_cmd_buffer {s t : State} {r : Reply} {cmd : State → State × Reply} (ho : engineOpen s = true) (b : Buffer)
    (hc : cmd s = (t, r)) : (.next (runDirect (some b) cmd s) : Host.Outcome State Fault Refusal) = .next (t.writing b r) := by
  rw [runDirect_buffer ho, hc]

/-- A command with a buffer that hands it no words, as a refused one. -/
theorem next_of_cmd_no_words {s t : State} {r : Reply} {cmd : State → State × Reply} (ho : engineOpen s = true) (b : Buffer)
    (hc : cmd s = (t, r)) (hout : r.out = []) :
    (.next (runDirect (some b) cmd s) : Host.Outcome State Fault Refusal) = .next (t.answering r) := by
  rw [next_of_cmd_buffer ho b hc, State.writing, hout]
  rfl

theorem firstBad_single_some {m : Bool} (h : m = true) : firstBad [m] = some 0 := by simp [firstBad, h]

/-! ## Expiries (R53, R132, R144) -/

theorem Playing.expire_eq_afterCount (q : Playing) : q.expire = q.afterCount := by
  unfold Playing.expire Playing.afterCount
  cases hp : q.phase <;> simp [Playing.newStroke, Playing.groupsAfter]
  by_cases h1 : 1 < q.strokesLeft
  · simp [h1]
  · by_cases h2 : q.copy.groups = 0 ∨ 1 < q.groupsLeft
    · by_cases h3 : q.copy.gap = 0 <;> simp [h1, h2, h3, Nat.pos_iff_ne_zero]
    · simp [h1, h2]

/-- Settles O31: each expiry at its word. -/
theorem expiryRows : Obligations.ExpiryRows := by
  intro s hr
  refine ⟨fun l => congrArg Host.Outcome.next (if_pos hr), congrArg Host.Outcome.next (if_pos hr), fun z => ?_⟩
  have hexpire : (vget s.bells.zones z).bind Playing.expire = (vget s.bells.zones z).bind Playing.afterCount :=
    congrArg _ (funext Playing.expire_eq_afterCount)
  refine congrArg Host.Outcome.next ((if_pos hr).trans ?_)
  rw [hexpire]
  rfl

/-! ## Pay classes (R84, R85) -/

theorem cmdReadPayClass_bad {number : Word} (h : 15 < number.toNat) (s : State) : cmdReadPayClass number s = (s, .badOperand 0) := by
  rw [cmdReadPayClass, firstBad_single_some (by simpa using h)]

theorem cmdReadPayClass_ok (k : ClassNumber) (s : State) :
    cmdReadPayClass (word k.val) s =
      (s, .done [word k.val, word (vget s.pay.classes k).base, word (vget s.pay.classes k).overtime,
        word (vget s.pay.classes k).holiday, word (vget s.pay.classes k).night]) := by
  have hk : (word k.val).toNat = k.val := word_toNat (by omega)
  have hbad : firstBad [decide (15 < (word k.val).toNat)] = none := by
    rw [hk, firstBad_none]
    simp only [List.mem_singleton, forall_eq, decide_eq_false_iff_not]
    omega
  rw [cmdReadPayClass, hbad, finOf_word k (by decide)]

/-- Settles O39. -/
theorem readPayClassReturnsClass : Obligations.ReadPayClassReturnsClass := by
  refine ⟨by decide, fun s origin op buf number => ⟨fun h => ?_, fun k hk => ?_, rfl⟩⟩
  · exact ⟨cmdReadPayClass_bad h s, fun ho => next_of_cmd ho (cmdReadPayClass_bad h s)⟩
  · subst hk
    exact ⟨cmdReadPayClass_ok k s, fun ho => cmdReadPayClass_ok k s ▸ next_of_cmd ho (cmdReadPayClass_ok k s)⟩

/-! ## The holiday list (R86, R87) -/

theorem bufferStarts_iff (b : Buffer) : bufferStarts b = true ↔ 0x100 ≤ b.addr.toNat ∧ b.addr.toNat < 0x2000 := by
  rw [bufferStarts, Bool.and_eq_true, decide_eq_true_iff, decide_eq_true_iff]
  rfl

/-- Settles O40: the list's first days, as many as the buffer holds. -/
theorem readHolidaysCopiesList : Obligations.ReadHolidaysCopiesList := by
  refine ⟨by decide, fun s origin op buf => ⟨rfl, fun h => ?_, fun h1 h2 => ⟨_, rfl, fun hp => hp.sublist (List.take_sublist ..), ?_⟩⟩⟩
  · have hs : bufferStarts buf = false := by
      rw [← Bool.not_eq_true, bufferStarts_iff]
      omega
    have hc : cmdReadHolidays buf s = (s, .refuse .badBuffer) := by simp [cmdReadHolidays, hs]
    exact ⟨hc, fun ho => next_of_cmd_no_words ho buf hc rfl⟩
  · have hc : cmdReadHolidays buf s =
        (s, .doneOut ((s.pay.holidays.take (bufferRoom buf)).map word)
          [word s.pay.holidays.length, word (s.pay.holidays.take (bufferRoom buf)).length]) := by
      simp [cmdReadHolidays, (bufferStarts_iff buf).mpr ⟨h1, h2⟩]
    refine ⟨?_, fun ho => hc ▸ next_of_cmd_buffer ho buf hc⟩
    rw [hc]
    simp [Reply.doneOut, fromWord8, bufferRoom, List.zipIdx]

/-! ## The laws at reset -/

theorem clockLaw_reset : ClockLaw State.reset.time where
  day := by decide
  minute := by decide
  second := by decide
  short := by decide
  repeated := by decide
  epoch := by decide
  slewLow := by decide
  slewHigh := by decide
  hold := by decide

theorem rosterLaw_empty : RosterLaw Roster.empty where
  slots := .nil
  keys := .nil
  indexed := by simp [Roster.empty]
  backed := by simp [Roster.empty]
  census := by simp [Roster.empty, siteCount, vget]
  occupied := rfl

theorem reset_record (a : Slot) : State.reset.record a = none := rfl

theorem reset_lane (l : Lane) : State.reset.lane l = LaneState.empty LaneConfig.cold := vget_replicate ..

theorem presenceLaw_reset : PresenceLaw State.reset where
  single := .nil
  present := fun e he => by cases he
  listed := fun a r hr _ => by cases hr
  pending := fun l p hp => by
    rw [reset_lane] at hp
    cases hp

theorem journalLaw_reset : JournalLaw State.reset.journal where
  tiles := ⟨rfl, rfl⟩
  counts := by decide
  span := by decide
  room := by decide
  reserve := by decide
  gap := by intro h; cases h
  cursors := fun p => by cases p <;> decide
  oldest := by unfold Entry.liesBefore; decide

/-- Settles O56. -/
theorem lawsHoldAtReset : Obligations.LawsHoldAtReset := by
  refine ⟨by decide, clockLaw_reset, fun p => ?_, fun c => ?_, by unfold WindowLaw; decide, by unfold HolidayLaw; decide, fun l => ?_,
    by unfold LockdownLaw; decide, rosterLaw_empty, (fun p hp => by cases hp), List.Pairwise.nil, presenceLaw_reset, fun _ => rfl, journalLaw_reset⟩
  · cases p <;> decide
  · have hc : State.reset.channel c = ChannelState.atStart := vget_replicate ..
    simp [hc, ChannelState.atStart]
  · rw [reset_lane]
    exact LaneLaw.empty _

/-! ## The channel commands (R180) -/

theorem portSetOfWord_word (p : PortSet) : portSetOfWord (word p.toNat) = p := by
  obtain ⟨b, l⟩ := p
  cases b <;> cases l <;> decide

theorem portSet_toNat_le (p : PortSet) : p.toNat ≤ 3 := by
  obtain ⟨b, l⟩ := p
  cases b <;> cases l <;> decide

theorem cmdSetChannelNotice_bad {channel ack fault : Word} {n : Nat}
    (h : firstOut [channel.toNat ≤ 7, ack.toNat ≤ 3, fault.toNat ≤ 3] n) (s : State) :
    cmdSetChannelNotice channel ack fault s = (s, .badOperand n) := by
  have hbad : firstBad [decide (7 < channel.toNat), decide (3 < ack.toNat), decide (3 < fault.toNat)] = some n :=
    firstBad_of_firstOut (by simp) h
  rw [cmdSetChannelNotice, hbad]

theorem cmdSetChannelNotice_ok (c : Channel) (ack fault : PortSet) (s : State) :
    cmdSetChannelNotice (word c.val) (word ack.toNat) (word fault.toNat) s =
      (s.setChannel c { s.channel c with ackPorts := ack, faultPorts := fault },
        .done [word (s.channel c).ackPorts.toNat, word (s.channel c).faultPorts.toNat]) := by
  have hset (p : PortSet) : (word p.toNat).toNat ≤ 3 := by
    have := portSet_toNat_le p
    rw [word_toNat (by omega)]
    exact this
  have hc : (word c.val).toNat ≤ 7 := by
    rw [word_toNat (by omega)]
    omega
  have hbad : firstBad [decide (7 < (word c.val).toNat), decide (3 < (word ack.toNat).toNat),
      decide (3 < (word fault.toNat).toNat)] = none :=
    firstBad_none.mpr (by simpa using ⟨hc, hset ack, hset fault⟩)
  rw [cmdSetChannelNotice, hbad, finOf_word c (by decide)]
  simp only [portSetOfWord_word]

/-- Settles O53: the first operand out of range, the two sets replaced, and the eight channel words. -/
theorem channelCommands : Obligations.ChannelCommands := by
  intro s ho
  refine ⟨fun channel ack fault => ⟨fun h => ?_, fun h1 h => ?_, fun h1 h2 h => ?_⟩, fun c ack fault => ?_, ?_⟩
  · exact next_of_cmd ho (cmdSetChannelNotice_bad ⟨⟨_, rfl, by omega⟩, by simp⟩ s)
  · refine next_of_cmd ho (cmdSetChannelNotice_bad ⟨⟨_, rfl, by omega⟩, fun m hm p hp => ?_⟩ s)
    obtain rfl : m = 0 := by omega
    cases hp
    exact h1
  · refine next_of_cmd ho (cmdSetChannelNotice_bad ⟨⟨_, rfl, by omega⟩, fun m hm p hp => ?_⟩ s)
    obtain rfl | rfl : m = 0 ∨ m = 1 := by omega
    · cases hp
      exact h1
    · cases hp
      exact h2
  · exact next_of_cmd ho (cmdSetChannelNotice_ok c ack fault s)
  · exact next_of_cmd ho rfl

/-! ## Shifts (R82, R83) -/

theorem badShiftImage_some {w : List Word} {n : Nat} (h : firstOut (shiftRanges w) n) : badShiftImage w = some n :=
  firstBad_of_firstOut (by simp [shiftRanges, unitValues, or_iff_not_imp_left]) h

theorem badShiftImage_none {w : List Word} (h : shiftInRange w) : badShiftImage w = none := by
  unfold shiftInRange at h
  refine firstBad_none.mpr ?_
  simp only [unitValues, List.mem_cons, List.not_mem_nil, or_false, forall_eq_or_imp, forall_eq, decide_eq_false_iff_not,
    Bool.or_eq_false_iff, Bool.not_eq_false', List.contains_iff_mem]
  simp only [List.mem_cons, List.not_mem_nil, or_false] at h
  omega

theorem eq_map_getD {w : List Word} {n : Nat} (h : w.length = n) : w = (List.range n).map (fun i => w.getD i 0) := by
  subst h
  refine List.ext_getElem (by simp) fun i hi _ => ?_
  simp [hi]

theorem word_toNat_self (w : Word) : word w.toNat = w := by simp [word]

/-- A definition taken from an image in range reads as the image (R82). -/
theorem shiftOfImage_words {w : List Word} (hl : w.length = 15) (h : shiftInRange w) {k : ShiftNumber}
    (hk : k.val = (w.getD 0 0).toNat) : (shiftOfImage w).words (word k.val) = w := by
  obtain ⟨-, hflag, -, -, -, -, -, -, -, -, -, -, -, -, hmask, -⟩ := h
  have hen : word (bit (decide ((w.getD 1 0).toNat = 1))) = w.getD 1 0 := by
    obtain h0 | h1 : (w.getD 1 0).toNat = 0 ∨ (w.getD 1 0).toNat = 1 := by omega
    · rw [← word_toNat_self (w.getD 1 0), h0]; decide
    · rw [← word_toNat_self (w.getD 1 0), h1]; decide
  have hday : word (BitVec.ofNat 7 (w.getD 13 0).toNat).toNat = w.getD 13 0 := by
    rw [BitVec.toNat_ofNat, Nat.mod_eq_of_lt (by omega), word_toNat_self]
  conv_rhs => rw [eq_map_getD hl]
  simp only [ShiftDef.words, shiftOfImage, hk, hen, hday, word_toNat_self]
  rfl

/-- Settles O38. -/
theorem shiftTableCommands : Obligations.ShiftTableCommands := by
  refine ⟨fun s number buf ho => ⟨fun r hr => ⟨?_, fun hn => ?_⟩, fun hf n hn => ?_, fun hn => ?_⟩,
    fun s buf k ho hf => ⟨fun hr hk => ?_, ?_⟩⟩
  · exact next_of_cmd ho (by rw [cmdWriteShift, (checkBuffer_some ..).mpr hr])
  · have hnum : firstBad [decide (15 < number.toNat)] = none := firstBad_none.mpr (by simpa using hn)
    exact next_of_cmd_no_words ho buf (by rw [cmdReadShift, hnum, (checkBuffer_some ..).mpr hr]) rfl
  · exact next_of_cmd ho (by rw [cmdWriteShift, (checkBuffer_none ..).mpr hf]; simp only [badShiftImage_some hn])
  · exact next_of_cmd_no_words ho buf (by rw [cmdReadShift, firstBad_single_some (by simpa using hn)]) rfl
  · have hword : (bufferWords s.memory buf 15).getD 0 0 = word k.val := by
      rw [hk, word, BitVec.ofNat_toNat, BitVec.setWidth_eq]
    refine ⟨_, next_of_cmd ho (t := s.setPay (s.pay.setShift k (shiftOfImage (bufferWords s.memory buf 15))))
      (r := { Reply.done [word k.val] with used := some 15 }) ?_, ?_, fun j hj => vget_vset_other _ _ _ _ hj, rfl⟩
    · rw [cmdWriteShift, (checkBuffer_none ..).mpr hf]
      simp only [badShiftImage_none hr, hword, finOf_word k (by decide)]
    · exact (congrArg (ShiftDef.words (word k.val)) (vget_vset_self ..)).trans
        (shiftOfImage_words (by simp [bufferWords]) hr hk)
  · refine next_of_cmd_buffer ho buf ?_
    have hnum : firstBad [decide (15 < (word k.val).toNat)] = none := by
      rw [word_toNat (by omega), firstBad_none]
      simp only [List.mem_singleton, forall_eq, decide_eq_false_iff_not]
      omega
    rw [cmdReadShift, hnum, (checkBuffer_none ..).mpr hf, finOf_word k (by decide)]
    rfl

/-! ## Pay classes, holidays and periods (R84, R86, R100) -/

theorem cmdWritePayClass_bad {number base overtime holiday night : Word} {n : Nat} (h : badPayClass number overtime holiday night = some n)
    (s : State) : cmdWritePayClass number base overtime holiday night s = (s, .badOperand n) := by
  rw [cmdWritePayClass, h]

theorem cmdWritePayClass_eq (k : ClassNumber) (base overtime holiday night : Word) (s : State) :
    cmdWritePayClass (word k.val) base overtime holiday night s =
      if overtime.toNat < 8 ∨ 24 < overtime.toNat then (s, .badOperand 2)
      else if holiday.toNat < 8 ∨ 24 < holiday.toNat then (s, .badOperand 3)
      else if 4095 < night.toNat then (s, .badOperand 4)
      else
        (s.setPay (s.pay.setClass k ⟨base.toNat, overtime.toNat, holiday.toNat, night.toNat⟩), .done [word k.val]) := by
  have hk : (word k.val).toNat = k.val := word_toNat (by omega)
  have hlow : ¬ 15 < k.val := by omega
  rw [cmdWritePayClass, finOf_word k (by decide)]
  simp only [badPayClass, firstBad, hk, hlow]
  by_cases h1 : overtime.toNat < 8 ∨ 24 < overtime.toNat
  · simp [h1, List.findIdx?_cons]
  · by_cases h2 : holiday.toNat < 8 ∨ 24 < holiday.toNat
    · simp [h1, h2, List.findIdx?_cons]
    · by_cases h3 : 4095 < night.toNat
      · simp [h1, h2, h3, List.findIdx?_cons]
      · simp [h1, h2, h3, List.findIdx?_cons]

theorem mem_insertDay {d x : Nat} {l : List Nat} : x ∈ insertDay d l ↔ x = d ∨ x ∈ l := by
  refine ⟨insertDay_mem, fun h => ?_⟩
  induction l with
  | nil => simpa [insertDay] using h
  | cons y l ih =>
    simp only [insertDay]
    split
    · simpa using h
    · split
      · grind
      · grind

theorem mem_sortedDays {x : Nat} {l : List Nat} : x ∈ sortedDays l ↔ x ∈ l := by
  induction l with
  | nil => simp [sortedDays]
  | cons d l ih =>
    have : sortedDays (d :: l) = insertDay d (sortedDays l) := rfl
    rw [this, mem_insertDay, ih, List.mem_cons]

theorem sortedDays_pairwise (l : List Nat) : (sortedDays l).Pairwise (· < ·) := by
  induction l with
  | nil => exact .nil
  | cons d l ih => exact insertDay_sorted ih

theorem appendEntry_setPay (b : EntryBody) (p : PayTables) (s : State) : appendEntry b (s.setPay p) = (appendEntry b s).setPay p := by
  rw [appendEntry_of_same s (s.setPay p) rfl rfl rfl]
  ext1 <;> simp

/-- Settles O41. -/
theorem payTableWrites : Obligations.PayTableWrites := by
  intro s ho
  refine ⟨fun k base overtime holiday night => ?_, fun number base overtime holiday night hn => ?_, fun count buf => ⟨fun hc => ?_, fun hc h0 r hr => ?_⟩,
    fun count buf hc hf => ?_, fun origin period => ?_⟩
  · refine (congrArg Host.Outcome.next (runDirect_open ho _)).trans ?_
    rw [cmdWritePayClass_eq]
    split
    · rfl
    split
    · rfl
    split
    · rfl
    · rfl
  · exact next_of_cmd ho (cmdWritePayClass_bad (by simp [badPayClass, firstBad, List.findIdx?_cons, hn]) s)
  · exact next_of_cmd ho (by rw [cmdWriteHolidays, firstBad_single_some (by simpa using hc)])
  · have hnum : firstBad [decide (32 < count.toNat)] = none := firstBad_none.mpr (by simpa using hc)
    exact next_of_cmd ho (by rw [cmdWriteHolidays, hnum, if_neg h0, (checkBuffer_some ..).mpr hr])
  · have hnum : firstBad [decide (32 < count.toNat)] = none := firstBad_none.mpr (by simpa using hc)
    have hbuf : (if count = 0 then none else checkBuffer buf count.toNat) = none := by
      split
      · rfl
      · next h0 => exact (checkBuffer_none ..).mpr (hf.resolve_left h0)
    have hcmd : cmdWriteHolidays count buf s =
        (s.setPay { s.pay with holidays := sortedDays ((bufferWords s.memory buf count.toNat).map BitVec.toNat) },
          { Reply.done [count, word (sortedDays ((bufferWords s.memory buf count.toNat).map BitVec.toNat)).length] with
            used := some count }) := by rw [cmdWriteHolidays, hnum, hbuf]
    refine ⟨_, next_of_cmd ho hcmd, sortedDays_pairwise _, fun d hd => ?_, fun w hw => ?_, rfl⟩
    · simpa using mem_sortedDays.mp hd
    · exact mem_sortedDays.mpr (List.mem_map_of_mem hw)
  · by_cases hp : period.toNat = s.pay.period
    · rw [if_pos hp]
      refine (next_of_cmd ho ((if_neg (not_not.mpr hp)).trans rfl)).trans ?_
      rw [appendEntry_setPay]
      cases origin <;> rfl
    · rw [if_neg hp]
      exact next_of_cmd ho (if_pos hp)

end Sys2Proof.Machine
end

section
/-! PROOFS. References to records and the roster commands (sections 2.2 and 2.5). -/

namespace Sys2Proof.Machine

/-! ## References (R35) -/

theorem parseRef_error {base : Nat} {selector ref0 ref1 : Word} {i : Nat} (h : badReference base selector ref0 ref1 = some i)
    (ref2 : Word) : parseRef base selector ref0 ref1 ref2 = .error i := by
  unfold badReference at h
  unfold parseRef
  split at h
  · next h0 =>
    rw [if_pos h0]
    split at h
    · next h1 => cases h; exact if_pos h1
    · next h1 =>
      rw [if_neg h1]
      split at h
      · next h2 => cases h; exact if_pos h2
      · cases h
  · next h0 =>
    rw [if_neg h0]
    split at h
    · next h1 =>
      rw [if_pos h1]
      split at h
      · next h2 => cases h; exact if_pos h2
      · cases h
    · next h1 => cases h; exact if_neg h1

/-- The reference that operands in range name. -/
def refOf (selector ref0 ref1 ref2 : Word) : RecordRef :=
  if selector = 0 then .key (keyOfWords ref0 ref1 ref2) else .slot (finOf 2048 ref0)

theorem badReference_none_iff (base : Nat) (selector ref0 ref1 : Word) :
    badReference base selector ref0 ref1 = none ↔
      (selector = 0 ∧ ref0.toNat ≤ 63 ∧ ref1.toNat ≤ 3) ∨ (selector = 1 ∧ ref0.toNat ≤ 2047) := by
  unfold badReference
  by_cases h0 : selector = 0
  · by_cases h1 : 63 < ref0.toNat
    · simp only [h0, h1, if_true, reduceCtorEq, false_iff]
      rintro (⟨-, h, -⟩ | ⟨h, -⟩)
      · omega
      · exact absurd h (by decide)
    · by_cases h2 : 3 < ref1.toNat
      · simp only [h0, h1, h2, if_true, if_false, reduceCtorEq, false_iff]
        rintro (⟨-, -, h⟩ | ⟨h, -⟩)
        · omega
        · exact absurd h (by decide)
      · simp [h0, h1, h2, Nat.le_of_not_lt h1, Nat.le_of_not_lt h2]
  · by_cases h1 : selector = 1
    · subst h1
      by_cases h2 : 2047 < ref0.toNat
      · simp [h2]
      · simp [Nat.le_of_not_lt h2]
    · rw [if_neg h0, if_neg h1]
      simp only [reduceCtorEq, false_iff]
      rintro (⟨h, -, -⟩ | ⟨h, -⟩)
      · exact h0 h
      · exact h1 h

theorem parseRef_ok {base : Nat} {selector ref0 ref1 : Word} (h : badReference base selector ref0 ref1 = none) (ref2 : Word) :
    parseRef base selector ref0 ref1 ref2 = .ok (refOf selector ref0 ref1 ref2) := by
  unfold parseRef refOf
  rcases (badReference_none_iff ..).mp h with ⟨rfl, h1, h2⟩ | ⟨rfl, h1⟩
  · rw [if_pos rfl, if_neg (by omega), if_neg (by omega), if_pos rfl]
  · rw [if_neg (by decide), if_pos rfl, if_neg (by omega), if_neg (by decide)]

theorem badReference_base (base : Nat) {selector ref0 ref1 : Word} (h : badReference 0 selector ref0 ref1 = none) :
    badReference base selector ref0 ref1 = none := (badReference_none_iff ..).mpr ((badReference_none_iff ..).mp h)

theorem number_high_le (k : Key) : k.number.toNat / 65536 ≤ 3 := by have := k.number.isLt; omega

theorem keyOfWords_eq {ref0 ref1 ref2 : Word} {k : Key} (h0 : ref0.toNat = k.site.toNat)
    (h1 : ref1.toNat * 65536 + ref2.toNat = k.number.toNat) : keyOfWords ref0 ref1 ref2 = k := by
  rw [keyOfWords, ofTwoWords, h0, h1]
  simp

theorem keyOfWords_toNat {ref0 ref1 ref2 : Word} (h0 : ref0.toNat ≤ 63) (h1 : ref1.toNat ≤ 3) :
    (keyOfWords ref0 ref1 ref2).site.toNat = ref0.toNat ∧
      (keyOfWords ref0 ref1 ref2).number.toNat = ref1.toNat * 65536 + ref2.toNat := by
  have := ref2.isLt
  rw [keyOfWords, ofTwoWords, BitVec.toNat_ofNat, BitVec.toNat_ofNat]
  exact ⟨Nat.mod_eq_of_lt (by omega), Nat.mod_eq_of_lt (by omega)⟩

/-- A reference to a record is in range. -/
theorem refersTo.inRange {selector ref0 ref1 ref2 : Word} {a : Slot} {r : Record} (h : refersTo selector ref0 ref1 ref2 a r)
    (base : Nat) : badReference base selector ref0 ref1 = none := by
  refine (badReference_none_iff ..).mpr ?_
  rcases h with ⟨rfl, h0⟩ | ⟨rfl, h0, h1⟩
  · have : ref0.toNat = a.val := h0 ▸ slot_toNat a
    exact .inr ⟨rfl, by omega⟩
  · have hs : r.key.site.toNat < 64 := r.key.site.isLt
    have hn : r.key.number.toNat < 262144 := r.key.number.isLt
    exact .inl ⟨rfl, by omega, by omega⟩

/-- The slot that a reference to a record names. -/
theorem findRef_of_refersTo {s : State} {selector ref0 ref1 ref2 : Word} {a : Slot} {r : Record} (hl : RosterLaw s.roster)
    (hr : s.record a = some r) (h : refersTo selector ref0 ref1 ref2 a r) :
    findRef s.roster (refOf selector ref0 ref1 ref2) = some a := by
  rcases h with ⟨rfl, h0⟩ | ⟨rfl, h0, h1⟩
  · have hrec : recordAt s.roster.records a = some r := hr
    simp [refOf, findRef, h0, hrec]
  · rw [refOf, if_pos rfl, keyOfWords_eq h0 h1, findRef, lookup_found hl hr]

/-- A key that is found is the key of the record found. -/
theorem record_of_lookup {r : Roster} (h : RosterLaw r) {k : Key} {a : Slot} (hl : lookup r k = .found a) :
    ∃ rec, recordAt r.records a = some rec ∧ rec.key = k := by
  unfold lookup at hl
  cases hf : r.index.find? (fun e => decide (e.key = k)) with
  | none => rw [hf] at hl; dsimp only at hl; split at hl <;> cases hl
  | some e =>
    rw [hf] at hl
    cases hl
    obtain ⟨rec, hm, hk⟩ := h.backed e (List.mem_of_find?_eq_some hf)
    exact ⟨rec, recordAt_of_mem h.slots hm, hk.trans (by simpa using List.find?_some hf)⟩

theorem findRef_of_refersNowhere {s : State} {selector ref0 ref1 ref2 : Word} (hl : RosterLaw s.roster)
    (h : refersNowhere s selector ref0 ref1 ref2) : findRef s.roster (refOf selector ref0 ref1 ref2) = none := by
  obtain ⟨hbad, hno⟩ := h
  rcases (badReference_none_iff ..).mp hbad with ⟨rfl, h0, h1⟩ | ⟨rfl, h0⟩
  · rw [refOf, if_pos rfl, findRef]
    split
    · next a ha =>
      obtain ⟨rec, hrec, hk⟩ := record_of_lookup hl ha
      obtain ⟨hsite, hnum⟩ := keyOfWords_toNat (ref2 := ref2) h0 h1
      exact absurd (.inr ⟨rfl, by rw [hk, hsite], by rw [hk, hnum]⟩) (hno a rec hrec)
    · rfl
  · rw [refOf, if_neg (by decide), findRef]
    refine if_neg fun hsome => ?_
    obtain ⟨rec, hrec⟩ := Option.isSome_iff_exists.mp hsome
    refine hno _ rec hrec (.inl ⟨rfl, ?_⟩)
    rw [finOf, Fin.val_ofNat, Nat.mod_eq_of_lt (by omega), word_toNat_self]

/-! ## The load image (R33) -/

theorem LoadImage.bad_some {i : LoadImage} {n : Nat} (h : firstOut i.ranges n) : i.bad = some n :=
  firstBad_of_firstOut (by simp [LoadImage.ranges, or_iff_not_imp_left]) h

theorem LoadImage.bad_none {i : LoadImage} (h : i.inRange) : i.bad = none := by
  unfold LoadImage.inRange at h
  refine firstBad_none.mpr ?_
  simp only [List.mem_cons, List.not_mem_nil, or_false, forall_eq_or_imp, forall_eq, decide_eq_false_iff_not,
    Bool.and_eq_false_iff, ne_eq, not_not]
  obtain ⟨h0, h1, h2, h3, h4, h5, h6⟩ := h
  exact ⟨by omega, by omega, trivial, by omega, trivial, trivial, h3.imp_left Nat.not_lt.mpr, by omega, by omega, by omega⟩

theorem LoadImage.configure_eq_sets (i : LoadImage) (r : Record) : i.configure r = i.sets r := rfl

theorem Record.fresh_eq (k : Key) (p : Nat) :
    Record.fresh k p =
      { key := k, issue := 0, employee := 0, shift := none, payClass := 0, permissions := 0, suspended := false, exempt := false
        presence := .out, pendingLane := none, muster := false, lastPassage := none, current := Totals.zero p
        previous := Totals.zero ((p + 65535) % 65536) } := rfl

/-! ## The lowest free slot (R26) -/

theorem mem_records_iff {r : Roster} (b : Slot) : (recordAt r.records b).isSome = true ↔ ∃ p ∈ r.records, p.1 = b := by
  rw [Option.isSome_iff_ne_none, ne_eq, recordAt_eq_none_iff]
  simp

theorem lowestFree_eq {r : Roster} (h : RosterLaw r) {a : Slot} (ha : recordAt r.records a = none)
    (hb : ∀ b, b < a → (recordAt r.records b).isSome = true) : lowestFree r = some a := by
  obtain ⟨-, hfree, hlow⟩ := lowestFreeFrom_spec h.slots fun _ _ => Nat.zero_le _
  have heq : lowestFreeFrom r.records 0 = a.val := by
    rcases Nat.lt_trichotomy (lowestFreeFrom r.records 0) a.val with hlt | heq | hgt
    · obtain ⟨p, hp, hv⟩ := (mem_records_iff (r := r) ⟨lowestFreeFrom r.records 0, by omega⟩).mp (hb _ hlt)
      exact absurd (congrArg Fin.val hv) (hfree p hp)
    · exact heq
    · obtain ⟨p, hp, hv⟩ := hlow a.val (Nat.zero_le _) hgt
      exact absurd (Fin.ext hv) (recordAt_eq_none_iff.mp ha p hp)
  simp [lowestFree, heq]

theorem lowestFree_none {r : Roster} (h : RosterLaw r) (hall : ∀ a, (recordAt r.records a).isSome = true) : lowestFree r = none := by
  cases hf : lowestFree r with
  | none => rfl
  | some a =>
    have := lowestFree_free h hf
    have hs := hall a
    rw [this] at hs
    cases hs

/-! ## LOAD RECORD (R33, R34) -/

theorem lookup_not_found {r : Roster} {k : Key} (h : ∀ e ∈ r.index, e.key ≠ k) (a : Slot) : lookup r k ≠ .found a := by
  rw [lookup_absent h]
  split <;> simp

theorem cmdLoadRecord_new {s : State} {buf : Buffer} {i : LoadImage} (hf : bufferFits buf 10) (hi : i = readLoadImage s.memory buf)
    (hr : i.inRange) (hk : ∀ e ∈ s.roster.index, e.key ≠ i.key) :
    cmdLoadRecord buf s =
      match lowestFree s.roster with
      | none => (s, .refuse .tableFull)
      | some a =>
        (s.setRoster (createRecord s.roster a (i.configure (Record.fresh i.key s.pay.period))),
          { Reply.done [word a.val, 0, word (s.roster.occupied + 1)] with used := some 10 }) := by
  subst hi
  rw [cmdLoadRecord, (checkBuffer_none ..).mpr hf]
  simp only [LoadImage.bad_none hr]
  split
  · next a ha => exact absurd ha (lookup_not_found hk a)
  · rfl

/-- Settles O16: a new key takes the lowest free slot. -/
theorem loadRecordCreates : Obligations.LoadRecordCreates := by
  refine ⟨fun s buf i ho hi => ⟨fun r hr => ?_, fun hf => ⟨fun n hn => ?_, fun hl hr hk hall => ?_⟩⟩, fun s buf a i ho hl hf hi hr hk ha hb => ?_⟩
  · exact next_of_cmd ho (by rw [cmdLoadRecord, (checkBuffer_some ..).mpr hr])
  · subst hi
    exact next_of_cmd ho (by rw [cmdLoadRecord, (checkBuffer_none ..).mpr hf]; simp only [LoadImage.bad_some hn])
  · exact next_of_cmd ho (by rw [cmdLoadRecord_new hf hi hr hk, lowestFree_none hl hall])
  · have hc : cmdLoadRecord buf s =
        (s.setRoster (createRecord s.roster a (i.configure (Record.fresh i.key s.pay.period))),
          { Reply.done [word a.val, 0, word (s.roster.occupied + 1)] with used := some 10 }) := by
      rw [cmdLoadRecord_new hf hi hr hk, lowestFree_eq hl ha hb]
    refine ⟨_, next_of_cmd ho hc, ?_, fun b hne => ?_, fun e => ?_, rfl, fun site => ?_, rfl⟩
    · exact (recordAt_insertRecord _ ha a).trans (if_pos rfl)
    · exact (recordAt_insertRecord _ ha b).trans (if_neg hne)
    · exact (insertIndex_perm _ _).mem_iff.trans List.mem_cons
    · refine (vget_vset ..).trans ?_
      split
      · next h => rw [h]; exact (if_pos rfl).symm ▸ rfl
      · next h => exact (if_neg h).symm ▸ rfl

/-- Settles O17: the configuration fields of the record replaced. -/
theorem loadRecordUpdates : Obligations.LoadRecordUpdates := by
  intro s buf a r i ho hl hf hi hr ha hk
  have hlook : lookup s.roster i.key = .found a := hk ▸ lookup_found hl ha
  have hc : cmdLoadRecord buf s =
      if r.pendingLane.isSome then (s, .refuse .busyRecord)
      else (s.modifyRecord a i.configure, { Reply.done [word a.val, 1, word s.roster.occupied] with used := some 10 }) := by
    subst hi
    rw [cmdLoadRecord, (checkBuffer_none ..).mpr hf]
    simp only [LoadImage.bad_none hr, hlook, ha]
    rfl
  refine ⟨fun hp => next_of_cmd ho (hc.trans (if_pos (Option.isSome_iff_ne_none.mpr hp))),
    fun hp => ⟨_, next_of_cmd ho (hc.trans (if_neg (by simp [hp]))), ?_, fun b hb => record_modifyRecord_ne _ _ hb, rfl⟩⟩
  exact (record_modifyRecord_self s a _).trans (by rw [ha]; rfl)

/-! ## DELETE RECORD (R37) -/

theorem cmdDeleteRecord_found {s : State} {selector x y z : Word} {a : Slot} {r : Record} (hl : RosterLaw s.roster)
    (ha : s.record a = some r) (h : refersTo selector x y z a r) :
    cmdDeleteRecord selector x y z s =
      if r.pendingLane.isSome then (s, .refuse .busyRecord)
      else if r.presence = .inside then (s, .refuse .recordPresent)
      else
        (s.setRoster (removeRecord s.roster a r), .done [word a.val, word (removeRecord s.roster a r).occupied]) := by
  rw [cmdDeleteRecord, parseRef_ok (h.inRange 0)]
  simp only [findRef_of_refersTo hl ha h, ha]
  rfl

/-- Settles O18. -/
theorem deleteRecordResult : Obligations.DeleteRecordResult := by
  refine ⟨fun s selector x y z ho => ⟨fun i hi => ?_, fun hl hn => ?_⟩, fun s a r selector x y z ho hl ha h => ?_⟩
  · exact next_of_cmd ho (by rw [cmdDeleteRecord, parseRef_error hi])
  · exact next_of_cmd ho (by rw [cmdDeleteRecord, parseRef_ok hn.1]; simp only [findRef_of_refersNowhere hl hn])
  · have hc := cmdDeleteRecord_found hl ha h
    refine ⟨fun hp => next_of_cmd ho (hc.trans (if_pos (Option.isSome_iff_ne_none.mpr hp))),
      fun hp hi => next_of_cmd ho (hc.trans ((if_neg (by simp [hp])).trans (if_pos hi))),
      fun hp hout => ⟨_, next_of_cmd ho (hc.trans ((if_neg (by simp [hp])).trans (if_neg (by simp [hout])))), ?_, fun b hb => ?_, fun e => ?_,
        ?_, fun site => ?_, rfl⟩⟩
    · exact (recordAt_filter _ a a).trans (if_pos rfl)
    · exact (recordAt_filter _ a b).trans (if_neg hb)
    · exact List.mem_filter.trans (and_congr_right fun _ => decide_eq_true_iff)
    · have hlaw := hl.removeRecord ha
      have hlen := (perm_cons_filter hl.slots ha).length_eq
      exact (congrArg (· + 1) hlaw.occupied).trans (hlen.symm.trans hl.occupied.symm)
    · have hlaw := hl.removeRecord ha
      have hcount := siteCount_perm (perm_cons_filter hl.slots ha) site
      rw [siteCount_cons] at hcount
      exact (congrArg (· + _) (hlaw.census site)).trans (hcount.symm.trans (hl.census site).symm)

/-! ## READ RECORD and READ TOTALS (R35, R102) -/

theorem rolloverSlot_record {s : State} {a : Slot} {r : Record} (ha : s.record a = some r) :
    (rolloverSlot a s).record a = some (r.rolled s.pay.period) := by
  rw [rolloverSlot, record_modifyRecord_self, ha]
  rfl

/-- Settles O19. -/
theorem readRecordAndTotals : Obligations.ReadRecordAndTotals := by
  refine ⟨fun s selector x y z buf ho => ⟨fun i hi => ⟨?_, ?_⟩, fun hok => ⟨fun r hr => ?_, fun r hr => ?_⟩, fun hl hn => ⟨fun hf => ?_, fun hf => ?_⟩⟩,
    fun s a r selector x y z buf ho hl ha h => ⟨fun hf => ?_, fun hf => ?_⟩⟩
  · exact next_of_cmd_no_words ho buf (by rw [cmdReadRecord, parseRef_error hi]) rfl
  · exact next_of_cmd_no_words ho buf (by rw [cmdReadTotals, parseRef_error hi]) rfl
  · exact next_of_cmd_no_words ho buf (by rw [cmdReadRecord, parseRef_ok hok]; simp only [(checkBuffer_some ..).mpr hr]) rfl
  · exact next_of_cmd_no_words ho buf (by rw [cmdReadTotals, parseRef_ok hok]; simp only [(checkBuffer_some ..).mpr hr]) rfl
  · exact next_of_cmd_no_words ho buf (by
      rw [cmdReadRecord, parseRef_ok hn.1]
      simp only [(checkBuffer_none ..).mpr hf, findRef_of_refersNowhere hl hn]) rfl
  · exact next_of_cmd_no_words ho buf (by
      rw [cmdReadTotals, parseRef_ok hn.1]
      simp only [(checkBuffer_none ..).mpr hf, findRef_of_refersNowhere hl hn]) rfl
  · have hc : cmdReadRecord selector x y z buf s = (rolloverSlot a s, .doneOut (recordImage a (r.rolled s.pay.period)) [word a.val]) := by
      rw [cmdReadRecord, parseRef_ok (h.inRange 0)]
      simp only [(checkBuffer_none ..).mpr hf, findRef_of_refersTo hl ha h, rolloverSlot_record ha]
    exact ⟨_, next_of_cmd_buffer ho buf hc, rolloverSlot_record ha, fun b hb => record_modifyRecord_ne _ _ hb, rfl⟩
  · have hc : cmdReadTotals selector x y z buf s =
        (rolloverSlot a s, .doneOut (totalsWords (r.rolled s.pay.period).current ++ totalsWords (r.rolled s.pay.period).previous)
          [word a.val, word s.pay.period]) := by
      rw [cmdReadTotals, parseRef_ok (h.inRange 0)]
      simp only [(checkBuffer_none ..).mpr hf, findRef_of_refersTo hl ha h, rolloverSlot_record ha]
    exact ⟨_, next_of_cmd_buffer ho buf hc, rolloverSlot_record ha, fun b hb => record_modifyRecord_ne _ _ hb, rfl⟩

/-! ## SCAN INDEX (R38) -/

theorem dropWhile_rank {l : List IndexEntry} (hl : l.Pairwise (fun x y => x.key.rank < y.key.rank)) (n : Nat) :
    l.dropWhile (fun e => decide (e.key.rank < n)) = l.filter (fun e => decide (n ≤ e.key.rank)) := by
  induction l with
  | nil => rfl
  | cons x l ih =>
    obtain ⟨hx, hl⟩ := List.pairwise_cons.mp hl
    by_cases h : x.key.rank < n
    · rw [List.dropWhile_cons_of_pos (by simpa using h), List.filter_cons_of_neg (by simpa using h), ih hl]
    · have hall : ∀ y ∈ x :: l, decide (n ≤ y.key.rank) = true := fun y hy => by
        rcases List.mem_cons.mp hy with rfl | hy
        · simpa using h
        · have := hx y hy
          simp
          omega
      rw [List.dropWhile_cons_of_neg (by simpa using h), List.filter_eq_self.mpr hall]

/-- Settles O20. -/
theorem scanIndexResult : Obligations.ScanIndexResult := by
  refine ⟨fun s site high low buf ho => ⟨fun n hn => ?_, fun h1 h2 r hr => ?_⟩, fun s site high low buf ho hl hf h1 h2 => ?_⟩
  · have hbad : firstBad [decide (63 < site.toNat), decide (3 < high.toNat)] = some n := firstBad_of_firstOut (by simp) hn
    exact next_of_cmd_no_words ho buf (by rw [cmdScanIndex, hbad]) rfl
  · have hok : firstBad [decide (63 < site.toNat), decide (3 < high.toNat)] = none := firstBad_none.mpr (by simpa using ⟨h1, h2⟩)
    exact next_of_cmd_no_words ho buf (by rw [cmdScanIndex, hok]; simp only [(checkBuffer_some ..).mpr hr]) rfl
  · have hok : firstBad [decide (63 < site.toNat), decide (3 < high.toNat)] = none := firstBad_none.mpr (by simpa using ⟨h1, h2⟩)
    refine ⟨_, _, _, rfl, (List.take_append_drop (bufferRoom buf / 4) _).symm, by simp [bufferRoom, Nat.min_comm], ?_⟩
    refine next_of_cmd_buffer ho buf ?_
    rw [cmdScanIndex, hok]
    simp only [(checkBuffer_none ..).mpr hf, dropWhile_rank hl.keys]
    refine Prod.ext rfl ?_
    cases List.drop (bufferRoom buf / 4) (s.roster.index.filter fun e => decide ((keyOfWords site high low).rank ≤ e.key.rank)) <;> rfl

end Sys2Proof.Machine
end

section
/-! PROOFS. The attendance list and the records' books: openings, closings and exceptions; the corrections (R112–R115) and LIST PRESENT
(R111). -/

namespace Sys2Proof.Machine

/-! ## Edits of the books -/

/-- A state that differs in the attendance list with its mirror and in its records alone. -/
def sameButBooks (s u : State) : Prop :=
  u = { s with
    attendance := u.attendance, roster := { s.roster with records := u.roster.records }
    control := { s.control with presentMirror := u.control.presentMirror } }

namespace sameButBooks

variable {s u v : State}

theorem refl (s : State) : sameButBooks s s := rfl

theorem trans (h : sameButBooks s u) (h' : sameButBooks u v) : sameButBooks s v := by
  unfold sameButBooks at *
  rw [h', h]

theorem modifyRecord (s : State) (a : Slot) (f : Record → Record) : sameButBooks s (s.modifyRecord a f) := rfl

theorem putAttendance (l : List Attendance) (s : State) : sameButBooks s (putAttendance l s) := rfl

theorem openAttendance (a : Slot) (d : Option ShiftDay) (t : Time) (s : State) : sameButBooks s (openAttendance a d t s) := rfl

theorem closeEntry (e : Attendance) (t : Option Nat) (s : State) : sameButBooks s (closeEntry e t s) := rfl

theorem endAttendance (a : Slot) (s : State) : sameButBooks s (endAttendance a s) := rfl

theorem addException (a : Slot) (s : State) : sameButBooks s (addException a s) := rfl

theorem sameLog (h : sameButBooks s u) : SameLog s u := by
  unfold sameButBooks at h
  constructor <;> rw [h]

theorem pay (h : sameButBooks s u) : u.pay = s.pay := by rw [show u = _ from h]

/-- An append after an edit of the books is the append before it, with the books as edited. -/
theorem appendEntry (h : sameButBooks s u) (b : EntryBody) :
    appendEntry b u =
      { appendEntry b s with
        attendance := u.attendance, roster := { s.roster with records := u.roster.records }
        control := { (appendEntry b s).control with presentMirror := u.control.presentMirror } } := by
  obtain ⟨l, r, n, rfl⟩ : ∃ l r n, u =
      { s with attendance := l, roster := { s.roster with records := r }, control := { s.control with presentMirror := n } } :=
    ⟨_, _, _, h⟩
  rw [h.sameLog.appendEntry_eq b]
  ext1 <;> simp

end sameButBooks

/-! ## Openings (R74, R104–R106) -/

theorem newAttendance_eq_opens (pt : PayTables) (a : Slot) (sd : Option ShiftDay) (t : Time) : newAttendance pt a sd t = pt.opens a sd t := by
  cases sd <;> rfl

theorem Attendance.before_iff (e x : Attendance) : e.before x = true ↔ ¬ x.notAfter e := by
  unfold Attendance.before Attendance.notAfter
  cases e.deadline <;> cases x.deadline <;> simp

/-- An entry goes behind every entry whose deadline is not later (R106). -/
theorem insertAttendance_insertedIn (e : Attendance) (l : List Attendance) : insertedIn e l (insertAttendance e l) := by
  induction l with
  | nil => exact ⟨[], [], rfl, rfl, by simp, by simp⟩
  | cons x l ih =>
    unfold insertAttendance
    split
    · next h => exact ⟨[], x :: l, rfl, rfl, by simp, by simpa using (e.before_iff x).mp h⟩
    · next h =>
      obtain ⟨front, back, rfl, hb, hf, hh⟩ := ih
      refine ⟨x :: front, back, rfl, by rw [hb]; rfl, fun y hy => ?_, hh⟩
      rcases List.mem_cons.mp hy with rfl | hy
      · exact Attendance.notAfter_of_not_before h
      · exact hf y hy

theorem openAttendance_attendance (a : Slot) (sd : Option ShiftDay) (t : Time) (s : State) :
    insertedIn (s.pay.opens a sd t) s.attendance (openAttendance a sd t s).attendance :=
  newAttendance_eq_opens s.pay a sd t ▸ insertAttendance_insertedIn _ _

theorem openAttendance_record (a : Slot) (sd : Option ShiftDay) (t : Time) (s : State) (b : Slot) :
    (openAttendance a sd t s).record b = if b = a then (s.record b).map Record.enter else s.record b := by
  unfold openAttendance
  rw [record_modifyRecord, record_putAttendance]

theorem addException_record (a : Slot) (s : State) (b : Slot) :
    (addException a s).record b = if b = a then (s.record b).map (Record.excepted s.pay.period) else s.record b := by
  unfold addException
  rw [record_modifyRecord]
  rfl

theorem endAttendance_record (a : Slot) (s : State) (b : Slot) :
    (endAttendance a s).record b = if b = a then (s.record b).map Record.leave else s.record b := by
  unfold endAttendance
  rw [record_modifyRecord, record_putAttendance]

theorem Record.excepted_enter (p : Nat) (r : Record) : r.enter.excepted p = { r.excepted p with presence := .inside } := by
  unfold Record.excepted Record.rolled Record.enter
  dsimp only
  split
  · rfl
  · split <;> rfl

/-- The entry of a slot that the list holds once (R28). -/
theorem attendanceOf_eq {s : State} (hn : (s.attendance.map Attendance.slot).Nodup) {e : Attendance} (he : e ∈ s.attendance) :
    attendanceOf e.slot s.attendance = some e := by
  unfold attendanceOf
  generalize s.attendance = l at hn he
  induction l with
  | nil => simp at he
  | cons x l ih =>
    rw [List.map_cons, List.nodup_cons] at hn
    rcases List.mem_cons.mp he with rfl | hm
    · simp
    · have hx : x.slot ≠ e.slot := fun h => hn.1 (h ▸ List.mem_map_of_mem hm)
      simp [hx, ih hn.2 hm]

/-! ## The day of a shift that an in-punch belongs to (R70) -/

theorem dayQualifies_iff (s : State) (k : ShiftNumber) (t d : Nat) :
    dayQualifies s (vget s.pay.shifts k) t d = true ↔ inInstance s k d t := by
  simp [dayQualifies, inInstance, weekday, and_assoc]

theorem chooseInstance_chooses (s : State) (k : Option ShiftNumber) (t : Time) :
    choosesInstance s k t.day (t.day * 1440 + t.minute) (chooseInstance s k t) := by
  cases k with
  | none => exact trivial
  | some k =>
    have hc : chooseInstance s (some k) t =
        if dayQualifies s (vget s.pay.shifts k) (t.day * 1440 + t.minute) t.day = true then some ⟨k, t.day⟩
        else if 0 < t.day ∧ dayQualifies s (vget s.pay.shifts k) (t.day * 1440 + t.minute) (t.day - 1) = true then
          some ⟨k, t.day - 1⟩
        else none := rfl
    have hq (d : Nat) := dayQualifies_iff s k (t.day * 1440 + t.minute) d
    rw [hc]
    by_cases h1 : inInstance s k t.day (t.day * 1440 + t.minute)
    · rw [if_pos ((hq _).mpr h1)]
      exact ⟨rfl, h1, .inl rfl⟩
    · rw [if_neg fun h => h1 ((hq _).mp h)]
      by_cases h2 : 0 < t.day ∧ inInstance s k (t.day - 1) (t.day * 1440 + t.minute)
      · rw [if_pos ⟨h2.1, (hq _).mpr h2.2⟩]
        exact ⟨rfl, h2.2, .inr ⟨h1, h2.1, by dsimp only; omega⟩⟩
      · rw [if_neg fun h => h2 ⟨h.1, (hq _).mp h.2⟩]
        exact ⟨h1, fun h0 hi => h2 ⟨h0, hi⟩⟩

/-! ## LIST PRESENT (R111) -/

theorem twoWords_eq (n : Nat) : twoWords n = [word (n / 65536), word n] := rfl

theorem presentWords_eq {s : State} {e : Attendance} {r : Record} (h : s.record e.slot = some r) : presentWords s e = e.words r := by
  have hflags : presentFlagsWord e r.muster =
      word ((if e.schedule = none then 1 else 0) + (if r.muster = true then 2 else 0) + (if e.deadline = none then 4 else 0)) := by
    unfold presentFlagsWord attendanceKindCode bit
    refine congrArg word ?_
    cases e.schedule <;> cases r.muster <;> cases e.deadline <;> rfl
  unfold presentWords Attendance.words
  simp only [h, musterOf, hflags]
  cases e.deadline <;> rfl

/-- Settles O45. -/
theorem listPresentCopiesEntries : Obligations.ListPresentCopiesEntries := by
  refine ⟨fun s filter skip buf ho => ⟨fun n hn => ?_, fun h1 h2 r hr => ?_⟩, fun s filter skip buf ho h1 h2 hf hall => ⟨_, rfl, _, rfl, ?_⟩⟩
  · have hbad : firstBad [decide (1 < filter.toNat), decide (2047 < skip.toNat)] = some n := firstBad_of_firstOut (by simp) hn
    exact next_of_cmd_no_words ho buf (by rw [cmdListPresent, hbad]) rfl
  · have hok : firstBad [decide (1 < filter.toNat), decide (2047 < skip.toNat)] = none := firstBad_none.mpr (by simpa using ⟨h1, h2⟩)
    exact next_of_cmd_no_words ho buf (by rw [cmdListPresent, hok]; simp only [(checkBuffer_some ..).mpr hr]) rfl
  · have hok : firstBad [decide (1 < filter.toNat), decide (2047 < skip.toNat)] = none := firstBad_none.mpr (by simpa using ⟨h1, h2⟩)
    have hfilter : s.attendance.filter (fun e => decide (filter = 0) || !musterOf s e.slot) =
        s.attendance.filter (fun e => decide (filter = 0 ∨ (s.record e.slot).map Record.muster = some false)) := by
      refine List.filter_congr fun e he => ?_
      obtain ⟨r, hr⟩ := Option.isSome_iff_exists.mp (hall e he)
      simp [musterOf, hr, Bool.decide_or]
    refine next_of_cmd_buffer ho buf ?_
    rw [cmdListPresent, hok]
    simp only [(checkBuffer_none ..).mpr hf, hfilter]
    have hwords (l : List Attendance) (hl : ∀ e ∈ l, e ∈ s.attendance) :
        l.flatMap (presentWords s) = l.flatMap (fun e => (s.record e.slot).toList.flatMap e.words) := by
      refine List.flatMap_congr fun e he => ?_
      obtain ⟨r, hr⟩ := Option.isSome_iff_exists.mp (hall e (hl e he))
      rw [presentWords_eq hr, hr]
      simp
    rw [hwords _ fun e he => List.mem_of_mem_filter (List.mem_of_mem_drop (List.mem_of_mem_take he))]
    rfl

/-! ## Corrections (R112–R115) -/

theorem firstOut_append {ps qs : List Prop} (hp : ∀ p ∈ ps, p) {n : Nat} (h : firstOut qs n) : firstOut (ps ++ qs) (ps.length + n) := by
  obtain ⟨⟨q, hq, hno⟩, hlow⟩ := h
  refine ⟨⟨q, by rw [List.getElem?_append_right (Nat.le_add_right ..), Nat.add_sub_cancel_left, hq], hno⟩, fun m hm p hget => ?_⟩
  by_cases hl : m < ps.length
  · rw [List.getElem?_append_left hl] at hget
    exact hp p (List.mem_of_getElem? hget)
  · rw [List.getElem?_append_right (Nat.le_of_not_lt hl)] at hget
    exact hlow _ (by omega) p hget

theorem badTime_some {minute second : Word} {n : Nat} (h : firstOut [True, minute.toNat ≤ 1439, second.toNat ≤ 59] n) :
    badTime minute second = some (5 + n) :=
  firstBad_of_firstOut (by simp) (firstOut_append (ps := [True, True, True, True, True]) (by simp) h)

theorem badTime_none {minute second : Word} (hm : minute.toNat ≤ 1439) (hs : second.toNat ≤ 59) : badTime minute second = none :=
  firstBad_none.mpr (by simpa using ⟨hm, hs⟩)

theorem correctable_nowhere {s : State} {selector x y z : Word} (hl : RosterLaw s.roster) (hn : refersNowhere s selector x y z) :
    correctable (refOf selector x y z) s = .error (.refuseWord9 .notFound 0) := by
  rw [correctable, findRef_of_refersNowhere hl hn]

theorem correctable_found {s : State} {selector x y z : Word} {a : Slot} {r : Record} (hl : RosterLaw s.roster)
    (ha : s.record a = some r) (h : refersTo selector x y z a r) :
    correctable (refOf selector x y z) s = if r.pendingLane.isSome then .error (.refuse .busyRecord) else .ok (a, r) := by
  rw [correctable, findRef_of_refersTo hl ha h]
  simp only [ha]

/-- The two forced corrections up to their record: the same checks refuse both (R112). -/
theorem forced_badRef {origin : Port} {selector x y : Word} {i : Nat} (h : badReference 1 selector x y = some i) (z day minute second : Word)
    (s : State) :
    cmdForceOut origin selector x y z day minute second s = (s, .badOperand i) ∧
      cmdForceIn origin selector x y z day minute second s = (s, .badOperand i) :=
  ⟨by rw [cmdForceOut, parseRef_error h], by rw [cmdForceIn, parseRef_error h]⟩

theorem forced_badTime {origin : Port} {selector x y minute second : Word} {i : Nat} (h : badReference 1 selector x y = none)
    (ht : badTime minute second = some i) (z day : Word) (s : State) :
    cmdForceOut origin selector x y z day minute second s = (s, .badOperand i) ∧
      cmdForceIn origin selector x y z day minute second s = (s, .badOperand i) :=
  ⟨by rw [cmdForceOut, parseRef_ok h]; simp only [ht], by rw [cmdForceIn, parseRef_ok h]; simp only [ht]⟩

theorem forced_clockUnset {s : State} {origin : Port} {selector x y minute second : Word} (h : badReference 1 selector x y = none)
    (ht : badTime minute second = none) (hu : s.time.clockUnset = true) (z day : Word) :
    cmdForceOut origin selector x y z day minute second s = (s, .refuse .clockUnset) ∧
      cmdForceIn origin selector x y z day minute second s = (s, .refuse .clockUnset) :=
  ⟨by rw [cmdForceOut, parseRef_ok h]; simp only [ht, hu, if_true], by rw [cmdForceIn, parseRef_ok h]; simp only [ht, hu, if_true]⟩

section

variable {s : State} {origin : Port} {selector x y z day minute second : Word}

/-- With the clock set and the operands in range checks 4 and 5 refuse both forced corrections alike. -/
theorem forced_refused (h : badReference 1 selector x y = none) (ht : badTime minute second = none) (hu : s.time.clockUnset = false)
    {r : Reply} (hc : correctable (refOf selector x y z) s = .error r) :
    cmdForceOut origin selector x y z day minute second s = (s, r) ∧ cmdForceIn origin selector x y z day minute second s = (s, r) :=
  ⟨by rw [cmdForceOut, parseRef_ok h]; simp [ht, hu, hc], by rw [cmdForceIn, parseRef_ok h]; simp [ht, hu, hc]⟩

theorem cmdForceOut_absent (h : badReference 1 selector x y = none) (ht : badTime minute second = none) (hu : s.time.clockUnset = false)
    {a : Slot} {r : Record} (hc : correctable (refOf selector x y z) s = .ok (a, r)) (hi : inEntry a r s = none) :
    cmdForceOut origin selector x y z day minute second s = (s, .refuseWord9 .notFound 1) := by
  rw [cmdForceOut, parseRef_ok h]
  simp [ht, hu, hc, hi]

theorem cmdForceOut_present (h : badReference 1 selector x y = none) (ht : badTime minute second = none) (hu : s.time.clockUnset = false)
    {a : Slot} {r : Record} (hc : correctable (refOf selector x y z) s = .ok (a, r)) {e : Attendance} (hi : inEntry a r s = some e) :
    cmdForceOut origin selector x y z day minute second s = forceOutEntry origin e ⟨day.toNat, minute.toNat, second.toNat⟩ s := by
  rw [cmdForceOut, parseRef_ok h]
  simp [ht, hu, hc, hi]

theorem cmdForceIn_present (h : badReference 1 selector x y = none) (ht : badTime minute second = none) (hu : s.time.clockUnset = false)
    {a : Slot} {r : Record} (hc : correctable (refOf selector x y z) s = .ok (a, r)) (hi : r.presence = .inside) :
    cmdForceIn origin selector x y z day minute second s = (s, .refuse .recordPresent) := by
  rw [cmdForceIn, parseRef_ok h]
  simp [ht, hu, hc, hi]

theorem cmdForceIn_absent (h : badReference 1 selector x y = none) (ht : badTime minute second = none) (hu : s.time.clockUnset = false)
    {a : Slot} {r : Record} (hc : correctable (refOf selector x y z) s = .ok (a, r)) (hi : r.presence = .out) :
    cmdForceIn origin selector x y z day minute second s = forceInRecord origin a r ⟨day.toNat, minute.toNat, second.toNat⟩ s := by
  rw [cmdForceIn, parseRef_ok h]
  simp [ht, hu, hc, hi]

theorem cmdCancel_badRef {i : Nat} (h : badReference 1 selector x y = some i) :
    cmdCancel origin selector x y z s = (s, .badOperand i) := by rw [cmdCancel, parseRef_error h]

theorem cmdCancel_refused (h : badReference 1 selector x y = none) {r : Reply} (hc : correctable (refOf selector x y z) s = .error r) :
    cmdCancel origin selector x y z s = (s, r) := by
  rw [cmdCancel, parseRef_ok h]
  simp [hc]

theorem cmdCancel_absent (h : badReference 1 selector x y = none) {a : Slot} {r : Record}
    (hc : correctable (refOf selector x y z) s = .ok (a, r)) (hi : inEntry a r s = none) :
    cmdCancel origin selector x y z s = (s, .refuseWord9 .notFound 1) := by
  rw [cmdCancel, parseRef_ok h]
  simp [hc, hi]

theorem cmdCancel_present (h : badReference 1 selector x y = none) {a : Slot} {r : Record}
    (hc : correctable (refOf selector x y z) s = .ok (a, r)) {e : Attendance} (hi : inEntry a r s = some e) :
    cmdCancel origin selector x y z s = cancelEntry origin e s := by
  rw [cmdCancel, parseRef_ok h]
  simp [hc, hi]

end

theorem correctionBody_eq {s : State} {a : Slot} {r : Record} (ha : s.record a = some r) (op : Correction) (origin : Port) (time : Time)
    (scheduled : Bool) (extra : EntryExtra) (flags : EntryFlags) :
    correctionBody op origin a (badgeOf s a) time scheduled extra flags =
      correctionEntry origin (correctionCode op) a r scheduled time flags extra := by
  unfold correctionBody correctionEntry badgeOf attendanceKindCode
  cases scheduled <;> simp [ha, plainBody]

/-- The books after a FORCE IN: the attendance opened, and an exception where it belongs to no shift day (R114). -/
def forcedIn (a : Slot) (sd : Option ShiftDay) (time : Time) (s : State) : State :=
  if sd.isSome then openAttendance a sd time s else addException a (openAttendance a sd time s)

theorem forcedIn_spec {s : State} {a : Slot} {r : Record} (ha : s.record a = some r) (sd : Option ShiftDay) (time : Time) :
    sameButBooks s (forcedIn a sd time s) ∧
      insertedIn (s.pay.opens a sd time) s.attendance (forcedIn a sd time s).attendance ∧
      (forcedIn a sd time s).control.presentMirror = (forcedIn a sd time s).attendance.length ∧
      (forcedIn a sd time s).record a = some { (if sd.isSome then r else r.excepted s.pay.period) with presence := .inside } ∧
      ∀ b, b ≠ a → (forcedIn a sd time s).record b = s.record b := by
  have hopen (b) := openAttendance_record a sd time s b
  have hatt := openAttendance_attendance a sd time s
  cases sd with
  | some d => exact ⟨.openAttendance .., hatt, rfl, (hopen a).trans (by simp [ha]; rfl), fun b hb => (hopen b).trans (if_neg hb)⟩
  | none =>
    have hexc (b) := addException_record a (openAttendance a none time s) b
    refine ⟨(sameButBooks.openAttendance ..).trans (.addException ..), hatt, rfl, ?_, fun b hb => ?_⟩
    · refine (hexc a).trans ?_
      rw [if_pos rfl, hopen a, if_pos rfl, ha]
      exact congrArg some (Record.excepted_enter _ r)
    · exact (hexc b).trans ((if_neg hb).trans ((hopen b).trans (if_neg hb)))

/-- The state and the figures after a correction's edit of the books and its entry. -/
theorem sameButBooks.corrected {s w : State} (h : sameButBooks s w) (hm : w.control.presentMirror = w.attendance.length) (b : EntryBody) :
    Machine.appendEntry b w =
      { Machine.appendEntry b s with
        attendance := (Machine.appendEntry b w).attendance
        roster := { s.roster with records := (Machine.appendEntry b w).roster.records }
        control :=
          { (Machine.appendEntry b s).control with presentMirror := (Machine.appendEntry b w).attendance.length } } := by
  conv_lhs => rw [h.appendEntry b]
  rw [appendEntry_attendance, appendEntry_roster, hm]

/-- FORCE IN on a record that is OUT (R114). -/
theorem forceInRecord_eq {s : State} {a : Slot} {r : Record} (ha : s.record a = some r) (origin : Port) (time : Time)
    {sd : Option ShiftDay} (hsd : chooseInstance s r.shift time = sd) :
    forceInRecord origin a r time s =
      (appendEntry (correctionEntry origin 1 a r sd.isSome time {} .none) (forcedIn a sd time s),
        .done
          [word a.val, if sd.isSome then 0 else 1, word ((sd.map ShiftDay.day).getD 0),
           word ((sd.map (fun d => d.shift.val)).getD 0),
           word (appendEntry (correctionEntry origin 1 a r sd.isSome time {} .none) (forcedIn a sd time s)).attendance.length]) := by
  have hb := correctionBody_eq ha .forceIn origin time sd.isSome .none {}
  subst hsd
  unfold forceInRecord
  dsimp only
  rw [hb]
  refine Prod.ext rfl ?_
  cases chooseInstance s r.shift time <;> rfl

/-- FORCE OUT on the record's entry (R113). -/
theorem forceOutEntry_eq {s : State} {e : Attendance} {r : Record} (ha : s.record e.slot = some r) (origin : Port) (time : Time)
    {f : Figures} (hf : closingFigures s.pay r.payClass e (some (time.day * 1440 + time.minute)) = f) :
    forceOutEntry origin e time s =
      (appendEntry (correctionEntry origin 0 e.slot r e.schedule.isSome time
          { missedOut := f.missedOut, capped := f.capped, holiday := f.holiday } (.closing f)) (closeEntry e (some time.absolute) s),
        .done
          [word e.slot.val, if e.schedule.isSome then 0 else 1, word (f.pay / 65536), word f.pay,
           word (appendEntry (correctionEntry origin 0 e.slot r e.schedule.isSome time
             { missedOut := f.missedOut, capped := f.capped, holiday := f.holiday } (.closing f))
             (closeEntry e (some time.absolute) s)).attendance.length]) := by
  have hf' : figuresOf e (some time.absolute) s = f := (figuresOf_eq ha _).trans hf
  have hb := correctionBody_eq ha .forceOut origin time e.schedule.isSome (.closing f) f.flags
  unfold forceOutEntry
  dsimp only
  rw [hf', hb]
  refine Prod.ext rfl ?_
  cases e.schedule <;> rfl

/-- CANCEL on the record's entry (R115). -/
theorem cancelEntry_eq {s : State} {e : Attendance} {r : Record} (ha : s.record e.slot = some r) (origin : Port) :
    cancelEntry origin e s =
      (appendEntry (correctionEntry origin 2 e.slot r e.schedule.isSome s.time.clock {} .none) (endAttendance e.slot s),
        .done [word e.slot.val, if e.schedule.isSome then 0 else 1, 0, 0,
          word (appendEntry (correctionEntry origin 2 e.slot r e.schedule.isSome s.time.clock {} .none)
            (endAttendance e.slot s)).attendance.length]) := by
  have hb := correctionBody_eq ha .cancel origin s.time.clock e.schedule.isSome .none {}
  unfold cancelEntry
  dsimp only
  rw [hb]
  refine Prod.ext rfl ?_
  cases e.schedule <;> rfl

theorem correctable_not_pending {s : State} {selector x y z : Word} {a : Slot} {r : Record} (hl : RosterLaw s.roster)
    (ha : s.record a = some r) (h : refersTo selector x y z a r) (hp : r.pendingLane = none) :
    correctable (refOf selector x y z) s = .ok (a, r) := by
  rw [correctable_found hl ha h, hp]
  rfl

theorem inEntry_none {s : State} {a : Slot} {r : Record} (h : r.presence = .out) : inEntry a r s = none := if_neg (by simp [h])

/-- Settles O44: the refusals in their order, then the books corrected. -/
theorem correctionsOfPresence : Obligations.CorrectionsOfPresence := by
  refine ⟨fun s origin selector x y z day minute second ho => ⟨fun i hi => ?_, fun hb => ⟨fun n hn => ?_, fun hm hs hu => ?_,
      fun hl hn => ⟨fun hm hs hu => ?_, ?_⟩, fun a r hl ha h => ⟨fun hp => ⟨fun hm hs hu => ?_, ?_⟩, fun hp hout => ⟨fun hm hs hu => ?_, ?_⟩,
        fun hp hin hm hs hu => ?_⟩⟩⟩,
    fun s origin a r selector x y z day minute second time ho hl h hu hm hs ha hp htime => ⟨fun hout => ?_, fun hin hnodup e he hslot => ⟨?_, ?_⟩⟩⟩
  · obtain ⟨h1, h2⟩ := forced_badRef (origin := origin) hi z day minute second s
    exact ⟨⟨next_of_cmd ho h1, next_of_cmd ho h2⟩, next_of_cmd ho (cmdCancel_badRef hi)⟩
  · obtain ⟨h1, h2⟩ := forced_badTime (origin := origin) hb (badTime_some hn) z day s
    exact ⟨next_of_cmd ho h1, next_of_cmd ho h2⟩
  · obtain ⟨h1, h2⟩ := forced_clockUnset (origin := origin) hb (badTime_none hm hs) hu z day
    exact ⟨next_of_cmd ho h1, next_of_cmd ho h2⟩
  · obtain ⟨h1, h2⟩ := forced_refused (origin := origin) (day := day) hb (badTime_none hm hs) hu (correctable_nowhere hl hn)
    exact ⟨next_of_cmd ho h1, next_of_cmd ho h2⟩
  · exact next_of_cmd ho (cmdCancel_refused hb (correctable_nowhere hl hn))
  · obtain ⟨h1, h2⟩ := forced_refused (origin := origin) (day := day) hb (badTime_none hm hs) hu
      ((correctable_found hl ha h).trans (if_pos (Option.isSome_iff_ne_none.mpr hp)))
    exact ⟨next_of_cmd ho h1, next_of_cmd ho h2⟩
  · exact next_of_cmd ho (cmdCancel_refused hb ((correctable_found hl ha h).trans (if_pos (Option.isSome_iff_ne_none.mpr hp))))
  · exact next_of_cmd ho (cmdForceOut_absent hb (badTime_none hm hs) hu (correctable_not_pending hl ha h hp) (inEntry_none hout))
  · exact next_of_cmd ho (cmdCancel_absent hb (correctable_not_pending hl ha h hp) (inEntry_none hout))
  · exact next_of_cmd ho (cmdForceIn_present hb (badTime_none hm hs) hu (correctable_not_pending hl ha h hp) hin)
  · subst htime
    have hcmd := (cmdForceIn_absent (origin := origin) (day := day) (h.inRange 1) (badTime_none hm hs) hu (correctable_not_pending hl ha h hp) hout).trans
      (forceInRecord_eq ha origin _ rfl)
    obtain ⟨hsame, hatt, hmirror, hrec, hothers⟩ := forcedIn_spec ha (chooseInstance s r.shift ⟨day.toNat, minute.toNat, second.toNat⟩)
      ⟨day.toNat, minute.toNat, second.toNat⟩
    refine ⟨_, chooseInstance_chooses s r.shift ⟨day.toNat, minute.toNat, second.toNat⟩, _, _, next_of_cmd ho hcmd, rfl, ?_, ?_, fun b hb => ?_, ?_⟩
    · exact (appendEntry_attendance ..).symm ▸ hatt
    · exact (record_appendEntry ..).trans hrec
    · exact (record_appendEntry ..).trans (hothers b hb)
    · exact congrArg (State.answering · _) (hsame.corrected hmirror _)
  · subst htime hslot
    have hi : inEntry e.slot r s = some e := (if_pos hin).trans (attendanceOf_eq hnodup he)
    have hcmd := (cmdForceOut_present (origin := origin) (day := day) (h.inRange 1) (badTime_none hm hs) hu
      (correctable_not_pending hl ha h hp) hi).trans (forceOutEntry_eq ha origin _ rfl)
    have hrec (b) := closeEntry_record e (some (Time.absolute ⟨day.toNat, minute.toNat, second.toNat⟩)) s b
    refine ⟨_, _, _, next_of_cmd ho hcmd, rfl, rfl, ?_, ?_, fun b hb => ?_, ?_⟩
    · exact appendEntry_attendance ..
    · refine (record_appendEntry ..).trans ((hrec e.slot).trans ?_)
      rw [if_pos rfl, ha, figuresOf_eq ha]
      rfl
    · exact (record_appendEntry ..).trans ((hrec b).trans (if_neg hb))
    · exact congrArg (State.answering · _) ((sameButBooks.closeEntry ..).corrected rfl _)
  · subst htime hslot
    have hi : inEntry e.slot r s = some e := (if_pos hin).trans (attendanceOf_eq hnodup he)
    have hcmd := (cmdCancel_present (origin := origin) (h.inRange 1) (correctable_not_pending hl ha h hp) hi).trans
      (cancelEntry_eq ha origin)
    have hrec (b) := endAttendance_record e.slot s b
    refine ⟨_, _, next_of_cmd ho hcmd, rfl, ?_, ?_, fun b hb => ?_, ?_⟩
    · exact appendEntry_attendance ..
    · refine (record_appendEntry ..).trans ((hrec e.slot).trans ?_)
      rw [if_pos rfl, ha]
      rfl
    · exact (record_appendEntry ..).trans ((hrec b).trans (if_neg hb))
    · exact congrArg (State.answering · _) ((sameButBooks.endAttendance ..).corrected rfl _)

end Sys2Proof.Machine
end

section
/-! PROOFS. How a pending passage ends and what a classification brings (chapters 3 and 4), as relations of the state before and after. -/

namespace Sys2Proof.Machine

/-! ## Resolutions (R54, R74–R76) -/

/-- The end of a resolution once its effect on the books is in place: last passage, entry, and the passage emptied. -/
def finishPassage (l : Lane) (p : PendingPassage) (b : EntryBody) (u : State) : State :=
  clearPassage l p.slot (appendEntry b (u.modifyRecord p.slot (Record.setLastPassage l p.readTime)))

theorem resolvePassage_eq (l : Lane) (p : PendingPassage) (s : State) :
    resolvePassage l p s = finishPassage l p (punchBody l p (punchFigures p s)) (applyPunch p s) := rfl

theorem clearPassage_record (l : Lane) (a : Slot) (s : State) (b : Slot) :
    (clearPassage l a s).record b = if b = a then (s.record b).map Record.clearPending else s.record b := by
  unfold clearPassage
  rw [record_setLane, record_modifyRecord]

theorem finishPassage_attendance (l : Lane) (p : PendingPassage) (b : EntryBody) (u : State) :
    (finishPassage l p b u).attendance = u.attendance := appendEntry_attendance ..

theorem finishPassage_mirror (l : Lane) (p : PendingPassage) (b : EntryBody) (u : State) :
    (finishPassage l p b u).control.presentMirror = u.control.presentMirror := by
  show (appendEntry b _).control.presentMirror = _
  rw [appendEntry_control]
  rfl

/-- An edit of the books, then the end of the resolution. -/
theorem sameButBooks.resolvesTo {s u : State} (h : sameButBooks s u) {l : Lane} {p : PendingPassage} {after : Record}
    (hr : u.record p.slot = some after) (ho : ∀ b, b ≠ p.slot → u.record b = s.record b) (b : EntryBody) :
    resolvesTo l p after b s (finishPassage l p b u) := by
  have hedit := h.trans (.modifyRecord u p.slot (Record.setLastPassage l p.readTime))
  have hrec (a) : (finishPassage l p b u).record a =
      if a = p.slot then ((u.record a).map (Record.setLastPassage l p.readTime)).map Record.clearPending else u.record a := by
    unfold finishPassage
    rw [clearPassage_record, record_appendEntry, record_modifyRecord]
    split <;> rfl
  have hlanes : u.lanes = s.lanes := by rw [show u = _ from h]
  refine ⟨fun m => ?_, ?_, fun a ha => ?_, ?_⟩
  · unfold finishPassage
    rw [clearPassage_lane, lane_appendEntry, lane_modifyRecord, lane_appendEntry, lane_modifyRecord]
    simp only [State.lane, hlanes]
  · rw [hrec, if_pos rfl, hr]
    rfl
  · rw [hrec, if_neg ha, ho a ha]
  · have happ := hedit.appendEntry b
    unfold finishPassage
    rw [happ]
    rfl

theorem punchBody_none (l : Lane) (p : PendingPassage) : punchBody l p none = passageEntry (punchEntryKind p.kind) l p := rfl

theorem punchBody_some (l : Lane) {p : PendingPassage} (h : p.kind = .outPunch) (f : Figures) : punchBody l p (some f) = outEntry l p f := by
  unfold punchBody outEntry passageEntry laneEntry
  rw [h]
  rfl

theorem punchFigures_none {p : PendingPassage} (h : p.kind ≠ .outPunch) (s : State) : punchFigures p s = none := by
  unfold punchFigures
  split
  · next hk => exact absurd hk h
  · rfl

theorem closeEntry_record_self {s : State} {e : Attendance} {r : Record} (hr : s.record e.slot = some r) (t : Option Nat) :
    (closeEntry e t s).record e.slot = some
      { r.rolled s.pay.period with
        current := (r.rolled s.pay.period).current.addClosing (closingFigures s.pay r.payClass e t), presence := .out, muster := false } := by
  rw [closeEntry_record, if_pos rfl, hr, figuresOf_eq hr]
  rfl

theorem closeEntry_record_other {b : Slot} {e : Attendance} (h : b ≠ e.slot) (t : Option Nat) (s : State) :
    (closeEntry e t s).record b = s.record b := by rw [closeEntry_record, if_neg h]

/-- A resolution without a change of presence: an exception where the passage is a soft passback (R76). -/
theorem counted_resolvesTo {s : State} {l : Lane} {p : PendingPassage} {r : Record} (hr : s.record p.slot = some r) (b : EntryBody) :
    resolvesTo l p (if p.softPassback = true then r.excepted s.pay.period else r) b s
      (finishPassage l p b (if p.softPassback then addException p.slot s else s)) := by
  cases p.softPassback with
  | false => exact (sameButBooks.refl s).resolvesTo hr (fun _ _ => rfl) b
  | true =>
    exact (sameButBooks.addException p.slot s).resolvesTo ((addException_record ..).trans (by simp [hr]))
      (fun a ha => (addException_record ..).trans (if_neg ha)) b

/-- A passage resolves as its kind asks (R74–R76). The attendance list is read at an out-punch only. -/
theorem resolvePassage_resolves {s : State} {l : Lane} {p : PendingPassage} {r : Record} (hr : s.record p.slot = some r)
    (hn : p.kind = .outPunch ∨ p.kind = .outUnscheduled → (s.attendance.map Attendance.slot).Nodup) : resolves l p r s (resolvePassage l p s) := by
  rw [resolvePassage_eq]
  have hopen (d : Option ShiftDay) : (openAttendance p.slot d p.readTime s).record p.slot = some r.enter :=
    (openAttendance_record ..).trans (by simp [hr])
  have hopen' (d : Option ShiftDay) (b) (hb : b ≠ p.slot) : (openAttendance p.slot d p.readTime s).record b = s.record b :=
    (openAttendance_record ..).trans (if_neg hb)
  have hbody (h : p.kind ≠ .outPunch) : punchBody l p (punchFigures p s) = passageEntry (punchEntryKind p.kind) l p := by
    rw [punchFigures_none h, punchBody_none]
  unfold resolves applyPunch
  cases hk : p.kind <;> dsimp only
  case inPunch =>
    rw [hbody (by simp [hk]), hk, finishPassage_attendance, finishPassage_mirror]
    exact ⟨openAttendance_attendance .., rfl, (sameButBooks.openAttendance ..).resolvesTo (hopen _) (hopen' _) _⟩
  case inUnscheduled =>
    rw [hbody (by simp [hk]), hk, finishPassage_attendance, finishPassage_mirror]
    have hexc (b) := addException_record p.slot (openAttendance p.slot none p.readTime s) b
    refine ⟨openAttendance_attendance .., rfl, ((sameButBooks.openAttendance ..).trans (.addException ..)).resolvesTo ?_ (fun b hb => ?_) _⟩
    · rw [hexc, if_pos rfl, hopen]
      exact congrArg some (Record.excepted_enter _ r)
    · rw [hexc, if_neg hb, hopen' _ _ hb]
  case outPunch =>
    intro e he hslot
    rw [← hslot] at hr
    refine ⟨_, rfl, ?_⟩
    have hfound : attendanceOf p.slot s.attendance = some e := hslot ▸ attendanceOf_eq (hn (.inl hk)) he
    have hfig : punchFigures p s = some (closingFigures s.pay r.payClass e (some (p.readTime.day * 1440 + p.readTime.minute))) := by
      simp only [punchFigures, hk, hfound, Option.map_some, figuresOf_eq hr]
      rfl
    simp only [hfound]
    rw [hfig, punchBody_some l hk, finishPassage_attendance, finishPassage_mirror, ← hslot]
    exact ⟨rfl, rfl, (sameButBooks.closeEntry ..).resolvesTo (hslot ▸ closeEntry_record_self hr _)
      (fun b hb => closeEntry_record_other (hslot.symm ▸ hb) _ s) _⟩
  case outUnscheduled =>
    intro e he hslot hfree
    rw [← hslot] at hr
    have hfound : attendanceOf p.slot s.attendance = some e := hslot ▸ attendanceOf_eq (hn (.inr hk)) he
    have hfig (t : Option Nat) : closingFigures s.pay r.payClass e t = closingFigures s.pay r.payClass e none := by
      simp [closingFigures, hfree]
    simp only [hfound]
    rw [hbody (by simp [hk]), hk, finishPassage_attendance, finishPassage_mirror, ← hslot]
    exact ⟨rfl, rfl, (sameButBooks.closeEntry ..).resolvesTo (hslot ▸ hfig (some p.readTime.absolute) ▸ closeEntry_record_self hr _)
      (fun b hb => closeEntry_record_other (hslot.symm ▸ hb) _ s) _⟩
  case reEntry =>
    rw [hbody (by simp [hk]), hk, finishPassage_attendance, finishPassage_mirror]
    exact ⟨by split <;> rfl, by split <;> rfl, counted_resolvesTo hr _⟩
  case exitAgain =>
    rw [hbody (by simp [hk]), hk, finishPassage_attendance, finishPassage_mirror]
    exact ⟨by split <;> rfl, by split <;> rfl, counted_resolvesTo hr _⟩
  case untimedGrant =>
    rw [hbody (by simp [hk]), hk, finishPassage_attendance, finishPassage_mirror]
    exact ⟨rfl, rfl, (sameButBooks.refl s).resolvesTo hr (fun _ _ => rfl) _⟩

end Sys2Proof.Machine
end

section
/-! PROOFS. The checks of the classifier and what they bring (chapter 4), and the waiting read after the end of a passage (R57). -/

namespace Sys2Proof.Machine

/-! ## Lapses (R55, R56) -/

theorem lapsedBody_eq (l : Lane) (p : PendingPassage) (e : Bool) :
    lapsedBody l p e =
      laneEntry .lapsed l p.slot p.badge p.readTime { softPassback := p.softPassback, emergency := e } (punchKindCode p.kind) := rfl

theorem lapsePassage_record (l : Lane) (p : PendingPassage) (e : Bool) (s : State) (b : Slot) :
    (lapsePassage l p e s).record b = if b = p.slot then (s.record b).map Record.clearPending else s.record b := by
  unfold lapsePassage
  rw [clearPassage_record, record_appendEntry]

theorem lapsePassage_lapses {s : State} {p : PendingPassage} {r : Record} (hr : s.record p.slot = some r) (l : Lane) (e : Bool) :
    lapses l p r e s (lapsePassage l p e s) := by
  refine ⟨fun m => lapsePassage_lane l m p e s, ?_, fun b hb => ?_, ?_⟩
  · rw [lapsePassage_record, if_pos rfl, hr]
    rfl
  · rw [lapsePassage_record, if_neg hb]
  · unfold lapsePassage clearPassage
    rw [lapsedBody_eq]
    ext1 <;> simp [State.modifyRecord, State.setLane]

/-! ## Refusals and musters (R52, R63, R73) -/

/-- An append does not see the records. -/
theorem appendEntry_modifyRecord (b : EntryBody) (a : Slot) (f : Record → Record) (s : State) :
    appendEntry b (s.modifyRecord a f) = (appendEntry b s).modifyRecord a f := by
  rw [appendEntry_of_same s (s.modifyRecord a f) rfl rfl rfl]
  ext1 <;> simp [State.modifyRecord]

theorem refuseFrame_refusedWith (l : Lane) (w : BadgeRead) (a : Option Slot) (d : DenyReason) (s : State) :
    refusedWith l w a (denyReasonCode d) s (refuseFrame l w a d s) := by
  refine ⟨fun m => refuseFrame_lane l m w a d s, ?_⟩
  unfold refuseFrame loadRed
  ext1 <;> simp [State.setLane] <;> rfl

theorem takeMuster_mustered {s : State} {a : Slot} {r : Record} (hr : s.record a = some r) (l : Lane) (w : BadgeRead) :
    mustered l w a r s (takeMuster l w a s) := by
  refine ⟨?_, fun b hb => ?_, ?_⟩
  · simp [takeMuster, hr]
  · rw [takeMuster, record_appendEntry, record_modifyRecord_ne _ _ hb]
  · unfold takeMuster
    rw [appendEntry_modifyRecord]
    ext1 <;> simp [State.modifyRecord, musterBody, laneEntry, plainBody]

/-! ## Grants (R52, R120) -/

theorem Door.takeGrant_eq (d : Door) (c : LaneConfig) : d.takeGrant c = d.granted c := by
  unfold Door.takeGrant Door.granted
  cases hd : d.status <;> simp [Door.toReleased, releaseTicks, heldTicks]

/-- The state in which the lane, the record and the door have taken a grant. -/
def grantTaken (l : Lane) (p : PendingPassage) (s : State) : State :=
  doorGrant l ((s.setLane l { s.lane l with pending := some p }).modifyRecord p.slot (Record.setPending l))

theorem grantTaken_record (l : Lane) (p : PendingPassage) (s : State) (b : Slot) :
    (grantTaken l p s).record b = if b = p.slot then (s.record b).map (Record.setPending l) else s.record b := by
  unfold grantTaken doorGrant
  rw [record_setDoor, record_modifyRecord, record_setLane]

theorem grantTaken_lane (l m : Lane) (p : PendingPassage) (s : State) :
    (grantTaken l p s).lane m = if m = l then { s.lane l with pending := some p } else s.lane m := by
  unfold grantTaken doorGrant
  rw [lane_setDoor, lane_modifyRecord, lane_setLane]

theorem grantTaken_door (l m : Lane) (p : PendingPassage) (s : State) :
    (grantTaken l p s).door m = if m = l then (s.door l).granted (s.lane l).config else s.door m := by
  unfold grantTaken doorGrant
  rw [door_setDoor, Door.takeGrant_eq]
  simp

theorem grantTaken_frame (l : Lane) (p : PendingPassage) (s : State) :
    grantTaken l p s =
      { s with
        lanes := (grantTaken l p s).lanes, gate := (grantTaken l p s).gate
        roster := { s.roster with records := (grantTaken l p s).roster.records } } := rfl

theorem takeGrant_granted {s : State} {g : Grant} {r : Record} (hr : s.record g.slot = some r) {l : Lane}
    (hn : countedAtGrant s l = true → (s.attendance.map Attendance.slot).Nodup) (w : BadgeRead) :
    granted l w g.slot r g.kind g.softPassback g.direction g.shiftDay s (takeGrant l g w s) := by
  refine ⟨passageOf g w (decide ((s.door l).status = .passing)), grantTaken l _ s, rfl, fun m => grantTaken_lane l m _ s, ?_, ⟨rfl, fun m hm => ?_⟩,
    ?_, fun b hb => ?_, grantTaken_frame .., ?_⟩
  · rw [grantTaken_door, if_pos rfl]
  · rw [grantTaken_door, if_neg hm]
  · exact (grantTaken_record ..).trans (by simp [passageOf, hr, Record.setPending])
  · exact (grantTaken_record ..).trans (if_neg hb)
  · have hcount : (s.lane l).config.sensor = .none ∨ (s.door l).status = .free ↔ countedAtGrant s l = true := by simp [countedAtGrant]
    have htake : takeGrant l g w s =
        if countedAtGrant s l then resolvePassage l (passageOf g w (decide ((s.door l).status = .passing)))
          (grantTaken l (passageOf g w (decide ((s.door l).status = .passing))) s)
        else grantTaken l (passageOf g w (decide ((s.door l).status = .passing))) s := rfl
    rw [htake]
    by_cases hc : countedAtGrant s l = true
    · rw [if_pos (hcount.mpr hc), if_pos hc]
      exact resolvePassage_resolves ((grantTaken_record ..).trans (by simp [passageOf, hr, Record.setPending])) (fun _ => hn hc)
    · rw [if_neg (fun h => hc (hcount.mp h)), if_neg hc]

/-! ## The classification (R60–R73) -/

theorem takeDecision_grant {s : State} {g : Grant} {r : Record} (hr : s.record g.slot = some r) {l : Lane}
    (hn : countedAtGrant s l = true → (s.attendance.map Attendance.slot).Nodup) (w : BadgeRead) :
    granted l w g.slot r g.kind g.softPassback g.direction g.shiftDay s (takeDecision l w s (.grant g)) := takeGrant_granted hr hn w

theorem classifyFrame_eq (l : Lane) (w : BadgeRead) (s : State) : classifyFrame l w s = takeDecision l w s (classify s l w) := by
  unfold classifyFrame takeDecision
  cases classify s l w <;> rfl

theorem passbackDecision_inward (s : State) (c : LaneConfig) (a : Slot) (r : Record) :
    passbackDecision s c a r true =
      if 0 < s.gate.windowCountdown ∨ r.exempt = true ∨ c.passback = .off then .grant ⟨a, .reEntry, false, .inward, none⟩
      else if c.passback = .soft then .grant ⟨a, .reEntry, true, .inward, none⟩
      else .refuse (some a) .passback := by
  unfold passbackDecision windowRunning
  by_cases h1 : 0 < s.gate.windowCountdown
  · simp [h1]
  · by_cases h2 : r.exempt = true ∨ c.passback = .off
    · simp [h1, h2]
    · simp [h1, h2]

theorem passbackDecision_outward (s : State) (c : LaneConfig) (a : Slot) (r : Record) :
    passbackDecision s c a r false =
      if r.exempt = true ∨ c.passback = .off then .grant ⟨a, .exitAgain, false, .outward, none⟩
      else if c.passback = .soft then .grant ⟨a, .exitAgain, true, .outward, none⟩
      else .refuse (some a) .passback := by
  unfold passbackDecision
  by_cases h2 : r.exempt = true ∨ c.passback = .off
  · simp [h2]
  · simp [h2]

/-- The direction and the presence of a timed read decide which of the checks 11 to 13 comes (R67). -/
theorem timedDecision_eq (s : State) (c : LaneConfig) (a : Slot) (r : Record) {w : BadgeRead} (hu : w.untimed = false) :
    timedDecision s c a r w =
      if c.mode = .entry ∧ r.presence = .inside then passbackDecision s c a r true
      else if c.mode = .exit ∧ r.presence = .out then passbackDecision s c a r false
      else if r.presence = .out then inPunchDecision s a r w.readTime
      else outPunchDecision s a := by
  unfold timedDecision inwardAt
  cases c.mode <;> cases r.presence <;> simp [hu]

/-- Checks 9 to 13 (R66–R72). The attendance list is read at an out-punch and at a passage counted with its grant only. -/
theorem takeDecision_timed {s : State} {l : Lane} {a : Slot} {r : Record} {w : BadgeRead} (hr : s.record a = some r)
    (hn : countedAtGrant s l = true → (s.attendance.map Attendance.slot).Nodup)
    (ho : w.untimed = false → (s.lane l).config.mode ≠ .entry → r.presence ≠ .out → (s.attendance.map Attendance.slot).Nodup) :
    timedOutcome l w a r s (takeDecision l w s (timedDecision s (s.lane l).config a r w)) := by
  have hgrant (kind : PunchKind) (soft : Bool) (dir : Direction) (sd : Option ShiftDay) :
      granted l w a r kind soft dir sd s (takeDecision l w s (.grant ⟨a, kind, soft, dir, sd⟩)) :=
    takeDecision_grant (g := ⟨a, kind, soft, dir, sd⟩) hr hn w
  have hrefuse : refusedWith l w (some a) 8 s (takeDecision l w s (.refuse (some a) .passback)) := refuseFrame_refusedWith ..
  unfold timedOutcome
  by_cases hu : w.untimed = true
  · rw [if_pos hu, timedDecision, if_pos hu]
    exact hgrant ..
  · rw [if_neg hu, timedDecision_eq s _ a r (by simpa using hu)]
    by_cases hre : (s.lane l).config.mode = .entry ∧ r.presence = .inside
    · rw [if_pos hre, if_pos hre, passbackDecision_inward]
      split
      · exact hgrant ..
      · split
        · exact hgrant ..
        · exact hrefuse
    · rw [if_neg hre, if_neg hre]
      by_cases hex : (s.lane l).config.mode = .exit ∧ r.presence = .out
      · rw [if_pos hex, if_pos hex, passbackDecision_outward]
        split
        · exact hgrant ..
        · split
          · exact hgrant ..
          · exact hrefuse
      · rw [if_neg hex, if_neg hex]
        by_cases hout : r.presence = .out
        · rw [if_pos hout, if_pos hout]
          refine ⟨_, chooseInstance_chooses s r.shift w.readTime, ?_⟩
          unfold inPunchDecision
          cases chooseInstance s r.shift w.readTime <;> exact hgrant ..
        · rw [if_neg hout, if_neg hout]
          intro e he hslot
          have hentry : (s.lane l).config.mode ≠ .entry := fun hm => hre ⟨hm, by cases h : r.presence <;> simp_all⟩
          have hfound : attendanceOf a s.attendance = some e :=
            hslot ▸ attendanceOf_eq (ho (by simpa using hu) hentry hout) he
          simp only [outPunchDecision, hfound]
          exact hgrant ..

/-- Checks 3 to 8 (R62–R65), and whatever the checks 9 to 13 bring. -/
theorem takeDecision_record {s : State} {l : Lane} {a : Slot} {r : Record} {w : BadgeRead} {timed : State → Prop}
    (hr : s.record a = some r) (ht : timed (takeDecision l w s (timedDecision s (s.lane l).config a r w))) :
    if w.badge.issue ≠ r.issue then refusedWith l w (some a) 3 s (takeDecision l w s (recordDecision s l a r w))
    else if r.suspended = true then refusedWith l w (some a) 4 s (takeDecision l w s (recordDecision s l a r w))
    else if r.permissions.getLsbD l.val = false then refusedWith l w (some a) 5 s (takeDecision l w s (recordDecision s l a r w))
    else if s.gate.emergency = true then mustered l w a r s (takeDecision l w s (recordDecision s l a r w))
    else if s.gate.lockdown = true then refusedWith l w (some a) 6 s (takeDecision l w s (recordDecision s l a r w))
    else if r.pendingLane ≠ none then refusedWith l w (some a) 7 s (takeDecision l w s (recordDecision s l a r w))
    else timed (takeDecision l w s (recordDecision s l a r w)) := by
  have hrefuse (d : DenyReason) : refusedWith l w (some a) (denyReasonCode d) s (takeDecision l w s (.refuse (some a) d)) :=
    refuseFrame_refusedWith ..
  by_cases hi : w.badge.issue ≠ r.issue
  · rw [recordDecision, if_pos hi, if_pos hi]; exact hrefuse .issue
  rw [recordDecision, if_neg hi, if_neg hi]
  by_cases hs : r.suspended = true
  · rw [if_pos hs, if_pos hs]; exact hrefuse .suspended
  rw [if_neg hs, if_neg hs]
  by_cases hp : r.permissions.getLsbD l.val = false
  · have hlane : (!r.permissions.getLsbD l.val) = true := by rw [hp]; rfl
    rw [if_pos hp, if_pos hlane]; exact hrefuse .lane
  have hlane : ¬ (!r.permissions.getLsbD l.val) = true := fun h => hp (by rwa [Bool.not_eq_true'] at h)
  rw [if_neg hp, if_neg hlane]
  by_cases he : s.gate.emergency = true
  · rw [if_pos he, if_pos he]; exact takeMuster_mustered hr l w
  rw [if_neg he, if_neg he]
  by_cases hd : s.gate.lockdown = true
  · rw [if_pos hd, if_pos hd]; exact hrefuse .lockdown
  rw [if_neg hd, if_neg hd]
  by_cases hq : r.pendingLane ≠ none
  · rw [if_pos (Option.isSome_iff_ne_none.mpr hq), if_pos hq]; exact hrefuse .pending
  rw [if_neg (fun h => hq (Option.isSome_iff_ne_none.mp h)), if_neg hq]
  exact ht

theorem siteNumber_inj {k k' : Key} : siteNumber k = siteNumber k' ↔ k.site = k'.site :=
  ⟨fun h => BitVec.toFin_inj.mp h, fun h => congrArg BitVec.toFin h⟩

/-- The census tells an absent number from an absent site (R25, R61). -/
theorem lookup_absent_reason {r : Roster} (hl : RosterLaw r) {k : Key} (h : ∀ e ∈ r.index, e.key ≠ k) :
    lookup r k = if ∃ p ∈ r.records, p.2.key.site = k.site then .numberAbsent else .siteAbsent := by
  have hcount : vget r.census (siteNumber k) = 0 ↔ ¬ ∃ p ∈ r.records, p.2.key.site = k.site := by
    rw [hl.census, siteCount, List.length_eq_zero_iff, List.filter_eq_nil_iff]
    simp [siteNumber_inj]
  rw [lookup_absent h]
  by_cases hs : ∃ p ∈ r.records, p.2.key.site = k.site
  · rw [if_pos hs, if_neg (fun h0 => hcount.mp h0 hs)]
  · rw [if_neg hs, if_pos (hcount.mpr hs)]

theorem classify_absent {s : State} (hl : RosterLaw s.roster) {w : BadgeRead} (h : ∀ e ∈ s.roster.index, e.key ≠ w.badge.key) (l : Lane) :
    classify s l w =
      .refuse none (if ∃ p ∈ s.roster.records, p.2.key.site = w.badge.key.site then .unknown else .site) := by
  unfold classify
  rw [lookup_absent_reason hl h]
  by_cases hs : ∃ p ∈ s.roster.records, p.2.key.site = w.badge.key.site
  · simp only [if_pos hs]
  · simp only [if_neg hs]

theorem classify_found {s : State} (hl : RosterLaw s.roster) {a : Slot} {r : Record} (hr : s.record a = some r) {w : BadgeRead}
    (hk : r.key = w.badge.key) (l : Lane) : classify s l w = recordDecision s l a r w := by
  unfold classify
  rw [← hk, lookup_found hl hr]
  simp only [hr]

/-- A badge without a record is refused (R61). -/
theorem classifyFrame_absent {s : State} (hl : RosterLaw s.roster) {w : BadgeRead} (habs : ∀ e ∈ s.roster.index, e.key ≠ w.badge.key)
    (l : Lane) :
    refusedWith l w none (if ∃ p ∈ s.roster.records, p.2.key.site = w.badge.key.site then 2 else 1) s (classifyFrame l w s) := by
  rw [classifyFrame_eq, classify_absent hl habs]
  by_cases hs : ∃ p ∈ s.roster.records, p.2.key.site = w.badge.key.site
  · rw [if_pos hs, if_pos hs]; exact refuseFrame_refusedWith l w none .unknown s
  · rw [if_neg hs, if_neg hs]; exact refuseFrame_refusedWith l w none .site s

/-- A classification is by the checks in their order (R60). -/
theorem classifyFrame_classified {s : State} (hl : RosterLaw s.roster) (hn : (s.attendance.map Attendance.slot).Nodup) (l : Lane)
    (w : BadgeRead) : classified l w s (classifyFrame l w s) := by
  refine ⟨fun habs => classifyFrame_absent hl habs l, fun a r hr hk => ?_⟩
  rw [classifyFrame_eq, classify_found hl hr hk]
  exact takeDecision_record hr (takeDecision_timed hr (fun _ => hn) fun _ _ _ => hn)

end Sys2Proof.Machine
end

section
/-! PROOFS. Frames at their arrival (sections 3.2, 3.3) and what the classifier brings (chapter 4). -/

namespace Sys2Proof.Machine

/-! ## The append at a state whose lanes differ -/

theorem appendEntry_setLane (b : EntryBody) (l : Lane) (v : LaneState) (s : State) :
    appendEntry b (s.setLane l v) = (appendEntry b s).setLane l v := by
  rw [appendEntry_of_same s (s.setLane l v) rfl rfl rfl]
  ext1 <;> simp [State.setLane]

theorem vset_vset_self {α : Type} {n : Nat} (v : Vector α n) (i : Fin n) (a b : α) : vset (vset v i a) i b = vset v i b :=
  vector_ext_vget fun j => by
    by_cases hj : j = i
    · subst hj; simp
    · simp [hj]

theorem State.setLane_setLane (s : State) (l : Lane) (v w : LaneState) : (s.setLane l v).setLane l w = s.setLane l w :=
  congrArg s.setLanes (vset_vset_self s.lanes l v w)

/-! ## Bits and frames (R46–R49, R51) -/

theorem takesBits_iff (l : Lane) (s : State) : takesBits l s = true ↔ running s = true ∧ (s.lane l).config.mode ≠ .disabled := by
  simp [takesBits]

theorem clockPulse_ignored {l : Lane} {s : State} (h : running s = false ∨ (s.lane l).config.mode = .disabled) (b : Bool) :
    clockPulse l b s = s := by
  rw [clockPulse, if_neg]
  rw [takesBits_iff]
  rcases h with h | h <;> simp [h]

theorem clockPulse_appends {l : Lane} {s : State} (hr : running s = true) (hm : (s.lane l).config.mode ≠ .disabled)
    (hlen : (s.lane l).bits.length < 36) (b : Bool) :
    clockPulse l b s = s.setLane l { s.lane l with bits := (s.lane l).bits ++ [b], gap := 3 } := by
  have hnot : ¬ 36 < ((s.lane l).bits ++ [b]).length := by simp; omega
  rw [clockPulse, if_pos ((takesBits_iff l s).mpr ⟨hr, hm⟩)]
  exact if_neg hnot

theorem clockPulse_full {l : Lane} {s : State} (hr : running s = true) (hm : (s.lane l).config.mode ≠ .disabled)
    (hlen : (s.lane l).bits.length = 36) (b : Bool) : clockPulse l b s = endFrame l ((s.lane l).bits ++ [b]) s := by
  have hfull : 36 < ((s.lane l).bits ++ [b]).length := by simp; omega
  rw [clockPulse, if_pos ((takesBits_iff l s).mpr ⟨hr, hm⟩)]
  exact if_pos hfull

theorem gapExpiry_ends {l : Lane} {s : State} (hr : running s = true) (hm : (s.lane l).config.mode ≠ .disabled)
    (hb : (s.lane l).bits ≠ []) : gapExpiry l s = endFrame l (s.lane l).bits s := by
  have htakes := (takesBits_iff l s).mpr ⟨hr, hm⟩
  rw [gapExpiry, if_pos (by simp [htakes, hb])]

/-- A read in the assembly of lane l at its arrival now. -/
def frameRead (s : State) (l : Lane) : BadgeRead := ⟨frameBadge (s.lane l).bits, s.time.clock, s.time.clockUnset⟩

theorem frameArrival_valid {l : Lane} {s : State} (hr : running s = true) (hm : (s.lane l).config.mode ≠ .disabled)
    (hv : frameValid (s.lane l).bits = true) :
    exec (.frameArrival l .gap) s = .next (arriveValid l (frameRead s l) (s.setLane l (s.lane l).emptied)) := by
  have hb : (s.lane l).bits ≠ [] := by intro h; simp [h, frameValid] at hv
  have hend : endFrame l (s.lane l).bits s = arriveValid l (frameRead s l) (s.setLane l (s.lane l).emptied) := by
    simp only [endFrame, if_pos hv]
    rfl
  exact congrArg Host.Outcome.next ((gapExpiry_ends hr hm hb).trans hend)

theorem arriveValid_empty {l : Lane} {s : State} (hp : (s.lane l).pending = none) (w : BadgeRead) :
    arriveValid l w s = classifyFrame l w s := by
  simp only [arriveValid, hp]

theorem arriveValid_repeat {l : Lane} {s : State} {p : PendingPassage} {w : BadgeRead} (hp : (s.lane l).pending = some p)
    (h : w.badge = p.badge ∨ ∃ x, (s.lane l).waiting = some x ∧ w.badge = x.badge) : arriveValid l w s = s := by
  rcases h with h | ⟨x, hx, h⟩
  · simp [arriveValid, hp, h]
  · simp [arriveValid, hp, hx, h]

theorem arriveValid_waits {l : Lane} {s : State} {p : PendingPassage} {w : BadgeRead} (hp : (s.lane l).pending = some p)
    (h : w.badge ≠ p.badge) (hw : (s.lane l).waiting = none) :
    arriveValid l w s = s.setLane l { s.lane l with waiting := some w } := by
  simp only [arriveValid, hp, if_neg h, hw]

theorem arriveValid_overrun {l : Lane} {s : State} {p : PendingPassage} {w x : BadgeRead} (hp : (s.lane l).pending = some p)
    (h : w.badge ≠ p.badge) (hx : (s.lane l).waiting = some x) (hne : w.badge ≠ x.badge) :
    arriveValid l w s = refuseFrame l w none .overrun s := by
  simp only [arriveValid, hp, if_neg h, hx, if_neg hne]

/-- A frame that fails its check is emptied, BAD-READ gives its length and the red lamp shows (R48, R53). -/
theorem endFrame_bad {l : Lane} {s : State} {frame : List Bool} (hv : frameValid frame = false) :
    (endFrame l frame s).lane l = { s.lane l with bits := [], gap := 0, red := (s.lane l).config.releaseTime * 10 } ∧
      (∀ m, m ≠ l → (endFrame l frame s).lane m = s.lane m) ∧
      endFrame l frame s =
        { appendEntry
            { kind := .badRead, lane := some l, time := s.time.clock, slot := none, badge := none, flags := {}
              kindWord := frame.length, extra := .none } s with
          lanes := (endFrame l frame s).lanes } := by
  have hend : endFrame l frame s =
      (appendEntry (badReadBody l frame.length s) s).setLane l
        { (s.lane l).emptied with red := releaseTicks (s.lane l).config } := by
    simp only [endFrame, hv, Bool.false_eq_true, if_false, loadRed]
    rw [appendEntry_setLane, State.setLane_setLane]
    simp [LaneState.emptied]
  rw [hend]
  exact ⟨by simp [LaneState.emptied, releaseTicks], fun m hm => by simp [hm], rfl⟩

/-- Settles O22: a lane that takes bits takes this one. -/
theorem readerClockPulseAppends : Obligations.ReaderClockPulseAppends := by
  unfold Obligations.ReaderClockPulseAppends
  refine fun s l b => ⟨fun h => congrArg Host.Outcome.next (clockPulse_ignored h b), fun hr hm hlen => ?_⟩
  refine ⟨_, congrArg Host.Outcome.next (clockPulse_appends hr hm hlen b), by simp, fun m hm => by simp [hm], rfl⟩

/-! ## Refusals and grants at the frame's arrival -/

/-- A refusal at the emptied assembly, as a change of the state before the frame ended. -/
theorem refusedWith_emptied {l : Lane} {w : BadgeRead} {a : Option Slot} {code : Nat} {s t : State}
    (h : refusedWith l w a code (s.setLane l (s.lane l).emptied) t) :
    t.lane l = { s.lane l with bits := [], gap := 0, red := (s.lane l).config.releaseTime * 10 } ∧
      (∀ m, m ≠ l → t.lane m = s.lane m) ∧
      t =
        { appendEntry
            { kind := .denied, lane := some l, time := w.readTime, slot := a, badge := some w.badge, flags := {}
              kindWord := code, extra := .none } s with
          lanes := t.lanes } := by
  obtain ⟨hlane, hframe⟩ := h
  refine ⟨by rw [hlane, if_pos rfl]; simp [LaneState.emptied], fun m hm => by rw [hlane, if_neg hm]; simp [hm], ?_⟩
  conv_lhs => rw [hframe, appendEntry_setLane]
  rfl

/-- Settles O23: an ended frame that fails its check is refused; a valid one at a lane with a pending passage is a repeat, waits, or is
one too many. -/
theorem framesOutsideClassification : Obligations.FramesOutsideClassification := by
  unfold Obligations.FramesOutsideClassification
  intro s l hr hm
  have hpend (p : PendingPassage) (hp : (s.lane l).pending = some p) :
      ((s.setLane l (s.lane l).emptied).lane l).pending = some p := by simp [LaneState.emptied, hp]
  have hwait : ((s.setLane l (s.lane l).emptied).lane l).waiting = (s.lane l).waiting := by simp [LaneState.emptied]
  refine ⟨fun hb hv => ?_, fun p hv hp hsame => ?_, fun b hlen => ?_, fun p hv hp hother => ⟨fun hw => ?_, fun w hw hne => ?_⟩⟩
  · exact ⟨_, congrArg Host.Outcome.next (gapExpiry_ends hr hm hb), endFrame_bad hv⟩
  · rw [frameArrival_valid hr hm hv, arriveValid_repeat (p := p) (hpend p hp)]
    · rfl
    · rcases hsame with hsame | ⟨w, hw, hsame⟩
      · exact Or.inl hsame
      · exact Or.inr ⟨w, (hwait).trans hw, hsame⟩
  · have hbad : frameValid ((s.lane l).bits ++ [b]) = false := by
      simp [frameValid, hlen]
    have h := endFrame_bad (l := l) (s := s) hbad
    rw [List.length_append, hlen] at h
    exact ⟨_, congrArg Host.Outcome.next ((if_pos hlen).trans (clockPulse_full hr hm hlen b)),
      congrArg Host.Outcome.next (clockPulse_full hr hm hlen b), h⟩
  · rw [frameArrival_valid hr hm hv, arriveValid_waits (hpend p hp) hother (hwait.trans hw), State.setLane_setLane]
    simp [LaneState.emptied, frameRead]
  · have hexec := frameArrival_valid hr hm hv
    rw [arriveValid_overrun (hpend p hp) hother (hwait.trans hw) hne] at hexec
    have hrefused := refuseFrame_refusedWith l (frameRead s l) none .overrun (s.setLane l (s.lane l).emptied)
    obtain ⟨hlane, hlanes, hframe⟩ := refusedWith_emptied hrefused
    exact ⟨_, hexec, hlane, hlanes, hframe⟩

theorem frameArrival_empty {l : Lane} {s : State} (hr : running s = true) (hm : (s.lane l).config.mode ≠ .disabled)
    (hv : frameValid (s.lane l).bits = true) (hp : (s.lane l).pending = none) :
    exec (.frameArrival l .gap) s = .next (classifyFrame l (frameRead s l) (s.setLane l (s.lane l).emptied)) := by
  rw [frameArrival_valid hr hm hv, arriveValid_empty (by simp [LaneState.emptied, hp])]

/-- Settles O24: the classification of a badge that the index does not hold. -/
theorem unknownBadgeIsDenied : Obligations.UnknownBadgeIsDenied := by
  unfold Obligations.UnknownBadgeIsDenied
  intro s l hr hm hv hp hL habs
  refine ⟨_, frameArrival_empty hr hm hv hp, refusedWith_emptied (a := none) (w := frameRead s l) ?_⟩
  exact classifyFrame_absent (s := s.setLane l (s.lane l).emptied) (w := frameRead s l) hL habs l

end Sys2Proof.Machine
end

section
/-! PROOFS. Frames of a record's badge at a lane with an empty context, check by check (R60–R72). -/

namespace Sys2Proof.Machine

/-- Branch by branch. -/
theorem ite_mono {c P Q P' Q' : Prop} [Decidable c] (hp : P → P') (hq : Q → Q') (h : if c then P else Q) : if c then P' else Q' := by
  by_cases hc : c
  · rw [if_pos hc] at h ⊢; exact hp h
  · rw [if_neg hc] at h ⊢; exact hq h

theorem countedAtGrant_setLane (s : State) (l : Lane) (v : LaneState) (hv : v.config = (s.lane l).config) :
    countedAtGrant (s.setLane l v) l = countedAtGrant s l := by
  unfold countedAtGrant
  rw [lane_setLane, if_pos rfl, hv]
  rfl

theorem refusedAt_of_refusedWith {s t : State} {l : Lane} {a : Slot} {code : Nat} (he : exec (.frameArrival l .gap) s = .next t)
    (h : refusedWith l (frameRead s l) (some a) code (s.setLane l (s.lane l).emptied) t) : refusedAt s l a code := by
  obtain ⟨hlane, hlanes, hframe⟩ := refusedWith_emptied h
  exact ⟨t, he, hlane, hlanes, hframe⟩

/-- A grant at a LOCKED door whose lane has a sensor is no more than that: the passage is still to come (R52, R120). -/
theorem grantedAt_of_granted {s t : State} {l : Lane} {a : Slot} {r : Record} {kind : PunchKind} {soft : Bool} {dir : Direction}
    {sd : Option ShiftDay} (he : exec (.frameArrival l .gap) s = .next t) (hb : frameBadge (s.lane l).bits = ⟨r.key, r.issue⟩)
    (hs : (s.lane l).config.sensor ≠ .none) (hd : (s.door l).status = .locked)
    (h : granted l (frameRead s l) a r kind soft dir sd (s.setLane l (s.lane l).emptied) t) :
    grantedAt s l a r kind soft dir sd := by
  obtain ⟨p, u, hp, hlane, hdoor, hgate, hrec, hrecs, hframe, hend⟩ := h
  have hdoors (m : Lane) : (s.setLane l (s.lane l).emptied).door m = s.door m := rfl
  have hself : (s.setLane l (s.lane l).emptied).lane l = (s.lane l).emptied := by simp
  have hsensor : ((s.setLane l (s.lane l).emptied).lane l).config.sensor ≠ .none := by rwa [hself]
  have hfree : ¬ ((s.setLane l (s.lane l).emptied).door l).status = .free := by rw [hdoors, hd]; decide
  rw [if_neg (fun h => h.elim hsensor hfree)] at hend
  subst hend
  refine ⟨t, he, ?_, fun m hm => ?_, ?_, hgate, hrec, hrecs, ?_⟩
  · rw [hlane, if_pos rfl, hself, hp, hdoors, hd, frameRead, hb]
    rfl
  · rw [hlane, if_neg hm]
    simp [hm]
  · rw [hdoor, hself, Door.granted, hdoors, if_pos hd]
    rfl
  · conv_lhs => rw [hframe]
    rfl

/-- What a frame of a record's badge comes to (R60–R65), with whatever the checks 9 to 13 bring. -/
theorem frameFinds_decided {s : State} {l : Lane} {a : Slot} {r : Record} (h : frameFinds s l a r) (he : s.gate.emergency = false)
    (hd : s.gate.lockdown = false) (hp : r.pendingLane = none)
    (hn : countedAtGrant s l = true → (s.attendance.map Attendance.slot).Nodup)
    (ho : s.time.clockUnset = false → (s.lane l).config.mode ≠ .entry → r.presence ≠ .out →
      (s.attendance.map Attendance.slot).Nodup) :
    ∃ t, exec (.frameArrival l .gap) s = .next t ∧
      timedOutcome l (frameRead s l) a r (s.setLane l (s.lane l).emptied) t := by
  obtain ⟨hr, hm, hv, hpend, hL, ha, hb, hsus, hperm⟩ := h
  have hexec := gapFrame_decided hr hm hv hpend hL ha (by rw [hb])
  refine ⟨_, hexec, ?_⟩
  have hself : ((s.setLane l (s.lane l).emptied).lane l).config = (s.lane l).config := by simp [LaneState.emptied]
  have htimed : recordDecision s l a r (frameRead s l) = timedDecision (s.setLane l (s.lane l).emptied) (s.lane l).config a r (frameRead s l) := by
    unfold recordDecision
    rw [if_neg (by simp [frameRead, hb]), if_neg (by simp [hsus]), if_neg (by rw [hperm]; decide), if_neg (by simp [he]),
      if_neg (by simp [hd]), if_neg (by simp [hp])]
    rfl
  have hout := takeDecision_timed (s := s.setLane l (s.lane l).emptied) (l := l) (w := frameRead s l) ha
    (fun hc => hn (countedAtGrant_setLane s l (s.lane l).emptied rfl ▸ hc)) (by rw [hself]; exact ho)
  rw [hself, ← htimed] at hout
  exact hout

/-- Settles O26: checks 9 and 11 at a LOCKED door whose lane has a sensor. -/
theorem passbackAndUntimed : Obligations.PassbackAndUntimed := by
  unfold Obligations.PassbackAndUntimed
  intro s l a r hf he hd hp hs hdoor
  have hb : frameBadge (s.lane l).bits = ⟨r.key, r.issue⟩ := by
    obtain ⟨-, -, -, -, -, -, hb, -, -⟩ := hf
    exact hb
  have hcounted : countedAtGrant s l = true → (s.attendance.map Attendance.slot).Nodup := by simp [countedAtGrant, hs, hdoor]
  have hself : (s.setLane l (s.lane l).emptied).lane l = (s.lane l).emptied := by simp
  refine ⟨fun hu => ?_, fun hu hm hpres => ?_, fun hu hm hpres => ?_⟩
  · obtain ⟨t, hexec, h⟩ := frameFinds_decided hf he hd hp hcounted (by simp [hu])
    rw [timedOutcome, if_pos (show (frameRead s l).untimed = true from hu)] at h
    exact grantedAt_of_granted hexec hb hs hdoor h
  · obtain ⟨t, hexec, h⟩ := frameFinds_decided hf he hd hp hcounted (fun _ h => absurd hm h)
    rw [timedOutcome, if_neg (show ¬ (frameRead s l).untimed = true by simp [frameRead, hu]), hself, if_pos ⟨hm, hpres⟩] at h
    exact ite_mono (grantedAt_of_granted hexec hb hs hdoor)
      (ite_mono (grantedAt_of_granted hexec hb hs hdoor) (refusedAt_of_refusedWith hexec)) h
  · obtain ⟨t, hexec, h⟩ := frameFinds_decided hf he hd hp hcounted (fun _ _ h => absurd hpres h)
    rw [timedOutcome, if_neg (show ¬ (frameRead s l).untimed = true by simp [frameRead, hu]), hself,
      if_neg (fun h => by simp [hpres] at h), if_pos ⟨hm, hpres⟩] at h
    exact ite_mono (grantedAt_of_granted hexec hb hs hdoor)
      (ite_mono (grantedAt_of_granted hexec hb hs hdoor) (refusedAt_of_refusedWith hexec)) h

/-- Settles O25: checks 12 and 13 of a timed punch that agrees with the record's presence, and the whole chain of checks at any door. -/
theorem grantMakesPending : Obligations.GrantMakesPending := by
  unfold Obligations.GrantMakesPending
  refine ⟨fun s l a r hf he hd hp hu hs hdoor => ?_, fun s l hr hm hv hp hw hL hpl => ?_⟩
  · have hb : frameBadge (s.lane l).bits = ⟨r.key, r.issue⟩ := by
      obtain ⟨-, -, -, -, -, -, hb, -, -⟩ := hf
      exact hb
    have hcounted : countedAtGrant s l = true → (s.attendance.map Attendance.slot).Nodup := by simp [countedAtGrant, hs, hdoor]
    have hself : (s.setLane l (s.lane l).emptied).lane l = (s.lane l).emptied := by simp
    have hread : ¬ (frameRead s l).untimed = true := by simp [frameRead, hu]
    refine ⟨fun hm hpres => ?_, fun hm hpres hn e hmem hslot => ?_⟩
    · obtain ⟨t, hexec, h⟩ := frameFinds_decided hf he hd hp hcounted (fun _ _ h => absurd hpres h)
      rw [timedOutcome, if_neg hread, hself, if_neg (fun h => by simp [hpres] at h), if_neg (fun h => hm h.1), if_pos hpres] at h
      obtain ⟨sd, hsd, h⟩ := h
      exact ⟨sd, hsd, grantedAt_of_granted hexec hb hs hdoor h⟩
    · obtain ⟨t, hexec, h⟩ := frameFinds_decided hf he hd hp hcounted (fun _ _ _ => hn)
      rw [timedOutcome, if_neg hread, hself, if_neg (fun h => hm h.1), if_neg (fun h => by simp [hpres] at h),
        if_neg (by simp [hpres])] at h
      exact grantedAt_of_granted hexec hb hs hdoor (h e hmem hslot)
  · exact ⟨_, frameArrival_empty hr hm hv hp, classifyFrame_classified (s := s.setLane l (s.lane l).emptied) hL hpl.1 l _⟩

theorem mustered_emptied {s t : State} {l : Lane} {a : Slot} {r : Record} {w : BadgeRead}
    (h : mustered l w a r (s.setLane l (s.lane l).emptied) t) :
    t.lane l = { s.lane l with bits := [], gap := 0 } ∧ (∀ m, m ≠ l → t.lane m = s.lane m) ∧
      t.record a = some { r with muster := true } ∧ (∀ b, b ≠ a → t.record b = s.record b) ∧
      t =
        { appendEntry (laneEntry .muster l a w.badge w.readTime {} 0) s with
          lanes := t.lanes, roster := { s.roster with records := t.roster.records } } := by
  obtain ⟨hrec, hrecs, hframe⟩ := h
  have hlanes : t.lanes = (s.setLane l (s.lane l).emptied).lanes := by rw [hframe, appendEntry_setLane]; simp [State.setLane]
  have hlane (m : Lane) : t.lane m = (s.setLane l (s.lane l).emptied).lane m := congrArg (vget · m) hlanes
  refine ⟨by rw [hlane]; simp [LaneState.emptied], fun m hm => by rw [hlane]; simp [hm], hrec, hrecs, ?_⟩
  conv_lhs => rw [hframe, appendEntry_setLane]
  ext1 <;> simp [hlanes, State.setLane]

/-- Settles O27: checks 3 to 8. -/
theorem refusalsAndMuster : Obligations.RefusalsAndMuster := by
  unfold Obligations.RefusalsAndMuster
  intro s l a r hr hm hv hp hL ha hk
  have hexec : exec (.frameArrival l .gap) s =
      .next (takeDecision l (frameRead s l) (s.setLane l (s.lane l).emptied) (recordDecision s l a r (frameRead s l))) :=
    gapFrame_decided hr hm hv hp hL ha hk
  have h := takeDecision_record (s := s.setLane l (s.lane l).emptied) (l := l) (w := frameRead s l) (timed := fun _ => True) ha trivial
  rw [recordDecision_setLane s l (s.lane l).emptied rfl] at h
  generalize takeDecision l (frameRead s l) (s.setLane l (s.lane l).emptied) (recordDecision s l a r (frameRead s l)) = t at hexec h
  have hrefuse {code : Nat} (h : refusedWith l (frameRead s l) (some a) code (s.setLane l (s.lane l).emptied) t) :
      refusedAt s l a code := refusedAt_of_refusedWith hexec h
  refine ite_mono hrefuse (ite_mono hrefuse (ite_mono hrefuse (ite_mono (fun h => ?_) (ite_mono hrefuse fun h hpend => ?_)))) h
  · obtain ⟨hlane, hlanes, hrec, hrecs, hframe⟩ := mustered_emptied h
    exact ⟨t, hexec, hlane, hlanes, hrec, hrecs, hframe⟩
  · rw [if_pos hpend] at h
    exact hrefuse h

end Sys2Proof.Machine
end

section
/-! PROOFS. The end of a pending passage at its lane, with the waiting read that is classified then (section 3.4, R57). -/

namespace Sys2Proof.Machine

/-! ## The state left by a resolution can be classified against -/

/-- What a classification reads of the books: the index finds each record, and the list holds at most one entry of a slot. -/
structure CheckedBooks (s : State) : Prop where
  roster : RosterLaw s.roster
  single : (s.attendance.map Attendance.slot).Nodup

namespace CheckedBooks

theorem of_same {s t : State} (h : CheckedBooks s) (hr : t.roster = s.roster) (ha : t.attendance = s.attendance) : CheckedBooks t :=
  ⟨hr ▸ h.roster, ha ▸ h.single⟩

theorem modifyRecord {s : State} (h : CheckedBooks s) (a : Slot) {f : Record → Record} (hk : ∀ r, (f r).key = r.key) :
    CheckedBooks (s.modifyRecord a f) := ⟨h.roster.modifyRecord a hk, h.single⟩

theorem openAttendance {s : State} (h : CheckedBooks s) {a : Slot} (hfree : ∀ e ∈ s.attendance, e.slot ≠ a) (d : Option ShiftDay)
    (t : Time) : CheckedBooks (openAttendance a d t s) := by
  refine ⟨h.roster.modifyRecord a fun _ => rfl, ?_⟩
  refine ((insertAttendance_perm (newAttendance s.pay a d t) s.attendance).map _).nodup_iff.mpr (List.nodup_cons.mpr ⟨?_, h.single⟩)
  have hslot : (newAttendance s.pay a d t).slot = a := by unfold newAttendance; split <;> rfl
  rw [hslot]
  exact fun hm => by obtain ⟨e, he, hs⟩ := List.mem_map.mp hm; exact hfree e he hs

theorem closeEntry {s : State} (h : CheckedBooks s) (e : Attendance) (t : Option Nat) : CheckedBooks (closeEntry e t s) :=
  ⟨(h.roster.modifyRecord e.slot (f := Record.addClosing s.pay.period (figuresOf e t s)) fun r => r.rollover_key _).modifyRecord e.slot
      (f := Record.leave) fun _ => rfl,
    h.single.sublist (List.filter_sublist.map _)⟩

theorem addException {s : State} (h : CheckedBooks s) (a : Slot) : CheckedBooks (addException a s) :=
  h.modifyRecord a fun r => r.rollover_key _

theorem applyPunch {s : State} (h : CheckedBooks s) {p : PendingPassage}
    (hfree : p.kind = .inPunch ∨ p.kind = .inUnscheduled → ∀ e ∈ s.attendance, e.slot ≠ p.slot) : CheckedBooks (applyPunch p s) := by
  unfold Machine.applyPunch
  cases hk : p.kind <;> dsimp only
  case inPunch => exact h.openAttendance (hfree (.inl hk)) _ _
  case inUnscheduled => exact (h.openAttendance (hfree (.inr hk)) _ _).addException _
  case outPunch => split; exacts [h.closeEntry _ _, h]
  case outUnscheduled => split; exacts [h.closeEntry _ _, h]
  case reEntry => split; exacts [h.addException _, h]
  case exitAgain => split; exacts [h.addException _, h]
  case untimedGrant => exact h

theorem clearPassage {s : State} (h : CheckedBooks s) (l : Lane) (a : Slot) : CheckedBooks (clearPassage l a s) :=
  (h.modifyRecord a (f := Record.clearPending) fun _ => rfl).of_same rfl rfl

theorem appendEntry {s : State} (h : CheckedBooks s) (b : EntryBody) : CheckedBooks (appendEntry b s) :=
  h.of_same (appendEntry_roster ..) (appendEntry_attendance ..)

theorem resolvePassage {s : State} (h : CheckedBooks s) {p : PendingPassage}
    (hfree : p.kind = .inPunch ∨ p.kind = .inUnscheduled → ∀ e ∈ s.attendance, e.slot ≠ p.slot) (l : Lane) :
    CheckedBooks (resolvePassage l p s) :=
  (((h.applyPunch hfree).modifyRecord p.slot (f := Record.setLastPassage l p.readTime) fun _ => rfl).appendEntry _).clearPassage l p.slot

theorem lapsePassage {s : State} (h : CheckedBooks s) (l : Lane) (p : PendingPassage) (e : Bool) : CheckedBooks (lapsePassage l p e s) :=
  (h.appendEntry _).clearPassage l p.slot

end CheckedBooks

/-- An in-punch is pending for a record that the list does not hold (R28, R29). -/
theorem PresenceLaw.slot_free {s : State} (h : PresenceLaw s) {l : Lane} {p : PendingPassage} (hp : (s.lane l).pending = some p)
    (hk : p.kind = .inPunch ∨ p.kind = .inUnscheduled) : ∀ e ∈ s.attendance, e.slot ≠ p.slot := by
  intro e he hs
  obtain ⟨r, hr, -, hfits⟩ := h.pending l p hp
  obtain ⟨q, hq, hin⟩ := h.present e he
  rw [hs, hr] at hq
  cases hq
  have hout : r.presence = .out := by rcases hk with hk | hk <;> rw [hk] at hfits <;> exact hfits
  rw [hin] at hout
  cases hout

/-! ## The waiting slot takes no part in the end of a passage -/

theorem State.withoutWaiting_self {s : State} {l : Lane} (h : (s.lane l).waiting = none) : s.withoutWaiting l = s := by
  have hself : { s.lane l with waiting := none } = s.lane l := by rw [← h]
  unfold State.withoutWaiting State.setLane
  rw [hself]
  exact congrArg s.setLanes (vset_vget_self s.lanes l)

theorem lane_withoutWaiting (s : State) (l m : Lane) :
    (s.withoutWaiting l).lane m = if m = l then { s.lane l with waiting := none } else s.lane m := lane_setLane ..

theorem withoutWaiting_pendingEnded {s t : State} {l : Lane}
    (h : ∀ m, t.lane m = if m = l then { s.lane l with pending := none } else s.lane m) (m : Lane) :
    (t.withoutWaiting l).lane m =
      if m = l then { (s.withoutWaiting l).lane l with pending := none } else (s.withoutWaiting l).lane m := by
  by_cases hm : m = l
  · rw [lane_withoutWaiting, if_pos hm, if_pos hm, lane_withoutWaiting, if_pos rfl, h, if_pos rfl]
  · rw [lane_withoutWaiting, if_neg hm, if_neg hm, lane_withoutWaiting, if_neg hm, h, if_neg hm]

theorem resolvesTo.withoutWaiting {l : Lane} {p : PendingPassage} {after : Record} {b : EntryBody} {s t : State}
    (h : resolvesTo l p after b s t) : resolvesTo l p after b (s.withoutWaiting l) (t.withoutWaiting l) := by
  obtain ⟨hlane, hrec, hrecs, hframe⟩ := h
  refine ⟨withoutWaiting_pendingEnded hlane, hrec, hrecs, ?_⟩
  have happ : appendEntry b (s.withoutWaiting l) = _ := appendEntry_setLane ..
  rw [happ]
  exact congrArg (State.setLanes · (t.withoutWaiting l).lanes) hframe

theorem lapses.withoutWaiting {l : Lane} {p : PendingPassage} {r : Record} {e : Bool} {s t : State} (h : lapses l p r e s t) :
    lapses l p r e (s.withoutWaiting l) (t.withoutWaiting l) := by
  obtain ⟨hlane, hrec, hrecs, hframe⟩ := h
  refine ⟨withoutWaiting_pendingEnded hlane, hrec, hrecs, ?_⟩
  rw [show appendEntry _ (s.withoutWaiting l) = _ from appendEntry_setLane ..]
  exact congrArg (State.setLanes · (t.withoutWaiting l).lanes) hframe

theorem resolves.withoutWaiting {l : Lane} {p : PendingPassage} {r : Record} {s t : State} (h : resolves l p r s t) :
    resolves l p r (s.withoutWaiting l) (t.withoutWaiting l) := by
  unfold resolves at h ⊢
  cases hk : p.kind <;> simp only [hk] at h ⊢
  case inPunch => exact h.imp_right (And.imp_right resolvesTo.withoutWaiting)
  case inUnscheduled => exact h.imp_right (And.imp_right resolvesTo.withoutWaiting)
  case outPunch =>
    intro e he hs
    obtain ⟨f, hf, hl, hm, h⟩ := h e he hs
    exact ⟨f, hf, hl, hm, h.withoutWaiting⟩
  case outUnscheduled =>
    intro e he hs hfree
    obtain ⟨hl, hm, h⟩ := h e he hs hfree
    exact ⟨hl, hm, h.withoutWaiting⟩
  case reEntry => exact h.imp_right (And.imp_right resolvesTo.withoutWaiting)
  case exitAgain => exact h.imp_right (And.imp_right resolvesTo.withoutWaiting)
  case untimedGrant => exact h.imp_right (And.imp_right resolvesTo.withoutWaiting)

/-! ## The ends of a pending passage (R54, R55, R57) -/

/-- The waiting read is classified against the state left (R57). -/
theorem classifyWaiting_then {s : State} (h : CheckedBooks s) (l : Lane) :
    thenWaiting l (s.lane l).waiting (s.withoutWaiting l) (classifyWaiting l s) := by
  unfold thenWaiting classifyWaiting
  cases hw : (s.lane l).waiting with
  | none => exact (State.withoutWaiting_self hw).symm
  | some w => exact classifyFrame_classified (s := s.withoutWaiting l) h.roster h.single l w

theorem reportPassage_ends {s : State} {l : Lane} {p : PendingPassage} {r : Record} (hp : (s.lane l).pending = some p)
    (hr : s.record p.slot = some r) (hb : CheckedBooks s)
    (hfree : p.kind = .inPunch ∨ p.kind = .inUnscheduled → ∀ e ∈ s.attendance, e.slot ≠ p.slot) :
    ∃ v, resolves l p r (s.withoutWaiting l) v ∧ thenWaiting l (s.lane l).waiting v (reportPassage l s) := by
  have hwait : ((resolvePassage l p s).lane l).waiting = (s.lane l).waiting := by rw [resolvePassage_lane, if_pos rfl]
  refine ⟨(resolvePassage l p s).withoutWaiting l, (resolvePassage_resolves hr fun _ => hb.single).withoutWaiting, ?_⟩
  rw [show reportPassage l s = classifyWaiting l (resolvePassage l p s) by simp only [reportPassage, hp], ← hwait]
  exact classifyWaiting_then (hb.resolvePassage hfree l) l

theorem reportLapse_ends {s : State} {l : Lane} {p : PendingPassage} {r : Record} (hp : (s.lane l).pending = some p)
    (hr : s.record p.slot = some r) (hb : CheckedBooks s) :
    ∃ v, lapses l p r false (s.withoutWaiting l) v ∧ thenWaiting l (s.lane l).waiting v (reportLapse l s) := by
  have hwait : ((lapsePassage l p false s).lane l).waiting = (s.lane l).waiting := by rw [lapsePassage_lane, if_pos rfl]
  refine ⟨(lapsePassage l p false s).withoutWaiting l, (lapsePassage_lapses hr l false).withoutWaiting, ?_⟩
  rw [show reportLapse l s = classifyWaiting l (lapsePassage l p false s) by simp only [reportLapse, hp], ← hwait]
  exact classifyWaiting_then (hb.lapsePassage l p false) l

end Sys2Proof.Machine
end

section
/-! PROOFS. Passages and lapses at the door, step by step (sections 3.4, 4.9 and 7.2). -/

namespace Sys2Proof.Machine

/-! ## The door's rows at a RELEASED door (R121) -/

theorem rotationPulse_released {s : State} {l : Lane} (hr : running s = true) (hs : (s.lane l).config.sensor = .rotation)
    (hd : (s.door l).status = .released) :
    exec (.rotationPulse l) s = .next (reportPassage l (s.setDoor l { s.door l with status := .locked, release := 0, heldCount := 0 })) := by
  show Host.Outcome.next (rotationPulse l s) = _
  simp only [rotationPulse, hr, hs, hd, decide_true, Bool.and_true, if_true]
  rfl

/-- The pins with lane l's contact input open. -/
def Pins.withContactOpen (x : Pins) (l : Lane) : Pins := { x with contactOpen := vset x.contactOpen l true }

theorem contactOpening_released {s : State} {l : Lane} (hr : running s = true) (hs : (s.lane l).config.sensor = .contact)
    (hd : (s.door l).status = .released) :
    exec (.contactOpening l) s = .next
      (reportPassage l
        ((s.setPins (s.pins.withContactOpen l)).setDoor l
          { s.door l with
            status := .passing, release := 0, heldCount := (s.lane l).config.heldLimit * 100, heldBell := false
            contactOpen := true })) := by
  have hr' : running (setContactPin l true s) = true := hr
  have hs' : ((setContactPin l true s).lane l).config.sensor = .contact := hs
  have hself : ((setContactPin l true s).setDoor l { (setContactPin l true s).door l with contactOpen := true }).door l =
      { s.door l with contactOpen := true } := by rw [door_setDoor, if_pos rfl]; rfl
  have hpassing (u : State) (h : u = (setContactPin l true s).setDoor l { (setContactPin l true s).door l with contactOpen := true }) :
      contactOpening l s = passageAt l ((u.door l).toPassing (u.lane l).config) u := by
    simp only [contactOpening, hr', hs', decide_true, Bool.and_true, if_true, ← h]
    rw [show (u.door l).status = .released by rw [h, hself]; exact hd]
  have h := hpassing _ rfl
  rw [hself, passageAt, State.setDoor_setDoor] at h
  exact congrArg Host.Outcome.next h

theorem releaseExpiry_lapses {s : State} {l : Lane} (hr : running s = true) (hd : (s.door l).status = .released)
    (hp : 0 < (s.door l).release) :
    exec (.releaseExpiry l) s = .next (reportLapse l (s.setDoor l { s.door l with status := .locked, release := 0, heldCount := 0 })) := by
  show Host.Outcome.next (releaseExpiry l s) = _
  simp only [releaseExpiry, hr, hd, hp, decide_true, Bool.and_true, if_true]
  rfl

theorem grantPassageReport_due {s : State} {l : Lane} {p : PendingPassage} (hr : running s = true) (hp : (s.lane l).pending = some p)
    (hdue : p.reportDue = true) : exec (.grantPassageReport l) s = .next (reportPassage l s) := by
  show Host.Outcome.next (match (s.lane l).pending with | some p => _ | none => s) = _
  simp only [hp, hr, hdue, Bool.and_true, if_true]

/-! ## A passage without a waiting read -/

theorem reportPassage_no_waiting {s : State} {l : Lane} {p : PendingPassage} (hp : (s.lane l).pending = some p)
    (hw : (s.lane l).waiting = none) : reportPassage l s = resolvePassage l p s := by
  have hw' : ((resolvePassage l p s).lane l).waiting = none := by rw [resolvePassage_lane, if_pos rfl]; exact hw
  simp only [reportPassage, hp, classifyWaiting, hw']

theorem reportLapse_no_waiting {s : State} {l : Lane} {p : PendingPassage} (hp : (s.lane l).pending = some p)
    (hw : (s.lane l).waiting = none) : reportLapse l s = lapsePassage l p false s := by
  have hw' : ((lapsePassage l p false s).lane l).waiting = none := by rw [lapsePassage_lane, if_pos rfl]; exact hw
  simp only [reportLapse, hp, classifyWaiting, hw']

theorem insertedIn.length {e : Attendance} {before after : List Attendance} (h : insertedIn e before after) :
    after.length = before.length + 1 := by
  obtain ⟨front, back, rfl, rfl, -, -⟩ := h
  simp only [List.length_append, List.length_cons]
  omega

theorem appendEntry_withDoor (b : EntryBody) (s : State) (x : Pins) (l : Lane) (d : Door) :
    appendEntry b ((s.setPins x).setDoor l d) = ((appendEntry b s).setPins x).setDoor l d := by
  rw [appendEntry_of_same s ((s.setPins x).setDoor l d) rfl rfl rfl]
  ext1 <;> simp [State.setDoor, State.setPins]

/-- A resolution at a lane whose door and input have changed, as a change of the state before. -/
theorem resolvesTo_withDoor {s t : State} {x : Pins} {l : Lane} {d : Door} {p : PendingPassage} {after : Record} {b : EntryBody}
    (h : resolvesTo l p after b ((s.setPins x).setDoor l d) t) :
    t.lane l = { s.lane l with pending := none } ∧ (∀ m, m ≠ l → t.lane m = s.lane m) ∧ t.door l = d ∧ sameGateBut l s t ∧
      t.record p.slot = some { after with pendingLane := none, lastPassage := some ⟨l, p.readTime⟩ } ∧
      (∀ c, c ≠ p.slot → t.record c = s.record c) ∧
      t =
        { appendEntry b s with
          pins := x, lanes := t.lanes, gate := t.gate, attendance := t.attendance
          roster := { s.roster with records := t.roster.records }
          control := { (appendEntry b s).control with presentMirror := t.control.presentMirror } } := by
  obtain ⟨hlane, hrec, hrecs, hframe⟩ := h
  rw [appendEntry_withDoor] at hframe
  have hgate : t.gate = (((appendEntry b s).setPins x).setDoor l d).gate := by rw [hframe]
  have hdoor (m : Lane) : t.door m = if m = l then d else s.door m := by
    have h := (congrArg (fun g : Gate => vget g.doors m) hgate).trans (door_setDoor ((appendEntry b s).setPins x) l m d)
    exact h.trans (by simp [State.door, State.setPins])
  refine ⟨(hlane l).trans (if_pos rfl), fun m hm => (hlane m).trans (if_neg hm), (hdoor l).trans (if_pos rfl),
    ⟨?_, fun m hm => (hdoor m).trans (if_neg hm)⟩, hrec, hrecs, ?_⟩
  · rw [hgate]
    simp [State.setDoor, State.setPins]
  · conv_lhs => rw [hframe]
    rw [hgate]
    rfl

theorem lapses_withDoor {s t : State} {l : Lane} {d : Door} {p : PendingPassage} {r : Record} {e : Bool}
    (h : lapses l p r e (s.setDoor l d) t) :
    t.lane l = { s.lane l with pending := none } ∧ (∀ m, m ≠ l → t.lane m = s.lane m) ∧ t.door l = d ∧ sameGateBut l s t ∧
      t.record p.slot = some { r with pendingLane := none } ∧ (∀ c, c ≠ p.slot → t.record c = s.record c) ∧
      t =
        { appendEntry
            (laneEntry .lapsed l p.slot p.badge p.readTime { softPassback := p.softPassback, emergency := e }
              (punchKindCode p.kind)) s with
          lanes := t.lanes, gate := t.gate, roster := { s.roster with records := t.roster.records } } := by
  obtain ⟨hlane, hrec, hrecs, hframe⟩ := h
  have happ (b : EntryBody) : appendEntry b (s.setDoor l d) = (appendEntry b s).setDoor l d := by
    have h := appendEntry_withDoor b s s.pins l d
    rw [show (appendEntry b s).setPins s.pins = appendEntry b s by
      rw [← appendEntry_pins b s]; rfl] at h
    exact h
  rw [happ] at hframe
  have hgate : t.gate = ((appendEntry (laneEntry .lapsed l p.slot p.badge p.readTime { softPassback := p.softPassback, emergency := e }
      (punchKindCode p.kind)) s).setDoor l d).gate := by rw [hframe]
  have hdoor (m : Lane) : t.door m = if m = l then d else s.door m := by
    have h := (congrArg (fun g : Gate => vget g.doors m) hgate).trans (door_setDoor (appendEntry _ s) l m d)
    exact h.trans (by simp [State.door])
  refine ⟨(hlane l).trans (if_pos rfl), fun m hm => (hlane m).trans (if_neg hm), (hdoor l).trans (if_pos rfl),
    ⟨?_, fun m hm => (hdoor m).trans (if_neg hm)⟩, hrec, hrecs, ?_⟩
  · rw [hgate]
    simp [State.setDoor]
  · conv_lhs => rw [hframe]
    rw [hgate]
    rfl

/-! ## The obligations -/

/-- An in-punch opens its attendance (R74). -/
theorem resolves.opens {s t : State} {l : Lane} {p : PendingPassage} {r : Record} {e : Attendance} (h : resolves l p r s t)
    (hkind : (p.kind = .inPunch ∧ p.shiftDay ≠ none ∧ e = s.pay.opens p.slot p.shiftDay p.readTime) ∨
      (p.kind = .inUnscheduled ∧ e = s.pay.opens p.slot none p.readTime)) :
    insertedIn e s.attendance t.attendance ∧ t.control.presentMirror = t.attendance.length ∧
      resolvesTo l p { (if p.kind = .inPunch then r else r.excepted s.pay.period) with presence := .inside }
        (laneEntry (if p.kind = .inPunch then .inPunch else .inUnscheduled) l p.slot p.badge p.readTime
          { softPassback := p.softPassback } 0) s t := by
  unfold resolves at h
  rcases hkind with ⟨hk, -, rfl⟩ | ⟨hk, rfl⟩ <;> simp only [hk] at h <;> rw [hk] <;> exact h

/-- Settles O28: the pulse locks the door and reports the passage, which opens the attendance (R74). -/
theorem passageOpensAttendance : Obligations.PassageOpensAttendance := by
  unfold Obligations.PassageOpensAttendance
  intro s l p r e hr hs hd hp hw hrec hkind
  have hin : p.kind = .inPunch ∨ p.kind = .inUnscheduled := hkind.imp And.left And.left
  have hres := resolvePassage_resolves (s := s.setDoor l { s.door l with status := .locked, release := 0, heldCount := 0 }) (l := l)
    (p := p) hrec (by rcases hin with h | h <;> simp [h])
  have hexec := (rotationPulse_released hr hs hd).trans (congrArg Host.Outcome.next (reportPassage_no_waiting (l := l) hp hw))
  generalize resolvePassage l p _ = t at hexec hres
  obtain ⟨hlist, hmirror, hto⟩ := hres.opens hkind
  obtain ⟨hlane, hlanes, hdoor, hgate, hafter, hrecs, hframe⟩ := resolvesTo_withDoor (x := s.pins) hto
  refine ⟨t, _, hexec, rfl, hlane, hlanes, hdoor, hgate, hlist, hafter, hrecs, ?_⟩
  rw [hmirror, hlist.length] at hframe
  conv_lhs => rw [hframe]
  rw [← appendEntry_pins]
  rfl

/-- Settles O29: the opening makes the door PASSING and reports the passage, which closes the attendance (R75). -/
theorem passageClosesAttendance : Obligations.PassageClosesAttendance := by
  unfold Obligations.PassageClosesAttendance
  intro s l p r e f hr hs hd hp hw hk hrec hn he hslot hf
  have hres := resolvePassage_resolves (l := l) (p := p)
    (s := (s.setPins (s.pins.withContactOpen l)).setDoor l
      { s.door l with
        status := .passing, release := 0, heldCount := (s.lane l).config.heldLimit * 100, heldBell := false, contactOpen := true })
    hrec fun _ => hn
  have hexec := (contactOpening_released hr hs hd).trans (congrArg Host.Outcome.next (reportPassage_no_waiting (l := l) hp hw))
  generalize resolvePassage l p _ = t at hexec hres
  unfold resolves at hres
  simp only [hk] at hres
  obtain ⟨g, hg, hlist, hmirror, hto⟩ := hres e he hslot
  obtain rfl : g = f := hg.trans hf.symm
  obtain ⟨hlane, hlanes, hdoor, hgate, hafter, hrecs, hframe⟩ := resolvesTo_withDoor hto
  refine ⟨t, _, hexec, rfl, hlane, hlanes, hdoor, hgate, hlist, hafter, hrecs, ?_⟩
  rw [hmirror] at hframe
  exact hframe

/-- Settles O30: the end of a pending passage by each of its rows, and the classification of the waiting read against the state
left. -/
theorem pendingPassageEnds : Obligations.PendingPassageEnds := by
  unfold Obligations.PendingPassageEnds
  intro s l p r hr hp hrec
  refine ⟨fun hw => ⟨fun hd hrel => ?_, fun hdue hk => ?_⟩, fun _ hL hpl => ?_⟩
  · have hexec := (releaseExpiry_lapses hr hd hrel).trans (congrArg Host.Outcome.next (reportLapse_no_waiting (l := l) hp hw))
    exact ⟨_, hexec, lapses_withDoor (lapsePassage_lapses (s := s.setDoor l ((s.door l).rest .locked)) hrec l false)⟩
  · have hres := resolvePassage_resolves (l := l) hrec (by simp [hk])
    have hexec := (grantPassageReport_due hr hp hdue).trans (congrArg Host.Outcome.next (reportPassage_no_waiting hp hw))
    generalize resolvePassage l p s = t at hexec hres
    unfold resolves at hres
    simp only [hk] at hres
    obtain ⟨hlist, hmirror, hlane, hafter, hrecs, hframe⟩ := hres
    refine ⟨t, hexec, (hlane l).trans (if_pos rfl), fun m hm => (hlane m).trans (if_neg hm), hafter, hrecs, ?_⟩
    have hcontrol (b : EntryBody) :
        ({ (appendEntry b s).control with presentMirror := s.control.presentMirror } : Control) = (appendEntry b s).control := by
      rw [← appendEntry_presentMirror b s]
    conv_lhs => rw [hframe, hlist, hmirror, hcontrol, ← appendEntry_attendance (passageEntry .untimedGrant l p) s]
    rfl
  · have hb : CheckedBooks s := ⟨hL, hpl.single⟩
    have hfree := hpl.slot_free hp
    refine ⟨fun hdue => ?_, fun hs hd => ?_, fun hs hd => ?_, fun hd hrel => ?_⟩
    · obtain ⟨v, h⟩ := reportPassage_ends hp hrec hb hfree
      exact ⟨v, _, grantPassageReport_due hr hp hdue, h⟩
    · obtain ⟨v, h⟩ := reportPassage_ends
        (s := s.setDoor l { s.door l with status := .locked, release := 0, heldCount := 0 }) hp hrec (hb.of_same rfl rfl) hfree
      exact ⟨v, _, rotationPulse_released hr hs hd, h⟩
    · obtain ⟨v, h⟩ := reportPassage_ends
        (s := (s.setPins (s.pins.withContactOpen l)).setDoor l
          { s.door l with
            status := .passing, release := 0, heldCount := (s.lane l).config.heldLimit * 100, heldBell := false, contactOpen := true })
        hp hrec (hb.of_same rfl rfl) hfree
      exact ⟨v, _, contactOpening_released hr hs hd, h⟩
    · obtain ⟨v, h⟩ := reportLapse_ends
        (s := s.setDoor l { s.door l with status := .locked, release := 0, heldCount := 0 }) hp hrec (hb.of_same rfl rfl)
      exact ⟨v, _, releaseExpiry_lapses hr hd hrel, h⟩

end Sys2Proof.Machine
end

section
/-! PROOFS. Door alarms, sensors and countdowns (chapter 7). -/

namespace Sys2Proof.Machine

/-! ## The append at a state whose doors differ -/

theorem appendEntry_setDoor (b : EntryBody) (s : State) (l : Lane) (d : Door) :
    appendEntry b (s.setDoor l d) = (appendEntry b s).setDoor l d := by
  rw [appendEntry_of_same s (s.setDoor l d) rfl rfl rfl]
  ext1 <;> simp [State.setDoor]

theorem setDoor_sameGateBut (s : State) (l : Lane) (d : Door) : sameGateBut l s (s.setDoor l d) :=
  ⟨rfl, fun m hm => (door_setDoor s l m d).trans (if_neg hm)⟩

theorem sameGateBut.trans {l : Lane} {s t u : State} (h : sameGateBut l s t) (h' : sameGateBut l t u) : sameGateBut l s u := by
  obtain ⟨hgate, hdoors⟩ := h
  obtain ⟨hgate', hdoors'⟩ := h'
  refine ⟨?_, fun m hm => (hdoors' m hm).trans (hdoors m hm)⟩
  rw [hgate', hgate]

theorem sameGateBut.of_gate {l : Lane} {s t u : State} (h : sameGateBut l s t) (hg : u.gate = t.gate) : sameGateBut l s u :=
  ⟨by rw [hg]; exact h.1, fun m hm => by rw [State.door, hg]; exact h.2 m hm⟩

/-! ## An alarm rings (R122, R123) -/

/-- A door's latch sets, the entry is appended, the alarm pattern is requested and both ports are told. -/
def alarmed (l : Lane) (d : Door) (b : EntryBody) (source : ZoneSource) (s : State) : State :=
  raiseBoth .doorAlarm (alarmRequest (s.lane l).config source (appendEntry b (s.setDoor l d)))

theorem alarmed_spec (l : Lane) (d : Door) (b : EntryBody) (source : ZoneSource) (s : State) :
    (alarmed l d b source s).door l = d ∧ sameGateBut l s (alarmed l d b source s) ∧
      requested (s.lane l).config.alarmZones (s.lane l).config.alarmPattern source s.bells (alarmed l d b source s).bells ∧
      (∀ p, ((alarmed l d b source s).portState p).eventSummary = ((appendEntry b s).portState p).eventSummary ||| 2) ∧
      alarmed l d b source s =
        { appendEntry b s with
          gate := (alarmed l d b source s).gate, bells := (alarmed l d b source s).bells
          control :=
            { (appendEntry b s).control with
              bus := (alarmed l d b source s).control.bus, link := (alarmed l d b source s).control.link } } := by
  have hgate : (alarmed l d b source s).gate = (s.setDoor l d).gate := by simp [alarmed]
  have hbells : (alarmed l d b source s).bells =
      s.bells.requestAll (s.lane l).config.alarmZones (s.lane l).config.alarmPattern source := by simp [alarmed, alarmRequest]
  refine ⟨?_, (setDoor_sameGateBut s l d).of_gate hgate, ?_, fun p => ?_, ?_⟩
  · rw [State.door, hgate]
    exact (door_setDoor s l l d).trans (if_pos rfl)
  · rw [hbells]
    exact Bells.requestAll_spec ..
  · unfold alarmed
    rw [raiseBoth_eventSummary, appendEntry_setDoor]
    rfl
  · unfold alarmed
    rw [raiseBoth_frame, appendEntry_setDoor]
    rfl

theorem forcedPassage_latched {l : Lane} {s : State} (h : (s.door l).forced = true) :
    forcedPassage l s = appendEntry (gateEntry .doorForced (some l) s.time.clock {}) s := if_pos h

theorem forcedPassage_clear {l : Lane} {s : State} (h : (s.door l).forced = false) :
    forcedPassage l s = alarmed l { s.door l with forced := true } (gateEntry .doorForced (some l) s.time.clock {}) (.forced l) s := by
  rw [forcedPassage, if_neg (by simp [h])]
  unfold alarmed
  simp only [appendEntry_setDoor, lane_setDoor, lane_appendEntry]
  rfl

theorem heldAlarm_latched {l : Lane} {s : State} (h : (s.door l).held = true) :
    heldAlarm l s = (appendEntry (gateEntry .doorHeld (some l) s.time.clock {}) s).setDoor l { s.door l with heldCount := 0 } := by
  rw [heldAlarm, if_pos h, ← appendEntry_setDoor]
  rfl

theorem heldAlarm_clear {l : Lane} {s : State} (h : (s.door l).held = false) :
    heldAlarm l s =
      alarmed l
        { s.door l with
          held := true, heldCount := 0
          heldBell := if (s.lane l).config.alarmZones = 0 then (s.door l).heldBell else true }
        (gateEntry .doorHeld (some l) s.time.clock {}) (.held l) s := by
  have hbell : (if (s.lane l).config.alarmZones = 0 then (s.door l).heldBell else true) =
      (decide ((s.lane l).config.alarmZones ≠ 0) || (s.door l).heldBell) := by
    by_cases hz : (s.lane l).config.alarmZones = 0 <;> simp [hz]
  rw [hbell, heldAlarm, if_neg (by simp [h])]
  unfold alarmed
  simp only [door_setDoor, if_true, State.setDoor_setDoor, appendEntry_setDoor, lane_setDoor, lane_appendEntry]
  rfl

/-! ## The sensor rows door state by door state (R119, R121, R123) -/

theorem rotationPulse_forced {s : State} {l : Lane} (hr : running s = true) (hs : (s.lane l).config.sensor = .rotation)
    (hd : (s.door l).status = .locked ∨ (s.door l).status = .lockdown) : rotationPulse l s = forcedPassage l s := by
  rcases hd with hd | hd <;> simp only [rotationPulse, hr, hs, hd, decide_true, Bool.and_true, if_true]

theorem rotationPulse_ignored {s : State} {l : Lane}
    (h : (s.lane l).config.sensor ≠ .rotation ∨ (s.door l).status = .passing ∨ (s.door l).status = .free) :
    rotationPulse l s = s := by
  rcases h with h | h | h
  · simp [rotationPulse, h]
  · simp only [rotationPulse, h, ite_self]
  · simp only [rotationPulse, h, ite_self]

/-- The state once the contact of lane l shows open. -/
def opened (l : Lane) (s : State) : State :=
  State.setDoor { s with pins := { s.pins with contactOpen := vset s.pins.contactOpen l true } } l { s.door l with contactOpen := true }

theorem opened_door (l : Lane) (s : State) : (opened l s).door l = { s.door l with contactOpen := true } :=
  (door_setDoor ..).trans (if_pos rfl)

theorem contactOpening_other {s : State} {l : Lane} (hs : (s.lane l).config.sensor ≠ .contact) :
    contactOpening l s = { s with pins := { s.pins with contactOpen := vset s.pins.contactOpen l true } } := by
  have hs' : ((setContactPin l true s).lane l).config.sensor ≠ .contact := hs
  simp only [contactOpening, hs', decide_false, Bool.and_false]
  rfl

theorem contactOpening_contact {s : State} {l : Lane} (hr : running s = true) (hs : (s.lane l).config.sensor = .contact) :
    contactOpening l s =
      if (s.door l).status = .released then
        passageAt l (((opened l s).door l).toPassing (s.lane l).config) (opened l s)
      else if (s.door l).status = .locked ∨ (s.door l).status = .lockdown then forcedPassage l (opened l s)
      else opened l s := by
  have hr' : running (setContactPin l true s) = true := hr
  have hs' : ((setContactPin l true s).lane l).config.sensor = .contact := hs
  have hstatus : ((opened l s).door l).status = (s.door l).status := by rw [opened_door]
  have hmatch (u : State) (hu : u = opened l s) : contactOpening l s =
      match (u.door l).status with
      | .released => passageAt l ((u.door l).toPassing (u.lane l).config) u
      | .locked => forcedPassage l u
      | .lockdown => forcedPassage l u
      | .passing => u
      | .free => u := by
    subst hu
    simp only [contactOpening, hr', hs', decide_true, Bool.and_true, if_true]
    rfl
  rw [hmatch _ rfl, hstatus]
  cases (s.door l).status <;> simp
  rfl

theorem reportPassage_idle {s : State} {l : Lane} (hp : (s.lane l).pending = none) : reportPassage l s = s := by
  simp only [reportPassage, hp]

theorem reportLapse_idle {s : State} {l : Lane} (hp : (s.lane l).pending = none) : reportLapse l s = s := by
  simp only [reportLapse, hp]

theorem heldExpiry_due {s : State} {l : Lane} (hr : running s = true) (hd : (s.door l).status = .passing)
    (hc : 0 < (s.door l).heldCount) : heldExpiry l s = heldAlarm l s := by
  simp only [heldExpiry, hr, hd, hc, decide_true, Bool.and_true, if_true]

theorem passageRows_unchanged (l : Lane) (x : PinLevel) : passageRows l x x = [] ∧ contactRows l x x = [] := by
  obtain ⟨-, -, -, hp, hc⟩ := rows_of_no_change l x x
  exact ⟨hp, hc⟩

/-- Settles O32: a forced passage and a held alarm, with the latch set or clear, and the rows that move a door or leave it. -/
theorem doorAlarms : Obligations.DoorAlarms := by
  unfold Obligations.DoorAlarms
  intro s l hr
  refine ⟨fun hs hd => ?_, fun hd hc => ?_, fun h => congrArg Host.Outcome.next (rotationPulse_ignored h), ?_, fun hd hp => ?_,
    rfl, rfl, rfl, rfl, passageRows_unchanged l⟩
  · have hexec : exec (.rotationPulse l) s = .next (forcedPassage l s) :=
      congrArg Host.Outcome.next (rotationPulse_forced hr hs hd)
    refine ⟨_, rfl, fun h => forcedPassage_latched h ▸ hexec, fun h => ?_⟩
    rw [forcedPassage_clear h] at hexec
    exact ⟨_, hexec, alarmed_spec ..⟩
  · have hexec : exec (.heldCountdownExpiry l) s = .next (heldAlarm l s) := congrArg Host.Outcome.next (heldExpiry_due hr hd hc)
    refine ⟨_, rfl, fun h => heldAlarm_latched h ▸ hexec, fun h => ?_⟩
    rw [heldAlarm_clear h] at hexec
    exact ⟨_, hexec, alarmed_spec ..⟩
  · refine ⟨opened l s, _, rfl, rfl, fun hs => congrArg Host.Outcome.next (contactOpening_other hs), fun hs => ?_⟩
    have hexec : exec (.contactOpening l) s = .next _ := congrArg Host.Outcome.next (contactOpening_contact hr hs)
    refine ⟨fun hd => ?_, fun hd => ?_⟩
    · rw [hexec, if_neg (by rcases hd with h | h <;> simp [h]), if_neg (by rcases hd with h | h <;> simp [h])]
    · rw [if_neg (by rcases hd with h | h <;> simp [h]), if_pos hd] at hexec
      refine ⟨fun h => ?_, fun h => ?_⟩
      · rw [forcedPassage_latched (by rw [opened_door]; exact h)] at hexec
        exact hexec
      · rw [forcedPassage_clear (by rw [opened_door]; exact h)] at hexec
        obtain ⟨hdoor, hgate, hrest⟩ := alarmed_spec l { (opened l s).door l with forced := true }
          (gateEntry .doorForced (some l) (opened l s).time.clock {}) (.forced l) (opened l s)
        refine ⟨_, hexec, ?_, ?_, hrest⟩
        · rw [hdoor, opened_door]
        · exact sameGateBut.trans ((setDoor_sameGateBut s l _).of_gate rfl) hgate
  · refine ⟨fun hs => ?_, fun hs => ?_, fun hrel => ?_⟩
    · rw [rotationPulse_released hr hs hd, reportPassage_idle (by exact hp)]
    · rw [contactOpening_released hr hs hd, reportPassage_idle (by exact hp)]
      rfl
    · rw [releaseExpiry_lapses hr hd hrel, reportLapse_idle (by exact hp)]

end Sys2Proof.Machine
end

section
/-! PROOFS. Door changes that end a held alarm, and the door commands (sections 7.3, 7.4). -/

namespace Sys2Proof.Machine

/-! ## A door comes to rest (R122, R127, R128, R130) -/

/-- The held alarm of a lane ends where its held-bell mark is set (R122). -/
def heldAlarmEnded (l : Lane) (s t : State) : Prop :=
  if (s.door l).heldBell = true then stopped (fun _ q => q.source = .held l) s.bells t.bells else t.bells = s.bells

theorem restDoor_of_mark {l : Lane} {s : State} (h : (s.door l).heldBell = true) (status : DoorStatus) :
    restDoor l status s =
      (endHeldAlarm l s).setDoor l { s.door l with status, release := 0, heldCount := 0, heldBell := false } := by
  unfold restDoor stopHeldBell
  simp only [h, if_true, door_setDoor, State.setDoor_setDoor]
  rfl

theorem restDoor_of_no_mark {l : Lane} {s : State} (h : (s.door l).heldBell = false) (status : DoorStatus) :
    restDoor l status s = s.setDoor l { s.door l with status, release := 0, heldCount := 0, heldBell := false } := by
  unfold restDoor stopHeldBell Door.rest
  simp only [h, Bool.false_eq_true, if_false]

theorem restDoor_sameGateBut (l : Lane) (status : DoorStatus) (s : State) : sameGateBut l s (restDoor l status s) := by
  cases h : (s.door l).heldBell with
  | true => exact restDoor_of_mark h status ▸ setDoor_sameGateBut (endHeldAlarm l s) l _
  | false => exact restDoor_of_no_mark h status ▸ setDoor_sameGateBut s l _

theorem restDoor_frame (l : Lane) (status : DoorStatus) (s : State) :
    restDoor l status s = { s with gate := (restDoor l status s).gate, bells := (restDoor l status s).bells } := by
  cases h : (s.door l).heldBell with
  | true => rw [restDoor_of_mark h]; rfl
  | false => rw [restDoor_of_no_mark h]; rfl

theorem restDoor_bells (l : Lane) (status : DoorStatus) (s : State) : heldAlarmEnded l s (restDoor l status s) := by
  unfold heldAlarmEnded
  cases h : (s.door l).heldBell with
  | true =>
    rw [restDoor_of_mark h, if_pos rfl]
    have h := Bells.silenceWhere_spec s.bells (fun _ q => decide (q.source = .held l))
    simp only [decide_eq_true_eq] at h
    exact h
  | false =>
    rw [restDoor_of_no_mark h, if_neg (by simp)]
    rfl

/-- The state once the contact of lane l shows closed. -/
def closed (l : Lane) (s : State) : State :=
  State.setDoor { s with pins := { s.pins with contactOpen := vset s.pins.contactOpen l false } } l
    { s.door l with contactOpen := false }

theorem closed_door (l : Lane) (s : State) : (closed l s).door l = { s.door l with contactOpen := false } :=
  (door_setDoor ..).trans (if_pos rfl)

theorem closed_sameGateBut (l : Lane) (s : State) : sameGateBut l s (closed l s) := (setDoor_sameGateBut s l _).of_gate rfl

theorem contactClosing_contact {s : State} {l : Lane} (hr : running s = true) (hs : (s.lane l).config.sensor = .contact) :
    contactClosing l s = if (s.door l).status = .passing then restDoor l .locked (closed l s) else closed l s := by
  have hr' : running (setContactPin l false s) = true := hr
  have hs' : ((setContactPin l false s).lane l).config.sensor = .contact := hs
  have hstatus : ((closed l s).door l).status = (s.door l).status := by rw [closed_door]
  have hmatch (u : State) (hu : u = closed l s) : contactClosing l s =
      match (u.door l).status with
      | .passing => restDoor l .locked u
      | _ => u := by
    subst hu
    simp only [contactClosing, hr', hs', decide_true, Bool.and_true, if_true]
    rfl
  rw [hmatch _ rfl, hstatus]
  cases (s.door l).status <;> simp

/-- Settles O33: a closing ends PASSING as a door comes to rest, and elsewhere changes the contact state only. -/
theorem contactClosingLocks : Obligations.ContactClosingLocks := by
  unfold Obligations.ContactClosingLocks
  intro s l hr hs
  refine ⟨_, congrArg Host.Outcome.next (contactClosing_contact hr hs), ?_⟩
  by_cases hd : (s.door l).status = .passing
  · rw [if_pos hd]
    have hbells := restDoor_bells l .locked (closed l s)
    rw [heldAlarmEnded, closed_door] at hbells
    refine ⟨(closed_sameGateBut l s).trans (restDoor_sameGateBut ..), fun h => absurd hd h, fun _ => ⟨?_, hbells⟩, ?_⟩
    · rw [restDoor_door, if_pos rfl, closed_door]
    · conv_lhs => rw [restDoor_frame]
      rfl
  · rw [if_neg hd]
    exact ⟨closed_sameGateBut l s, fun _ => ⟨closed_door l s, rfl⟩, fun h => absurd h hd, rfl⟩

/-! ## Door commands (R125–R127, R132, R133) -/

theorem lane_range (l : Lane) : firstBad [decide (3 < (word l.val).toNat)] = none := firstBad_none.mpr (by simp; omega)

theorem commandBody_eq (kind : EntryKind) (origin : Port) (l : Option Lane) (s : State) :
    commandBody kind origin l s = gateEntry kind l s.time.clock (originOf origin) := by cases origin <;> rfl

theorem cmdReleaseDoor_lockdown {s : State} (h : s.gate.lockdown = true) (origin : Port) (l : Lane) :
    cmdReleaseDoor origin (word l.val) s = (s, .refuse .lockdown) := by
  simp only [cmdReleaseDoor, lane_range, h, if_true]

theorem cmdReleaseDoor_busy {s : State} {l : Lane} (h : s.gate.lockdown = false) (hp : (s.lane l).pending ≠ none) (origin : Port) :
    cmdReleaseDoor origin (word l.val) s = (s, .refuse .laneBusy) := by
  have hsome := Option.isSome_iff_ne_none.mpr hp
  simp only [cmdReleaseDoor, lane_range, finOf_lane, h, hsome, Bool.false_eq_true, if_false, if_true]

theorem cmdReleaseDoor_released {s : State} {l : Lane} (h : s.gate.lockdown = false) (hp : (s.lane l).pending = none) (origin : Port) :
    cmdReleaseDoor origin (word l.val) s =
      (appendEntry (gateEntry .doorManual (some l) s.time.clock (originOf origin)) (doorGrant l s),
        .done [word (doorStatusCode ((s.door l).granted (s.lane l).config).status)]) := by
  have hstatus (b : EntryBody) : (appendEntry b (doorGrant l s)).door l = (s.door l).granted (s.lane l).config := by
    rw [door_appendEntry, doorGrant_door, if_pos rfl, Door.takeGrant_eq]
  simp only [cmdReleaseDoor, lane_range, finOf_lane, h, hp, Option.isSome_none, Bool.false_eq_true, if_false, hstatus, commandBody_eq]

theorem cmdSetDoorMode_free (l : Lane) (s : State) :
    cmdSetDoorMode (word l.val) 1 s = (freeByMode l s, .done [word (doorStatusCode ((freeByMode l s).door l).status)]) := by
  have hrange : firstBad [decide (3 < (word l.val).toNat), decide (1 < (1 : Word).toNat)] = none := firstBad_none.mpr (by simp; omega)
  simp only [cmdSetDoorMode, hrange, finOf_lane, if_true]

theorem cmdSetDoorMode_normal (l : Lane) (s : State) :
    cmdSetDoorMode (word l.val) 0 s = (normalByMode l s, .done [word (doorStatusCode ((normalByMode l s).door l).status)]) := by
  have hrange : firstBad [decide (3 < (word l.val).toNat), decide (1 < (0 : Word).toNat)] = none := firstBad_none.mpr (by simp; omega)
  have hzero : ¬ (0 : Word) = 1 := by decide
  simp only [cmdSetDoorMode, hrange, finOf_lane, if_neg hzero]

/-- The state once SET DOOR MODE FREE is noted at lane l. -/
def modeFree (l : Lane) (s : State) : State := s.setDoor l { s.door l with mode := .free }

theorem modeFree_door (l : Lane) (s : State) : (modeFree l s).door l = { s.door l with mode := .free } :=
  (door_setDoor ..).trans (if_pos rfl)

theorem freeByMode_eq (l : Lane) (s : State) :
    freeByMode l s =
      if (s.door l).status = .free ∨ (s.door l).status = .lockdown then modeFree l s
      else reportPassage l (restDoor l .free (modeFree l s)) := by
  have hmatch (u : State) (hu : u = modeFree l s) : freeByMode l s =
      match (u.door l).status with
      | .free => u
      | .lockdown => u
      | _ => reportPassage l (restDoor l .free u) := by subst hu; rfl
  rw [hmatch _ rfl, modeFree_door]
  cases (s.door l).status <;> simp

theorem Door.toLocked_eq (d : Door) (c : LaneConfig) : d.toLocked c = d.shut c := rfl

theorem Door.shut_mode (d : Door) (c : LaneConfig) (m : DoorMode) : ({ d with mode := m } : Door).shut c = { d.shut c with mode := m } := by
  unfold Door.shut
  split <;> rfl

theorem normalByMode_shut {s : State} {l : Lane} (hd : (s.door l).status = .free) (hf : (s.door l).freed = false) :
    normalByMode l s = s.setDoor l { (s.door l).shut (s.lane l).config with mode := .normal } := by
  unfold normalByMode lockDoor
  simp only [door_setDoor, if_true, hd, hf, and_self, State.setDoor_setDoor, lane_setDoor, Door.toLocked_eq, ← Door.shut_mode]

theorem normalByMode_stays {s : State} {l : Lane} (h : ¬ ((s.door l).status = .free ∧ (s.door l).freed = false)) :
    normalByMode l s = s.setDoor l { s.door l with mode := .normal } := by
  unfold normalByMode
  simp only [door_setDoor, if_true, if_neg h]

theorem normalByMode_sets (l : Lane) (s : State) : ∃ d, normalByMode l s = s.setDoor l d := by
  by_cases h : (s.door l).status = .free ∧ (s.door l).freed = false
  · exact ⟨_, normalByMode_shut h.1 h.2⟩
  · exact ⟨_, normalByMode_stays h⟩

/-- A change of the door of lane l and of the bells only, handed back with the door's state. -/
theorem restDoor_free_spec (l : Lane) (s : State) :
    (restDoor l .free (modeFree l s)).door l =
        { s.door l with mode := .free, status := .free, release := 0, heldCount := 0, heldBell := false } ∧
      sameGateBut l s (restDoor l .free (modeFree l s)) ∧
      (if (s.door l).heldBell = true then stopped (fun _ q => q.source = .held l) s.bells (restDoor l .free (modeFree l s)).bells
        else (restDoor l .free (modeFree l s)).bells = s.bells) ∧
      restDoor l .free (modeFree l s) =
        { s with gate := (restDoor l .free (modeFree l s)).gate, bells := (restDoor l .free (modeFree l s)).bells } := by
  have hbells := restDoor_bells l .free (modeFree l s)
  rw [heldAlarmEnded, modeFree_door] at hbells
  refine ⟨?_, (setDoor_sameGateBut s l _).trans (restDoor_sameGateBut ..), hbells, ?_⟩
  · rw [restDoor_door, if_pos rfl, modeFree_door]
  · conv_lhs => rw [restDoor_frame]
    rfl

theorem cmdResetAlarm_eq (origin : Port) (l : Lane) (s : State) :
    cmdResetAlarm origin (word l.val) s =
      ((appendEntry (gateEntry .alarmReset (some l) s.time.clock (originOf origin)) s).setDoor l
          { s.door l with forced := false, held := false },
        .done [word (bit (s.door l).forced + 2 * bit (s.door l).held)]) := by
  simp only [cmdResetAlarm, lane_range, finOf_lane, appendEntry_setDoor, commandBody_eq, latchesWord]

theorem cmdSetReentryWindow_eq {w : Word} (h : w.toNat ≤ 60) (s : State) :
    cmdSetReentryWindow w s = ({ s with gate := { s.gate with windowLength := w.toNat } }, .done [word s.gate.windowLength]) := by
  have hrange : firstBad [decide (60 < w.toNat)] = none := firstBad_none.mpr (by simpa using h)
  simp only [cmdSetReentryWindow, hrange]
  rfl

theorem releaseDoor_released {s : State} (ho : engineOpen s = true) {l : Lane} (h : s.gate.lockdown = false)
    (hp : (s.lane l).pending = none) (origin : Port) :
    ∃ t, exec (.releaseDoor origin (word l.val)) s = .next t ∧ sameGateBut l s t ∧
      t.door l = (s.door l).granted (s.lane l).config ∧
      t = State.answering
        { appendEntry (gateEntry .doorManual (some l) s.time.clock (originOf origin)) s with gate := t.gate }
        (.done [word (doorStatusCode (t.door l).status)]) := by
  have hdoor := (doorGrant_door l l s).trans ((if_pos rfl).trans (Door.takeGrant_eq ..))
  refine ⟨_, next_of_cmd ho (cmdReleaseDoor_released h hp origin), ?_, ?_, ?_⟩
  · exact (setDoor_sameGateBut s l _).of_gate (by simp [State.answering]; rfl)
  · rw [← hdoor]
    simp [State.answering, State.door]
  · rw [← Door.takeGrant_eq, show doorGrant l s = s.setDoor l ((s.door l).takeGrant (s.lane l).config) from rfl, appendEntry_setDoor]
    simp [State.answering, State.setDoor, State.door]

theorem setDoorMode_free_rests {s : State} {l : Lane} (h : ¬ ((s.door l).status = .free ∨ (s.door l).status = .lockdown)) :
    freeByMode l s = reportPassage l (restDoor l .free (modeFree l s)) := by rw [freeByMode_eq, if_neg h]

/-- SET DOOR MODE FREE over no pending passage (R127). -/
theorem setDoorMode_free_idle {s : State} (ho : engineOpen s = true) {l : Lane} (hp : (s.lane l).pending = none) :
    ∃ t, exec (.setDoorMode (word l.val) 1) s = .next t ∧ sameGateBut l s t ∧
      (((s.door l).status = .free ∨ (s.door l).status = .lockdown) →
        t.door l = { s.door l with mode := .free } ∧ t.bells = s.bells) ∧
      ((s.door l).status ≠ .free → (s.door l).status ≠ .lockdown →
        t.door l = { s.door l with mode := .free, status := .free, release := 0, heldCount := 0, heldBell := false } ∧
        if (s.door l).heldBell = true then stopped (fun _ q => q.source = .held l) s.bells t.bells else t.bells = s.bells) ∧
      t = State.answering { s with gate := t.gate, bells := t.bells } (.done [word (doorStatusCode (t.door l).status)]) := by
  refine ⟨_, next_of_cmd ho (cmdSetDoorMode_free l s), ?_⟩
  by_cases hd : (s.door l).status = .free ∨ (s.door l).status = .lockdown
  · rw [freeByMode_eq, if_pos hd]
    exact ⟨setDoor_sameGateBut s l _, fun _ => ⟨modeFree_door l s, rfl⟩, fun h1 h2 => (hd.elim h1 h2).elim, rfl⟩
  · obtain ⟨hdoor, hgate, hbells, hframe⟩ := restDoor_free_spec l s
    have hidle : ((restDoor l .free (modeFree l s)).lane l).pending = none := by
      rw [show (restDoor l .free (modeFree l s)).lane l = s.lane l by rw [hframe]; rfl]
      exact hp
    rw [setDoorMode_free_rests hd, reportPassage_idle hidle]
    refine ⟨hgate, fun h => absurd h hd, fun _ _ => ⟨hdoor, hbells⟩, ?_⟩
    conv_lhs => rw [hframe]
    rfl

/-- SET DOOR MODE NORMAL (R127). -/
theorem setDoorMode_normal {s : State} (ho : engineOpen s = true) (l : Lane) :
    ∃ t, exec (.setDoorMode (word l.val) 0) s = .next t ∧ sameGateBut l s t ∧
      ((s.door l).status = .free → (s.door l).freed = false →
        t.door l = { (s.door l).shut (s.lane l).config with mode := .normal }) ∧
      (¬ ((s.door l).status = .free ∧ (s.door l).freed = false) → t.door l = { s.door l with mode := .normal }) ∧
      t = State.answering { s with gate := t.gate } (.done [word (doorStatusCode (t.door l).status)]) := by
  refine ⟨_, next_of_cmd ho (cmdSetDoorMode_normal l s), ?_, fun hd hf => ?_, fun h => ?_, ?_⟩
  · obtain ⟨d, hd⟩ := normalByMode_sets l s
    rw [hd]
    exact setDoor_sameGateBut s l d
  · exact (congrArg (State.door · l) (normalByMode_shut hd hf)).trans ((door_setDoor ..).trans (if_pos rfl))
  · exact (congrArg (State.door · l) (normalByMode_stays h)).trans ((door_setDoor ..).trans (if_pos rfl))
  · obtain ⟨d, hd⟩ := normalByMode_sets l s
    rw [hd]
    rfl

/-- Settles O34: each door command as what it carries out at a lane in range, and the refusals. -/
theorem doorCommands : Obligations.DoorCommands := by
  unfold Obligations.DoorCommands
  intro s ho
  refine ⟨fun l => ⟨fun origin => ⟨fun h => ?_, fun h hp => ?_, fun h hp hd => ?_⟩, setDoorMode_free_idle ho,
      fun p r hp hr => ⟨fun hd => ?_, fun hfree hdown _ hL hpl => ?_⟩, setDoorMode_normal ho l⟩,
    fun origin l => next_of_cmd ho (cmdResetAlarm_eq origin l s), next_of_cmd ho rfl,
    fun w => ⟨fun h => next_of_cmd ho (cmdSetReentryWindow_eq h s), fun h => ?_⟩, fun origin lane mode => ⟨fun h => ?_, fun n hn => ?_⟩⟩
  · exact next_of_cmd ho (cmdReleaseDoor_lockdown h origin l)
  · exact next_of_cmd ho (cmdReleaseDoor_busy h hp origin)
  · obtain ⟨t, hexec, hgate, hdoor, hframe⟩ := releaseDoor_released ho h hp origin
    refine ⟨t, hexec, hgate, fun hd => ?_, fun hd => ?_, fun hd => ?_, fun hd => ?_, hframe⟩ <;> rw [hdoor, Door.granted] <;> simp [hd]
  · have hcmd := cmdSetDoorMode_free l s
    rw [freeByMode_eq, if_pos hd, modeFree_door] at hcmd
    exact next_of_cmd ho hcmd
  · have hcmd := cmdSetDoorMode_free l s
    rw [setDoorMode_free_rests (by simp [hfree, hdown])] at hcmd
    obtain ⟨hdoor, hgate, hbells, hframe⟩ := restDoor_free_spec l s
    generalize restDoor l .free (modeFree l s) = u at hcmd hdoor hgate hbells hframe
    have hlane : u.lane l = s.lane l := by rw [hframe]; rfl
    have hrec (b : Slot) : u.record b = s.record b := by rw [hframe]; rfl
    have hpres := hpl.slot_free hp
    obtain ⟨v, hres, hthen⟩ := reportPassage_ends (s := u) (hlane ▸ hp) ((hrec p.slot).trans hr)
      (CheckedBooks.of_same ⟨hL, hpl.single⟩ (by rw [hframe]) (by rw [hframe])) (by rw [hframe]; exact hpres)
    rw [hlane] at hthen
    exact ⟨u, v, _, next_of_cmd ho hcmd, hframe, hgate, hdoor, hbells, hres, hthen⟩
  · exact next_of_cmd ho (by simp only [cmdSetReentryWindow, firstBad_single_some (decide_eq_true h)])
  · have hbad := firstBad_single_some (decide_eq_true h)
    exact ⟨next_of_cmd ho (by simp only [cmdReleaseDoor, hbad]), next_of_cmd ho (by simp only [cmdResetAlarm, hbad])⟩
  · have hbad : firstBad [decide (3 < lane.toNat), decide (1 < mode.toNat)] = some n := firstBad_of_firstOut (by simp) hn
    exact next_of_cmd ho (by simp only [cmdSetDoorMode, hbad])

end Sys2Proof.Machine
end

section
/-! PROOFS. The emergency line (section 7.6). -/

namespace Sys2Proof.Machine

/-! ## The release (R131) -/

/-- The door of a lane once the emergency has ended. -/
def doorReturned (s : State) (l : Lane) : Door :=
  if (s.door l).freed = true then
    if s.gate.lockdown = true then { s.door l with freed := false, status := .lockdown, release := 0, heldCount := 0 }
    else if (s.door l).mode = .free then { s.door l with freed := false, status := .free, release := 0, heldCount := 0 }
    else { (s.door l).shut (s.lane l).config with freed := false }
  else s.door l

theorem Door.shut_freed (d : Door) (c : LaneConfig) (f : Bool) : ({ d with freed := f } : Door).shut c = { d.shut c with freed := f } := by
  unfold Door.shut
  split <;> rfl

theorem emergencyReturn_eq {s t : State} (l : Lane) (h : sameButDoors s t) (hd : t.door l = s.door l) :
    emergencyReturn l t = t.setDoor l (doorReturned s l) := by
  have hl : t.lane l = s.lane l := by rw [h]; rfl
  have hg : t.gate.lockdown = s.gate.lockdown := by rw [h]
  have hg' (d : Door) : (t.setDoor l d).gate.lockdown = s.gate.lockdown := hg
  unfold emergencyReturn doorReturned lockDoor
  by_cases hf : (s.door l).freed = true
  · simp only [hd, hf, if_true, hg', door_setDoor, State.setDoor_setDoor, lane_setDoor, hl, Door.toLocked_eq, Door.shut_freed]
    by_cases hk : s.gate.lockdown = true
    · rw [if_pos hk, if_pos hk]
      rfl
    · rw [if_neg hk, if_neg hk]
      by_cases hm : (s.door l).mode = .free
      · rw [if_pos hm, if_pos hm]
        rfl
      · rw [if_neg hm, if_neg hm]
  · rw [hd, if_neg hf, if_neg hf, ← hd, State.setDoor_door]

/-- The lanes' doors once all have returned. -/
theorem foldl_emergencyReturn (s : State) :
    sameButDoors s (allLanes.foldl (fun acc l => emergencyReturn l acc) s) ∧
      ∀ l, (allLanes.foldl (fun acc l => emergencyReturn l acc) s).door l = doorReturned s l :=
  foldl_allLanes_setDoor (doorReturned s) fun l _ h hd => emergencyReturn_eq l h hd

/-- An append does not see the pins, the gate and the bells. -/
theorem appendEntry_withGate (b : EntryBody) (s : State) (x : Pins) (g : Gate) (c : Bells) :
    appendEntry b { s with pins := x, gate := g, bells := c } = { appendEntry b s with pins := x, gate := g, bells := c } := by
  rw [appendEntry_of_same s { s with pins := x, gate := g, bells := c } rfl rfl rfl]
  ext1 <;> simp

theorem endEvacuation_stopped (s : State) :
    stopped (fun z q => s.bells.locked.getLsbD z.val = true ∧ q.pattern = 7) { s.bells with locked := 0 } (endEvacuation s).bells := by
  obtain ⟨-, hz⟩ := Bells.silenceWhere_spec s.bells (fun z q => s.bells.locked.getLsbD z.val && decide (q.pattern = 7))
  simp only [Bool.and_eq_true, decide_eq_true_eq] at hz
  exact ⟨rfl, hz⟩

/-- Settles O37: the freed doors return, the evacuation ends, and both ports are told. -/
theorem emergencyReleaseReturnsDoors : Obligations.EmergencyReleaseReturnsDoors := by
  unfold Obligations.EmergencyReleaseReturnsDoors
  intro s hr he
  have hexec : exec .emergencyRelease s = .next (releaseEmergency (s.setPins { s.pins with emergencyLine := false })) := by
    have hr' : running (s.setPins { s.pins with emergencyLine := false }) = true := hr
    have he' : (s.setPins { s.pins with emergencyLine := false }).gate.emergency = true := he
    show Host.Outcome.next (lineReleases s) = _
    simp only [lineReleases, hr', he', Bool.and_true, if_true]
  obtain ⟨hf, hd⟩ := foldl_emergencyReturn
    ((s.setPins { s.pins with emergencyLine := false }).setGate { s.gate with emergency := false })
  generalize hv : allLanes.foldl (fun acc l => emergencyReturn l acc)
    ((s.setPins { s.pins with emergencyLine := false }).setGate { s.gate with emergency := false }) = v at hf hd
  obtain ⟨doors, rfl⟩ : ∃ doors, v =
      { s with pins := { s.pins with emergencyLine := false }, gate := { s.gate with emergency := false, doors } } := ⟨_, hf⟩
  have happ := appendEntry_withGate (gateEntry .emergencyOff none s.time.clock {}) s { s.pins with emergencyLine := false }
    { s.gate with emergency := false, windowCountdown := s.gate.windowLength * 60, doors } (endEvacuation s).bells
  have hrelease : releaseEmergency (s.setPins { s.pins with emergencyLine := false }) =
      raiseBoth .emergency
        { appendEntry (gateEntry .emergencyOff none s.time.clock {}) s with
          pins := { s.pins with emergencyLine := false }
          gate := { s.gate with emergency := false, windowCountdown := s.gate.windowLength * 60, doors }
          bells := (endEvacuation s).bells } := by
    rw [← happ]
    unfold releaseEmergency
    dsimp only
    rw [show (s.setPins { s.pins with emergencyLine := false }).gate = s.gate from rfl, hv]
    rfl
  rw [hrelease] at hexec
  refine ⟨_, _, hexec, rfl, rfl, fun l => ⟨fun hf => (hd l).trans (if_neg (by simp [hf]) : doorReturned s l = _),
    fun hf => (hd l).trans (if_pos hf : doorReturned s l = _)⟩, endEvacuation_stopped s, fun p => ?_, rfl⟩
  rw [raiseBoth_eventSummary]
  cases p <;> rfl

end Sys2Proof.Machine
end

section
/-! PROOFS. The emergency line's assertion (section 7.6, R130): the passages that lapse, the doors that are freed, and the alarms that
end with them. -/

namespace Sys2Proof.Machine

/-! ## The passages that lapse (R56) -/

/-- The entry of a passage that lapses at the assertion. -/
def emergencyLapseEntry (x : Lane × PendingPassage) : EntryBody :=
  laneEntry .lapsed x.1 x.2.slot x.2.badge x.2.readTime { softPassback := x.2.softPassback, emergency := true }
    (punchKindCode x.2.kind)

/-- The pending passages of some lanes, in their order. -/
def passagesAt (s : State) (ls : List Lane) : List (Lane × PendingPassage) :=
  ls.filterMap fun l => (s.lane l).pending.map (l, ·)

/-- Entries appended in order. -/
def appendAll (xs : List (Lane × PendingPassage)) (s : State) : State :=
  xs.foldl (fun v x => appendEntry (emergencyLapseEntry x) v) s

/-- Appends do not see the pins, the lanes, the roster, the gate and the bells. -/
theorem appendEntry_others (b : EntryBody) (s : State) (x : Pins) (ls : Vector LaneState 4) (r : Roster) (g : Gate) (c : Bells) :
    appendEntry b { s with pins := x, lanes := ls, roster := r, gate := g, bells := c } =
      { appendEntry b s with pins := x, lanes := ls, roster := r, gate := g, bells := c } := by
  rw [appendEntry_of_same s { s with pins := x, lanes := ls, roster := r, gate := g, bells := c } rfl rfl rfl]
  ext1 <;> simp

theorem appendAll_others (xs : List (Lane × PendingPassage)) (s : State) (x : Pins) (ls : Vector LaneState 4) (r : Roster) (g : Gate)
    (c : Bells) :
    appendAll xs { s with pins := x, lanes := ls, roster := r, gate := g, bells := c } =
      { appendAll xs s with pins := x, lanes := ls, roster := r, gate := g, bells := c } := by
  induction xs generalizing s with
  | nil => rfl
  | cons y xs ih =>
    show appendAll xs (appendEntry _ _) = _
    rw [appendEntry_others, ih]
    rfl

/-- Only the journal and the ports' state differ, as after an append. -/
def sameButLog (s t : State) : Prop :=
  t = { s with journal := t.journal, control := { s.control with bus := t.control.bus, link := t.control.link } }

theorem sameButLog.trans {s t u : State} (h : sameButLog s t) (h' : sameButLog t u) : sameButLog s u := by
  unfold sameButLog at *
  conv_lhs => rw [h', h]

theorem sameButLog.pins {s t : State} (h : sameButLog s t) : t.pins = s.pins := by rw [show t = _ from h]
theorem sameButLog.gate {s t : State} (h : sameButLog s t) : t.gate = s.gate := by rw [show t = _ from h]
theorem sameButLog.bells {s t : State} (h : sameButLog s t) : t.bells = s.bells := by rw [show t = _ from h]

theorem sameButLog.appendEntry (b : EntryBody) (s : State) : sameButLog s (appendEntry b s) := by
  have h : Machine.appendEntry b s =
      { s with journal := (Machine.appendEntry b s).journal, control := (Machine.appendEntry b s).control } :=
    appendEntry_of_same s s rfl rfl rfl b
  unfold sameButLog
  rw [← appendEntry_control]
  exact h

theorem sameButLog.appendAll (xs : List (Lane × PendingPassage)) (s : State) : sameButLog s (appendAll xs s) := by
  induction xs generalizing s with
  | nil => rfl
  | cons y xs ih => exact (sameButLog.appendEntry (emergencyLapseEntry y) s).trans (ih _)

/-- What a pass over some lanes changes as their passages lapse. -/
structure Lapsed (s : State) (ls : List Lane) (t : State) : Prop where
  lanes : ∀ m, t.lane m = if m ∈ ls then { s.lane m with pending := none, waiting := none } else s.lane m
  records : ∀ a, t.record a =
    if ∃ l ∈ ls, ∃ p ∈ (s.lane l).pending, p.slot = a then (s.record a).map Record.clearPending else s.record a
  frame : t =
    { appendAll (passagesAt s ls) s with lanes := t.lanes, roster := { s.roster with records := t.roster.records } }

theorem Lapsed.roster {s t : State} {ls : List Lane} (h : Lapsed s ls t) :
    t.roster = { s.roster with records := t.roster.records } := by
  conv_lhs => rw [h.frame]

/-- Further entries after the passages of some lanes have lapsed. -/
theorem Lapsed.further {s t : State} {ls : List Lane} (h : Lapsed s ls t) (xs : List (Lane × PendingPassage)) :
    appendAll xs t =
      { appendAll (passagesAt s ls ++ xs) s with lanes := t.lanes, roster := { s.roster with records := t.roster.records } } := by
  have hframe : t = { appendAll (passagesAt s ls) s with lanes := t.lanes, roster := t.roster } := by
    conv_lhs => rw [h.frame]
    rw [← h.roster]
  have hsplit : appendAll (passagesAt s ls ++ xs) s = appendAll xs (appendAll (passagesAt s ls) s) := List.foldl_append
  rw [← h.roster, hsplit]
  generalize appendAll (passagesAt s ls) s = v at hframe
  have hlog : sameButLog v (appendAll xs v) := .appendAll ..
  have hpins : (appendAll xs v).pins = v.pins := hlog.pins
  have hgate : (appendAll xs v).gate = v.gate := hlog.gate
  have hbells : (appendAll xs v).bells = v.bells := hlog.bells
  conv_lhs => rw [hframe]
  refine (appendAll_others xs v v.pins t.lanes t.roster v.gate v.bells).trans ?_
  rw [← hpins, ← hgate, ← hbells]

theorem Lapsed.nil (s : State) : Lapsed s [] s := ⟨fun _ => by simp, fun _ => by simp, rfl⟩

theorem Lapsed.one (l : Lane) (s : State) : Lapsed s [l] (emergencyLapse l s) := by
  cases hp : (s.lane l).pending with
  | none =>
    have heq : emergencyLapse l s = s.setLane l { s.lane l with waiting := none } := by simp only [emergencyLapse, hp]
    rw [heq]
    refine ⟨fun m => ?_, fun a => by simp [hp], ?_⟩
    · rw [lane_setLane]
      by_cases hm : m = l
      · subst hm; simp [hp]
      · simp [hm]
    · simp only [passagesAt, hp, List.filterMap_cons, List.filterMap_nil, Option.map_none]
      rfl
  | some p =>
    have heq : emergencyLapse l s =
        (lapsePassage l p true s).setLane l { (lapsePassage l p true s).lane l with waiting := none } := by
      simp only [emergencyLapse, hp]
    rw [heq]
    refine ⟨fun m => ?_, fun a => ?_, ?_⟩
    · rw [lane_setLane, lapsePassage_lane, lapsePassage_lane]
      by_cases hm : m = l
      · subst hm; simp
      · simp [hm]
    · rw [record_setLane, lapsePassage_record]
      simp [hp, eq_comm]
    · simp only [passagesAt, hp, List.filterMap_cons, List.filterMap_nil, Option.map_some, appendAll, List.foldl_cons, List.foldl_nil,
        emergencyLapseEntry]
      unfold lapsePassage clearPassage
      rw [lapsedBody_eq]
      ext1 <;> simp [State.modifyRecord, State.setLane]

theorem Lapsed.cons {s t u : State} {l : Lane} {ls : List Lane} (hl : l ∉ ls) (h : Lapsed s [l] t) (h' : Lapsed t ls u) :
    Lapsed s (l :: ls) u := by
  have hlane (m : Lane) (hm : m ∈ ls) : t.lane m = s.lane m := by
    rw [h.lanes, if_neg (by simp; rintro rfl; exact hl hm)]
  have hpass : passagesAt t ls = passagesAt s ls := List.filterMap_congr fun m hm => by rw [hlane m hm]
  have hsplit : passagesAt s (l :: ls) = passagesAt s [l] ++ passagesAt s ls := List.filterMap_append (l := [l]) (l' := ls) ..
  refine ⟨fun m => ?_, fun a => ?_, ?_⟩
  · rw [h'.lanes, h.lanes]
    by_cases hm : m = l
    · subst hm; simp [hl]
    · simp [hm]
  · have hex : (∃ m ∈ ls, ∃ p ∈ (t.lane m).pending, p.slot = a) ↔ ∃ m ∈ ls, ∃ p ∈ (s.lane m).pending, p.slot = a :=
      exists_congr fun m => and_congr_right fun hm => by rw [hlane m hm]
    have hone : (∃ m ∈ [l], ∃ p ∈ (s.lane m).pending, p.slot = a) ↔ ∃ p ∈ (s.lane l).pending, p.slot = a := by simp
    have hcons : (∃ m ∈ l :: ls, ∃ p ∈ (s.lane m).pending, p.slot = a) ↔
        (∃ p ∈ (s.lane l).pending, p.slot = a) ∨ ∃ m ∈ ls, ∃ p ∈ (s.lane m).pending, p.slot = a := by
      simp only [List.mem_cons, exists_eq_or_imp]
    rw [h'.records, h.records, if_congr hex rfl rfl, if_congr hone rfl rfl, if_congr hcons rfl rfl]
    by_cases h1 : ∃ p ∈ (s.lane l).pending, p.slot = a
    · by_cases h2 : ∃ m ∈ ls, ∃ p ∈ (s.lane m).pending, p.slot = a
      · rw [if_pos h2, if_pos h1, if_pos (.inl h1)]
        cases s.record a <;> rfl
      · rw [if_neg h2, if_pos h1, if_pos (.inl h1)]
    · by_cases h2 : ∃ m ∈ ls, ∃ p ∈ (s.lane m).pending, p.slot = a
      · rw [if_pos h2, if_neg h1, if_pos (.inr h2)]
      · rw [if_neg h2, if_neg h1, if_neg (not_or.mpr ⟨h1, h2⟩)]
  · conv_lhs => rw [h'.frame, hpass, h.further, h.roster]
    rw [hsplit]

theorem Lapsed.foldl {ls : List Lane} (hn : ls.Nodup) (s : State) : Lapsed s ls (ls.foldl (fun acc l => emergencyLapse l acc) s) := by
  induction ls generalizing s with
  | nil => exact Lapsed.nil s
  | cons l ls ih =>
    obtain ⟨hl, hn⟩ := List.nodup_cons.mp hn
    exact (Lapsed.one l s).cons hl (ih hn _)

/-! ## The doors that are freed (R130) -/

theorem stopped.refl (b : Bells) : stopped (fun _ _ => False) b b := ⟨rfl, fun _ => ⟨fun _ _ h => h.elim, fun _ => rfl⟩⟩

theorem stopped.congr {p p' : Zone → Playing → Prop} {b c : Bells} (h : stopped p b c) (hp : ∀ z q, p z q ↔ p' z q) : stopped p' b c := by
  have : p = p' := funext fun z => funext fun q => propext (hp z q)
  exact this ▸ h

theorem stopped.trans {p p' : Zone → Playing → Prop} {b c d : Bells} (h : stopped p b c) (h' : stopped p' c d) :
    stopped (fun z q => p z q ∨ p' z q) b d := by
  obtain ⟨hframe, hz⟩ := h
  obtain ⟨hframe', hz'⟩ := h'
  refine ⟨by rw [hframe', hframe], fun z => ⟨fun q hq hs => ?_, fun hs => ?_⟩⟩
  · have hone : ∀ x ∈ vget b.zones z, x = q := fun x hx => Option.some.inj (hx.symm.trans hq)
    by_cases hp : p z q
    · have hc := (hz z).1 q hq hp
      rw [(hz' z).2 (by simp [hc]), hc]
    · have hc := (hz z).2 fun x hx => hone x hx ▸ hp
      exact (hz' z).1 q (hc ▸ hq) (hs.resolve_left hp)
  · have hc := (hz z).2 fun x hx hp => hs x hx (.inl hp)
    rw [(hz' z).2 (fun x hx hp => hs x (hc ▸ hx) (.inr hp)), hc]

/-- What a pass over some lanes changes as the emergency frees their doors. -/
structure Freed (s : State) (ls : List Lane) (t : State) : Prop where
  doors : ∀ m, t.door m =
    if m ∈ ls ∧ (s.lane m).config.failState = .failFree then
      { s.door m with status := .free, freed := true, release := 0, heldCount := 0, heldBell := false }
    else s.door m
  bells : stopped (fun _ q => ∃ l ∈ ls, (s.lane l).config.failState = .failFree ∧ (s.door l).heldBell = true ∧ q.source = .held l)
    s.bells t.bells
  frame : t = { s with gate := { s.gate with doors := t.gate.doors }, bells := t.bells }

theorem Freed.nil (s : State) : Freed s [] s :=
  ⟨fun _ => by simp, (stopped.refl s.bells).congr (by simp), rfl⟩

theorem Freed.one (l : Lane) (s : State) : Freed s [l] (emergencyFree l s) := by
  by_cases hf : (s.lane l).config.failState = .failFree
  · have heq : emergencyFree l s =
        (restDoor l .free s).setDoor l { (restDoor l .free s).door l with freed := true } := by simp only [emergencyFree, hf, if_true]
    rw [heq]
    refine ⟨fun m => ?_, ?_, ?_⟩
    · rw [door_setDoor, restDoor_door, restDoor_door]
      by_cases hm : m = l
      · subst hm; simp [hf]
      · simp [hm]
    · have hb := restDoor_bells l .free s
      rw [State.setDoor_bells]
      unfold heldAlarmEnded at hb
      by_cases hh : (s.door l).heldBell = true
      · rw [if_pos hh] at hb
        exact hb.congr (by simp [hf, hh])
      · rw [if_neg hh] at hb
        rw [hb]
        exact (stopped.refl s.bells).congr (by simp [hh])
    · obtain ⟨hgate, -⟩ := restDoor_sameGateBut l .free s
      conv_lhs => rw [restDoor_frame, hgate]
      rfl
  · have heq : emergencyFree l s = s := by simp only [emergencyFree, hf, if_false]
    rw [heq]
    exact ⟨fun m => by by_cases hm : m = l <;> simp [hm, hf], (stopped.refl s.bells).congr (by simp [hf]), rfl⟩

theorem Freed.cons {s t u : State} {l : Lane} {ls : List Lane} (hl : l ∉ ls) (h : Freed s [l] t) (h' : Freed t ls u) :
    Freed s (l :: ls) u := by
  have hlane (m : Lane) : t.lane m = s.lane m := by rw [h.frame]; rfl
  have hdoor (m : Lane) (hm : m ∈ ls) : t.door m = s.door m := by
    rw [h.doors, if_neg]
    rintro ⟨hm', -⟩
    exact hl (List.mem_singleton.mp hm' ▸ hm)
  refine ⟨fun m => ?_, (h.bells.trans h'.bells).congr fun z q => ?_, ?_⟩
  · rw [h'.doors, hlane]
    by_cases hm : m ∈ ls
    · have hne : m ≠ l := fun h => hl (h ▸ hm)
      simp [hm, hdoor m hm]
    · simp [hm, h.doors]
  · have hrest : (∃ m ∈ ls, (t.lane m).config.failState = .failFree ∧ (t.door m).heldBell = true ∧ q.source = .held m) ↔
        ∃ m ∈ ls, (s.lane m).config.failState = .failFree ∧ (s.door m).heldBell = true ∧ q.source = .held m :=
      exists_congr fun m => and_congr_right fun hm => by rw [hlane m, hdoor m hm]
    rw [hrest]
    simp only [List.mem_cons, exists_eq_or_imp, List.not_mem_nil, or_false, exists_eq_left]
  · conv_lhs => rw [h'.frame, h.frame]

theorem Freed.foldl {ls : List Lane} (hn : ls.Nodup) (s : State) : Freed s ls (ls.foldl (fun acc l => emergencyFree l acc) s) := by
  induction ls generalizing s with
  | nil => exact Freed.nil s
  | cons l ls ih =>
    obtain ⟨hl, hn⟩ := List.nodup_cons.mp hn
    exact (Freed.one l s).cons hl (ih hn _)

/-! ## The assertion -/

/-- The state as the assertion begins: the emergency active, the window stopped, the muster flags clear (R130 steps 1 to 3). -/
def emergencyBegun (s : State) : State :=
  { s with
    pins := { s.pins with emergencyLine := true }
    gate := { s.gate with emergency := true, windowCountdown := 0 }
    roster := { s.roster with records := s.roster.records.map fun p => (p.1, { p.2 with muster := false }) } }

theorem emergencyBegun_record (s : State) (a : Slot) :
    (emergencyBegun s).record a = (s.record a).map fun r => { r with muster := false } :=
  record_modifyAllRecords s a fun r => { r with muster := false }

theorem lineAsserts_begun {s : State} (hr : running s = true) (he : s.gate.emergency = false) :
    exec .emergencyAssert s = .next (raiseBoth .emergency (beginEvacuation
      (allLanes.foldl (fun acc l => emergencyFree l acc) (allLanes.foldl (fun acc l => emergencyLapse l acc)
        (appendEntry (gateEntry .emergencyOn none s.time.clock {}) (emergencyBegun s)))))) := by
  have hr' : running (s.setPins { s.pins with emergencyLine := true }) = true := hr
  have he' : (s.setPins { s.pins with emergencyLine := true }).gate.emergency = false := he
  show Host.Outcome.next (lineAsserts s) = _
  simp only [lineAsserts, hr', he', Bool.not_false, Bool.and_true, if_true]
  rfl

theorem emergencyRows_assert (x y : PinLevel) : emergencyRows x y = [.emergencyAssert] ↔ x = .high ∧ y ≠ .high := by
  rw [emergencyRows_eq]
  cases x <;> cases y <;> simp

theorem passagesAt_pairwise (s : State) : (passagesAt s allLanes).Pairwise (fun x y => x.1 < y.1) := by
  refine List.Pairwise.filterMap _ (fun l m hlm x hx y hy => ?_) (List.pairwise_lt_finRange 4)
  obtain ⟨p, -, rfl⟩ := Option.map_eq_some_iff.mp hx
  obtain ⟨q, -, rfl⟩ := Option.map_eq_some_iff.mp hy
  exact hlm

theorem mem_passagesAt (s : State) (l : Lane) (p : PendingPassage) : (l, p) ∈ passagesAt s allLanes ↔ (s.lane l).pending = some p := by
  simp [passagesAt, mem_allLanes]

/-- The state once the assertion is journalled and every pending passage has lapsed (R130 steps 4 and 5). -/
@[irreducible] def allLapsed (s : State) : State :=
  allLanes.foldl (fun acc l => emergencyLapse l acc) (appendEntry (gateEntry .emergencyOn none s.time.clock {}) (emergencyBegun s))

/-- The assertion's own entry, then those of the passages that lapse with it. -/
@[irreducible] def emergencyJournalled (s : State) : State :=
  appendAll (passagesAt s allLanes) (appendEntry (gateEntry .emergencyOn none s.time.clock {}) s)

theorem emergencyJournalled_sameButLog (s : State) : sameButLog s (emergencyJournalled s) :=
  by unfold emergencyJournalled; exact (sameButLog.appendEntry ..).trans (sameButLog.appendAll ..)

theorem allLapsed_lapsed (s : State) :
    Lapsed (appendEntry (gateEntry .emergencyOn none s.time.clock {}) (emergencyBegun s)) allLanes (allLapsed s) := by
  unfold allLapsed
  exact Lapsed.foldl allLanes_nodup _

theorem begun_lane (s : State) (l : Lane) :
    (appendEntry (gateEntry .emergencyOn none s.time.clock {}) (emergencyBegun s)).lane l = s.lane l := lane_appendEntry ..

theorem allLapsed_lane (s : State) (l : Lane) : (allLapsed s).lane l = { s.lane l with pending := none, waiting := none } := by
  rw [(allLapsed_lapsed s).lanes, if_pos (mem_allLanes l), begun_lane]

theorem allLapsed_record (s : State) (a : Slot) : (allLapsed s).record a = (s.record a).map fun r =>
    { r with muster := false, pendingLane := if ∃ l, ∃ p ∈ (s.lane l).pending, p.slot = a then none else r.pendingLane } := by
  have hsome : (∃ l ∈ allLanes, ∃ p ∈ ((appendEntry (gateEntry .emergencyOn none s.time.clock {}) (emergencyBegun s)).lane l).pending,
      p.slot = a) ↔ ∃ l, ∃ p ∈ (s.lane l).pending, p.slot = a :=
    exists_congr fun l => by rw [begun_lane, and_iff_right (mem_allLanes l)]
  rw [(allLapsed_lapsed s).records, if_congr hsome rfl rfl, record_appendEntry, emergencyBegun_record, Option.map_map]
  by_cases h : ∃ l, ∃ p ∈ (s.lane l).pending, p.slot = a
  · rw [if_pos h]
    exact congrArg (Option.map · _) (funext fun r => by rw [if_pos h]; rfl)
  · rw [if_neg h]
    exact congrArg (Option.map · _) (funext fun r => by rw [if_neg h])

theorem allLapsed_frame (s : State) : allLapsed s =
    { emergencyJournalled s with
      pins := (emergencyBegun s).pins, lanes := (allLapsed s).lanes
      roster := { s.roster with records := (allLapsed s).roster.records }
      gate := (emergencyBegun s).gate, bells := s.bells } := by
  have hframe := (allLapsed_lapsed s).frame
  have hpass : passagesAt (appendEntry (gateEntry .emergencyOn none s.time.clock {}) (emergencyBegun s)) allLanes =
      passagesAt s allLanes := by unfold passagesAt; simp only [begun_lane]
  have happ := appendEntry_others (gateEntry .emergencyOn none s.time.clock {}) s (emergencyBegun s).pins s.lanes
    (emergencyBegun s).roster (emergencyBegun s).gate s.bells
  have hroster : (appendEntry (gateEntry .emergencyOn none s.time.clock {}) (emergencyBegun s)).roster = (emergencyBegun s).roster :=
    appendEntry_roster ..
  rw [hpass, hroster] at hframe
  conv_lhs => rw [hframe]
  rw [show appendEntry (gateEntry .emergencyOn none s.time.clock {}) (emergencyBegun s) = _ from happ, appendAll_others]
  unfold emergencyJournalled
  rfl

/-- The state once the FAIL-FREE doors are freed (R130 step 6). -/
@[irreducible] def allFreed (s : State) : State := allLanes.foldl (fun acc l => emergencyFree l acc) (allLapsed s)

theorem allFreed_freed (s : State) : Freed (allLapsed s) allLanes (allFreed s) := by
  unfold allFreed
  exact Freed.foldl allLanes_nodup _

theorem allLapsed_door (s : State) (l : Lane) : (allLapsed s).door l = s.door l := by
  rw [allLapsed_frame]
  rfl

theorem allFreed_door (s : State) (l : Lane) : (allFreed s).door l =
    if (s.lane l).config.failState = .failFree then
      { s.door l with status := .free, freed := true, release := 0, heldCount := 0, heldBell := false }
    else s.door l := by
  rw [(allFreed_freed s).doors, allLapsed_lane, allLapsed_door]
  exact if_congr (and_iff_right (mem_allLanes l)) rfl rfl

theorem allFreed_bells (s : State) :
    stopped (fun _ q => ∃ l, (s.lane l).config.failState = .failFree ∧ (s.door l).heldBell = true ∧ q.source = .held l)
      s.bells (allFreed s).bells := by
  have h := (allFreed_freed s).bells
  rw [show (allLapsed s).bells = s.bells by rw [allLapsed_frame]] at h
  exact h.congr fun _ q => exists_congr fun l => by rw [allLapsed_lane, allLapsed_door, and_iff_right (mem_allLanes l)]

theorem allFreed_frame (s : State) : allFreed s =
    { emergencyJournalled s with
      pins := (emergencyBegun s).pins, lanes := (allLapsed s).lanes
      roster := { s.roster with records := (allLapsed s).roster.records }
      gate := { (emergencyBegun s).gate with doors := (allFreed s).gate.doors }, bells := (allFreed s).bells } := by
  conv_lhs => rw [(allFreed_freed s).frame, allLapsed_frame]

/-- A zone takes the evacuation pattern where nothing of a higher priority plays, whatever held alarms have ended before. -/
theorem accepts_evacuation {b c : Bells} {stop : Zone → Playing → Prop} (h : stopped stop b c) {z : Zone}
    (hprio : (vget b.patterns 7).priority = 4) (hperiod : (vget b.patterns 7).period ≠ 0)
    (hq : ∀ q ∈ vget b.zones z, q.copy.priority ≤ 4) (k : BitVec 8) : ({ c with locked := k } : Bells).accepts z 7 := by
  obtain ⟨hframe, hz⟩ := h
  have hpat : c.patterns = b.patterns := by rw [hframe]
  refine ⟨by rw [hpat]; exact hperiod, .inl rfl, fun q hmem => ?_⟩
  rw [hpat, hprio]
  by_cases hs : ∃ x ∈ vget b.zones z, stop z x
  · obtain ⟨x, hx, hs⟩ := hs
    rw [(hz z).1 x hx hs] at hmem
    cases hmem
  · rw [(hz z).2 fun x hx hs' => hs ⟨x, hx, hs'⟩] at hmem
    exact hq q hmem

theorem allFreed_lane (s : State) (l : Lane) : (allFreed s).lane l = { s.lane l with pending := none, waiting := none } := by
  rw [← allLapsed_lane, allFreed_frame]
  rfl

theorem allFreed_record (s : State) (a : Slot) : (allFreed s).record a = (s.record a).map fun r =>
    { r with muster := false, pendingLane := if ∃ l, ∃ p ∈ (s.lane l).pending, p.slot = a then none else r.pendingLane } := by
  rw [← allLapsed_record, allFreed_frame]
  rfl

/-- The state once the evacuation has begun and both ports are told: the assertion as a whole. -/
@[irreducible] def evacuated (s : State) : State := raiseBoth .emergency (beginEvacuation (allFreed s))

theorem evacuated_eq (s : State) : evacuated s =
    { allFreed s with
      bells := { (allFreed s).bells with locked := (allFreed s).bells.emergencyMask }.requestAll (allFreed s).bells.emergencyMask 7
        .evacuation
      control := { (allFreed s).control with bus := (evacuated s).control.bus, link := (evacuated s).control.link } } := by
  unfold evacuated
  conv_lhs => rw [raiseBoth_frame]
  rfl

theorem evacuated_bells (s : State) :
    requested s.bells.emergencyMask 7 .evacuation { (allFreed s).bells with locked := s.bells.emergencyMask } (evacuated s).bells := by
  have hmask : (allFreed s).bells.emergencyMask = s.bells.emergencyMask := by rw [show (allFreed s).bells = _ from (allFreed_bells s).1]
  rw [evacuated_eq, ← hmask]
  exact Bells.requestAll_spec ..

theorem evacuated_summary (s : State) (p : Port) :
    ((evacuated s).portState p).eventSummary = ((emergencyJournalled s).portState p).eventSummary ||| 4 := by
  have hport : (beginEvacuation (allFreed s)).portState p = (emergencyJournalled s).portState p := by
    show (allFreed s).portState p = _
    rw [allFreed_frame]
    cases p <;> rfl
  unfold evacuated
  rw [raiseBoth_eventSummary, hport]
  rfl

/-- All that the assertion changes. -/
theorem evacuated_frame (s : State) : evacuated s =
    { s with
      pins := { s.pins with emergencyLine := true }, lanes := (allFreed s).lanes
      gate := { s.gate with emergency := true, windowCountdown := 0, doors := (allFreed s).gate.doors }, bells := (evacuated s).bells
      journal := (emergencyJournalled s).journal, roster := { s.roster with records := (allFreed s).roster.records }
      control := { s.control with bus := (evacuated s).control.bus, link := (evacuated s).control.link } } := by
  have ht := evacuated_eq s
  have hf := allFreed_frame s
  have hj := emergencyJournalled_sameButLog s
  generalize evacuated s = t at *
  generalize allFreed s = w at *
  generalize emergencyJournalled s = j at *
  obtain ⟨jn, b, k, rfl⟩ : ∃ jn b k, j = { s with journal := jn, control := { s.control with bus := b, link := k } } := ⟨_, _, _, hj⟩
  obtain ⟨ls, rs, ds, c, rfl⟩ : ∃ ls rs ds c, w =
      { s with
        pins := (emergencyBegun s).pins, lanes := ls, roster := { s.roster with records := rs }
        gate := { (emergencyBegun s).gate with doors := ds }, bells := c, journal := jn
        control := { s.control with bus := b, link := k } } := ⟨_, _, _, _, hf⟩
  exact ht.trans (by rw [ht]; rfl)

/-- Settles O36: the entries, the doors, the bells and the records, pass by pass. -/
theorem emergencyAssertFreesDoors : Obligations.EmergencyAssertFreesDoors := by
  unfold Obligations.EmergencyAssertFreesDoors
  intro s hr he
  have hexec : exec .emergencyAssert s = .next (evacuated s) := by
    unfold evacuated allFreed allLapsed
    exact lineAsserts_begun hr he
  have hstop := allFreed_bells s
  obtain ⟨hbells, hz⟩ := evacuated_bells s
  have hsummary := evacuated_summary s
  have hframe := evacuated_frame s
  generalize evacuated s = t at *
  obtain ⟨c, b, k, rfl⟩ : ∃ c b k, t = 
    { s with
      pins := { s.pins with emergencyLine := true }, lanes := (allFreed s).lanes
      gate := { s.gate with emergency := true, windowCountdown := 0, doors := (allFreed s).gate.doors }, bells := c
      journal := (emergencyJournalled s).journal, roster := { s.roster with records := (allFreed s).roster.records }
      control := { s.control with bus := b, link := k } } := ⟨_, _, _, hframe⟩
  refine ⟨_, hexec, rfl, rfl, allFreed_lane s, allFreed_door s, allFreed_record s,
    fun z hmask hprio hperiod hq => ?_, ?_, ⟨(allFreed s).bells, hstop, hbells, hz⟩, emergencyRows_assert, fun p => ?_,
    ⟨passagesAt s allLanes, emergencyJournalled s, passagesAt_pairwise s, fun l p => mem_passagesAt s l p, ?_, rfl, hsummary⟩, rfl⟩
  · have hstarted := (hz z).1 hmask (accepts_evacuation hstop hprio hperiod hq _)
    have hpat : (allFreed s).bells.patterns = s.bells.patterns := by rw [show (allFreed s).bells = _ from hstop.1]
    rw [hstarted, Bells.started, hpat]
    rfl
  · conv_lhs => rw [hbells, show (allFreed s).bells = _ from hstop.1]
  · rw [hsummary]
    simp
  · unfold emergencyJournalled appendAll
    rfl

end Sys2Proof.Machine
end

section
/-! PROOFS. Lockdown and its end (section 7.5). -/

namespace Sys2Proof.Machine

/-! ## In lockdown no presence changes (R128) -/

/-- Lanes, records, journal and the ports' state alone differ, and no record's presence or current totals. -/
structure SamePresence (s t : State) : Prop where
  presence : ∀ a, (t.record a).map Record.presence = (s.record a).map Record.presence
  current : ∀ a, (t.record a).map Record.current = (s.record a).map Record.current
  frame : t =
    { s with
      lanes := t.lanes, roster := { s.roster with records := t.roster.records }, journal := t.journal
      control := { s.control with bus := t.control.bus, link := t.control.link } }

namespace SamePresence

theorem refl (s : State) : SamePresence s s := ⟨fun _ => rfl, fun _ => rfl, rfl⟩

theorem trans {s t u : State} (h : SamePresence s t) (h' : SamePresence t u) : SamePresence s u := by
  refine ⟨fun a => (h'.presence a).trans (h.presence a), fun a => (h'.current a).trans (h.current a), ?_⟩
  conv_lhs => rw [h'.frame, h.frame]

theorem gate {s t : State} (h : SamePresence s t) : t.gate = s.gate := by rw [h.frame]

theorem bells {s t : State} (h : SamePresence s t) : t.bells = s.bells := by rw [h.frame]

theorem setLane (s : State) (l : Lane) (v : LaneState) : SamePresence s (s.setLane l v) := ⟨fun _ => rfl, fun _ => rfl, rfl⟩

theorem appendEntry (b : EntryBody) (s : State) : SamePresence s (appendEntry b s) := by
  refine ⟨fun a => by rw [record_appendEntry], fun a => by rw [record_appendEntry], ?_⟩
  rw [appendEntry_lanes, appendEntry_roster]
  exact sameButLog.appendEntry b s

theorem modifyRecord (s : State) (a : Slot) {f : Record → Record} (hp : ∀ r, (f r).presence = r.presence)
    (hc : ∀ r, (f r).current = r.current) : SamePresence s (s.modifyRecord a f) := by
  refine ⟨fun b => ?_, fun b => ?_, rfl⟩ <;> rw [record_modifyRecord] <;> split
  · cases s.record b <;> simp [hp]
  · rfl
  · cases s.record b <;> simp [hc]
  · rfl

theorem lapsePassage (l : Lane) (p : PendingPassage) (e : Bool) (s : State) : SamePresence s (lapsePassage l p e s) :=
  ((appendEntry _ s).trans (modifyRecord _ p.slot (f := Record.clearPending) (fun _ => rfl) fun _ => rfl)).trans (setLane _ l _)

theorem refuseFrame (l : Lane) (w : BadgeRead) (a : Option Slot) (d : DenyReason) (s : State) :
    SamePresence s (refuseFrame l w a d s) := (appendEntry _ s).trans (setLane _ l _)

theorem takeMuster (l : Lane) (w : BadgeRead) (a : Slot) (s : State) : SamePresence s (takeMuster l w a s) :=
  (modifyRecord s a (f := fun r => { r with muster := true }) (fun _ => rfl) fun _ => rfl).trans (appendEntry _ _)

end SamePresence

/-- A lane state after a refused or mustered read: the red lamp may show. -/
def redOnly (v w : LaneState) : Prop := w = { v with red := w.red }

theorem classifyFrame_in_lockdown {s : State} (h : s.gate.lockdown = true) (l : Lane) (w : BadgeRead) :
    SamePresence s (classifyFrame l w s) ∧ redOnly (s.lane l) ((classifyFrame l w s).lane l) ∧
      ∀ m, m ≠ l → (classifyFrame l w s).lane m = s.lane m := by
  unfold classifyFrame
  split
  · next a d _ =>
    exact ⟨.refuseFrame l w a d s, by rw [refuseFrame_lane, if_pos rfl]; rfl, fun m hm => by rw [refuseFrame_lane, if_neg hm]⟩
  · next a _ =>
    have hlane (m : Lane) : (takeMuster l w a s).lane m = s.lane m := by unfold takeMuster; simp
    exact ⟨.takeMuster l w a s, by rw [hlane]; rfl, fun m _ => hlane m⟩
  · next g hg => exact absurd hg (classify_ne_grant h l w g)

theorem classifyWaiting_in_lockdown {s : State} (h : s.gate.lockdown = true) (l : Lane) :
    SamePresence s (classifyWaiting l s) ∧ redOnly { s.lane l with waiting := none } ((classifyWaiting l s).lane l) ∧
      ∀ m, m ≠ l → (classifyWaiting l s).lane m = s.lane m := by
  cases hw : (s.lane l).waiting with
  | none =>
    have heq : classifyWaiting l s = s := by simp only [classifyWaiting, hw]
    rw [heq]
    exact ⟨.refl s, by rw [← hw]; rfl, fun _ _ => rfl⟩
  | some w =>
    have heq : classifyWaiting l s = classifyFrame l w (s.withoutWaiting l) := by simp only [classifyWaiting, hw]; rfl
    obtain ⟨hp, hl, ho⟩ := classifyFrame_in_lockdown (s := s.withoutWaiting l) h l w
    rw [heq]
    rw [lane_withoutWaiting, if_pos rfl] at hl
    exact ⟨(SamePresence.setLane s l _).trans hp, hl, fun m hm => (ho m hm).trans (by rw [lane_withoutWaiting, if_neg hm])⟩

theorem reportLapse_in_lockdown {s : State} (h : s.gate.lockdown = true) {l : Lane} (hL : LaneLaw (s.lane l)) :
    SamePresence s (reportLapse l s) ∧ redOnly { s.lane l with pending := none, waiting := none } ((reportLapse l s).lane l) ∧
      ∀ m, m ≠ l → (reportLapse l s).lane m = s.lane m := by
  cases hp : (s.lane l).pending with
  | none =>
    have hw : (s.lane l).waiting = none := by
      obtain ⟨-, -, -, hwait⟩ := hL
      exact Option.not_isSome_iff_eq_none.mp fun hs => by simpa [hp] using hwait hs
    rw [reportLapse_idle hp]
    exact ⟨.refl s, by rw [← hp, ← hw]; rfl, fun _ _ => rfl⟩
  | some p =>
    have heq : reportLapse l s = classifyWaiting l (lapsePassage l p false s) := by simp only [reportLapse, hp]
    have hlapse := SamePresence.lapsePassage l p false s
    obtain ⟨hs, hl, ho⟩ := classifyWaiting_in_lockdown (s := lapsePassage l p false s) (by rw [hlapse.gate]; exact h) l
    rw [heq]
    rw [lapsePassage_lane, if_pos rfl] at hl
    exact ⟨hlapse.trans hs, hl, fun m hm => (ho m hm).trans (by rw [lapsePassage_lane, if_neg hm])⟩

/-! ## A pass over the lanes (R128 step 3) -/

/-- What a pass over some lanes changes as they go to LOCKDOWN. -/
structure WentDown (s : State) (ls : List Lane) (t : State) : Prop where
  doors : ∀ m, t.door m =
    if m ∈ ls ∧ (s.door m).freed = false then
      { s.door m with status := .lockdown, release := 0, heldCount := 0, heldBell := false }
    else s.door m
  down : ∀ m, m ∈ ls → (s.door m).freed = false → redOnly { s.lane m with pending := none, waiting := none } (t.lane m)
  others : ∀ m, ¬ (m ∈ ls ∧ (s.door m).freed = false) → t.lane m = s.lane m
  presence : ∀ a, (t.record a).map Record.presence = (s.record a).map Record.presence
  current : ∀ a, (t.record a).map Record.current = (s.record a).map Record.current
  frame : t =
    { s with
      lanes := t.lanes, gate := { s.gate with doors := t.gate.doors }, roster := { s.roster with records := t.roster.records }
      bells := { s.bells with zones := t.bells.zones }, journal := t.journal
      control := { s.control with bus := t.control.bus, link := t.control.link } }

theorem WentDown.nil (s : State) : WentDown s [] s :=
  ⟨fun m => by simp, fun m hm => by simp at hm, fun _ _ => rfl, fun _ => rfl, fun _ => rfl, rfl⟩

theorem restDoor_bells_zones (l : Lane) (d : DoorStatus) (s : State) :
    (restDoor l d s).bells = { s.bells with zones := (restDoor l d s).bells.zones } := by
  have h := restDoor_bells l d s
  unfold heldAlarmEnded at h
  by_cases hb : (s.door l).heldBell = true
  · rw [if_pos hb] at h
    exact h.1
  · rw [if_neg hb] at h
    rw [h]

theorem WentDown.one {s : State} (h : s.gate.lockdown = true) {l : Lane} (hL : LaneLaw (s.lane l)) : WentDown s [l] (lockDownLane l s) := by
  by_cases hf : (s.door l).freed = true
  · rw [show lockDownLane l s = s from if_pos hf]
    refine ⟨fun m => ?_, fun m hm hnot => ?_, fun _ _ => rfl, fun _ => rfl, fun _ => rfl, rfl⟩
    · rw [if_neg]
      rintro ⟨hm, hnot⟩
      rw [List.mem_singleton.mp hm, hf] at hnot
      cases hnot
    · rw [List.mem_singleton.mp hm, hf] at hnot
      cases hnot
  · rw [show lockDownLane l s = reportLapse l (restDoor l .lockdown s) from if_neg hf]
    have hframe := restDoor_frame l .lockdown s
    have hbells := restDoor_bells_zones l .lockdown s
    obtain ⟨hgate, -⟩ := restDoor_sameGateBut l .lockdown s
    have hdoor (m : Lane) := restDoor_door l m .lockdown s
    generalize restDoor l .lockdown s = u at *
    have hlane (m : Lane) : u.lane m = s.lane m := by rw [hframe]; rfl
    have hrec (a : Slot) : u.record a = s.record a := by rw [hframe]; rfl
    obtain ⟨hsame, hdown, hothers⟩ := reportLapse_in_lockdown (s := u) (by rw [hgate]; exact h) (l := l) (hlane l ▸ hL)
    have hfalse : (s.door l).freed = false := by simpa using hf
    refine ⟨fun m => ?_, fun m hm _ => ?_, fun m hm => ?_, fun a => ?_, fun a => ?_, ?_⟩
    · rw [State.door, hsame.gate, ← State.door, hdoor]
      by_cases hm : m = l
      · subst hm; simp [hfalse]
      · simp [hm]
    · obtain rfl := List.mem_singleton.mp hm
      rw [← hlane]
      exact hdown
    · rw [hothers m fun he => hm ⟨by simp [he], he ▸ hfalse⟩, hlane]
    · rw [hsame.presence, hrec]
    · rw [hsame.current, hrec]
    · have hu : u = { s with gate := { s.gate with doors := u.gate.doors }, bells := { s.bells with zones := u.bells.zones } } := by
        rw [← hgate, ← hbells]
        exact hframe
      have ht := hsame.frame
      generalize reportLapse l u = t at ht
      obtain ⟨ds, z, rfl⟩ : ∃ ds z, u = { s with gate := { s.gate with doors := ds }, bells := { s.bells with zones := z } } := ⟨_, _, hu⟩
      obtain ⟨ls, rs, j, b, k, rfl⟩ : ∃ ls rs j b k, t =
          { s with
            gate := { s.gate with doors := ds }, bells := { s.bells with zones := z }, lanes := ls
            roster := { s.roster with records := rs }, journal := j, control := { s.control with bus := b, link := k } } :=
        ⟨_, _, _, _, _, ht⟩
      rfl

theorem WentDown.cons {s t u : State} {l : Lane} {ls : List Lane} (hl : l ∉ ls) (h : WentDown s [l] t) (h' : WentDown t ls u) :
    WentDown s (l :: ls) u := by
  have hstays (m : Lane) (hm : m ≠ l) : ¬ (m ∈ [l] ∧ (s.door m).freed = false) := fun hmem => hm (List.mem_singleton.mp hmem.1)
  have hdoor (m : Lane) (hm : m ≠ l) : t.door m = s.door m := by rw [h.doors, if_neg (hstays m hm)]
  have hlane (m : Lane) (hm : m ≠ l) : t.lane m = s.lane m := h.others m (hstays m hm)
  refine ⟨fun m => ?_, fun m hm hf => ?_, fun m hm => ?_, fun a => (h'.presence a).trans (h.presence a),
    fun a => (h'.current a).trans (h.current a), ?_⟩
  · rw [h'.doors]
    by_cases hm : m = l
    · subst hm
      simp [hl, h.doors]
    · rw [hdoor m hm]
      simp [hm]
  · by_cases hm' : m = l
    · subst hm'
      rw [h'.others m fun hmem => hl hmem.1]
      exact h.down m (by simp) hf
    · rw [← hlane m hm']
      exact h'.down m ((List.mem_cons.mp hm).resolve_left hm') (hdoor m hm' ▸ hf)
  · by_cases hm' : m = l
    · subst hm'
      rw [h'.others m fun hmem => hl hmem.1]
      exact h.others m fun hmem => hm ⟨by simp, hmem.2⟩
    · rw [h'.others m fun hmem => hm ⟨List.mem_cons_of_mem _ hmem.1, hdoor m hm' ▸ hmem.2⟩, hlane m hm']
  · conv_lhs => rw [h'.frame, h.frame]

theorem WentDown.lockdown {s t : State} {ls : List Lane} (h : WentDown s ls t) : t.gate.lockdown = s.gate.lockdown := by rw [h.frame]

theorem WentDown.foldl {ls : List Lane} (hn : ls.Nodup) {s : State} (h : s.gate.lockdown = true)
    (hL : ∀ l ∈ ls, LaneLaw (s.lane l)) : WentDown s ls (ls.foldl (fun acc l => lockDownLane l acc) s) := by
  induction ls generalizing s with
  | nil => exact WentDown.nil s
  | cons l ls ih =>
    obtain ⟨hl, hn⟩ := List.nodup_cons.mp hn
    have hone := WentDown.one h (hL l (by simp))
    refine hone.cons hl (ih hn (hone.lockdown.trans h) fun m hm => ?_)
    have hne : m ≠ l := fun he => hl (he ▸ hm)
    rw [hone.others m fun hmem => hne (List.mem_singleton.mp hmem.1)]
    exact hL m (List.mem_cons_of_mem _ hm)

end Sys2Proof.Machine
end

section
/-! PROOFS. LOCKDOWN lane by lane, and CLEAR LOCKDOWN (section 7.5). -/

namespace Sys2Proof.Machine

/-! ## What each lane's step needs (R128) -/

theorem CheckedBooks.classifyWaiting {s : State} (hb : CheckedBooks s) (h : s.gate.lockdown = true) (l : Lane) :
    CheckedBooks (classifyWaiting l s) := by
  unfold Machine.classifyWaiting
  split
  · next w _ =>
    have hb' : CheckedBooks (s.setLane l { s.lane l with waiting := none }) := hb.of_same rfl rfl
    unfold classifyFrame
    split
    · exact (hb'.appendEntry _).of_same rfl rfl
    · next a _ => exact (hb'.modifyRecord a (f := fun r => { r with muster := true }) fun _ => rfl).appendEntry _
    · next g hg => exact absurd hg (classify_ne_grant (s := s.setLane l _) h l w g)
  · exact hb

theorem restDoor_checkedBooks {s : State} (hb : CheckedBooks s) (l : Lane) (d : DoorStatus) : CheckedBooks (restDoor l d s) :=
  hb.of_same (by rw [restDoor_frame]) (by rw [restDoor_frame])

theorem CheckedBooks.lockDownLane {s : State} (hb : CheckedBooks s) (h : s.gate.lockdown = true) (l : Lane) :
    CheckedBooks (lockDownLane l s) := by
  unfold Machine.lockDownLane
  split
  · exact hb
  · have hu := restDoor_checkedBooks hb l .lockdown
    have hlock : (restDoor l .lockdown s).gate.lockdown = true := by rw [(restDoor_sameGateBut l .lockdown s).1]; exact h
    unfold reportLapse
    split
    · next p _ =>
      refine (hu.lapsePassage l p false).classifyWaiting ?_ l
      rw [(SamePresence.lapsePassage ..).gate]
      exact hlock
    · exact hu

/-- Every pending passage is a record's (R29). -/
def PassagesHaveRecords (s : State) : Prop := ∀ l p, (s.lane l).pending = some p → ∃ r, s.record p.slot = some r

theorem WentDown.passagesHaveRecords {s t : State} {ls : List Lane} (h : WentDown s ls t) (hp : PassagesHaveRecords s) :
    PassagesHaveRecords t := by
  intro l p hpend
  by_cases hdown : l ∈ ls ∧ (s.door l).freed = false
  · have hlane := h.down l hdown.1 hdown.2
    rw [redOnly] at hlane
    rw [hlane] at hpend
    cases hpend
  · rw [h.others l hdown] at hpend
    obtain ⟨r, hr⟩ := hp l p hpend
    have hsame := h.presence p.slot
    rw [hr] at hsame
    obtain ⟨q, hq, -⟩ := Option.map_eq_some_iff.mp hsame
    exact ⟨q, hq⟩

theorem WentDown.laneLaw {s t : State} {ls : List Lane} (h : WentDown s ls t) (hL : ∀ l, LaneLaw (s.lane l)) (l : Lane) :
    LaneLaw (t.lane l) := by
  by_cases hdown : l ∈ ls ∧ (s.door l).freed = false
  · obtain ⟨hbits, hgap, hrun, -⟩ := hL l
    have hlane := h.down l hdown.1 hdown.2
    rw [redOnly] at hlane
    rw [hlane]
    exact ⟨hbits, hgap, hrun, fun hw => hw⟩
  · rw [h.others l hdown]
    exact hL l

/-- One lane's step of LOCKDOWN. -/
theorem lockDownLane_goesDown {s : State} (hb : CheckedBooks s) (hp : PassagesHaveRecords s) (l : Lane) :
    goesDown l s (lockDownLane l s) := by
  unfold goesDown
  by_cases hf : (s.door l).freed = true
  · rw [if_pos hf]
    exact if_pos hf
  · rw [if_neg hf, show lockDownLane l s = reportLapse l (restDoor l .lockdown s) from if_neg hf]
    have hframe := restDoor_frame l .lockdown s
    have hgate := restDoor_sameGateBut l .lockdown s
    have hdoor := (restDoor_door l l .lockdown s).trans (if_pos rfl)
    have hbells := restDoor_bells l .lockdown s
    have hu := restDoor_checkedBooks hb l .lockdown
    generalize restDoor l .lockdown s = u at *
    have hlane : u.lane l = s.lane l := by rw [hframe]; rfl
    refine ⟨u, hframe, hgate, hdoor, hbells, ?_⟩
    cases hpend : (s.lane l).pending with
    | none => exact reportLapse_idle (hlane ▸ hpend)
    | some p =>
      obtain ⟨r, hr⟩ := hp l p hpend
      have hr' : u.record p.slot = some r := by rw [hframe]; exact hr
      obtain ⟨v, hlapse, hthen⟩ := reportLapse_ends (hlane ▸ hpend) hr' hu
      exact ⟨r, v, hr, hlapse, hlane ▸ hthen⟩

/-- The states of LOCKDOWN's pass over the lanes, before the first and after each. -/
def lockingDown (s : State) (i : Fin 5) : State := (allLanes.take i.val).foldl (fun acc l => lockDownLane l acc) s

theorem take_allLanes_succ : ∀ l : Lane, allLanes.take (l.val + 1) = allLanes.take l.val ++ [l] := by decide

theorem lockingDown_succ (s : State) (l : Lane) : lockingDown s l.succ = lockDownLane l (lockingDown s l.castSucc) := by
  unfold lockingDown
  rw [Fin.val_succ, take_allLanes_succ, List.foldl_append]
  rfl

theorem lockingDown_last (s : State) : lockingDown s 4 = allLanes.foldl (fun acc l => lockDownLane l acc) s := rfl

theorem lockingDown_wentDown {s : State} (h : s.gate.lockdown = true) (hL : ∀ l, LaneLaw (s.lane l)) (i : Fin 5) :
    WentDown s (allLanes.take i.val) (lockingDown s i) :=
  WentDown.foldl (allLanes_nodup.sublist (List.take_sublist ..)) h fun l _ => hL l

theorem lockingDown_checkedBooks {s : State} (h : s.gate.lockdown = true) (hL : ∀ l, LaneLaw (s.lane l)) (hb : CheckedBooks s) (n : Nat)
    (hn : n < 5) : CheckedBooks (lockingDown s ⟨n, hn⟩) := by
  induction n with
  | zero => exact hb
  | succ n ih =>
    have hlock := (lockingDown_wentDown h hL ⟨n, by omega⟩).lockdown.trans h
    have hstep := lockingDown_succ s ⟨n, by omega⟩
    rw [show (⟨n + 1, hn⟩ : Fin 5) = Fin.succ ⟨n, by omega⟩ from rfl, hstep]
    exact (ih (by omega)).lockDownLane hlock _

/-! ## CLEAR LOCKDOWN (R129) -/

/-- The door of a lane as lockdown ends. -/
def doorUnlocked (s : State) (l : Lane) : Door :=
  if (s.door l).status = .lockdown then
    if (s.door l).mode = .free then { s.door l with status := .free, release := 0, heldCount := 0 }
    else (s.door l).shut (s.lane l).config
  else s.door l

theorem leaveLockdown_eq {s t : State} (l : Lane) (h : sameButDoors s t) (hd : t.door l = s.door l) :
    leaveLockdown l t = t.setDoor l (doorUnlocked s l) := by
  have hl : t.lane l = s.lane l := by rw [h]; rfl
  unfold leaveLockdown doorUnlocked lockDoor
  rw [hd, hl]
  by_cases hs : (s.door l).status = .lockdown
  · rw [if_pos hs, if_pos hs]
    by_cases hm : (s.door l).mode = .free
    · rw [if_pos hm, if_pos hm]
      rfl
    · rw [if_neg hm, if_neg hm]
      rfl
  · rw [if_neg hs, if_neg hs, ← hd, State.setDoor_door]

theorem cmdClearLockdown_eq {s : State} (h : s.gate.lockdown = true) (origin : Port) :
    cmdClearLockdown origin s =
      (allLanes.foldl (fun acc l => leaveLockdown l acc)
        (appendEntry (gateEntry .lockdownOff none s.time.clock (originOf origin)) { s with gate := { s.gate with lockdown := false } }),
        .done [0]) := by
  unfold cmdClearLockdown
  rw [if_neg (by simp [h]), commandBody_eq]
  rfl

/-- The state once LOCKDOWN is journalled, before its pass over the lanes (R128 steps 1 and 2). -/
def lockdownBegun (origin : Port) (s : State) : State :=
  appendEntry (gateEntry .lockdownOn none s.time.clock (originOf origin)) { s with gate := { s.gate with lockdown := true } }

theorem lockdownBegun_samePresence (origin : Port) (s : State) :
    SamePresence { s with gate := { s.gate with lockdown := true } } (lockdownBegun origin s) := .appendEntry ..

theorem lockdownBegun_gate (origin : Port) (s : State) : (lockdownBegun origin s).gate = { s.gate with lockdown := true } :=
  (lockdownBegun_samePresence origin s).gate

theorem lockdownBegun_door (origin : Port) (s : State) (l : Lane) : (lockdownBegun origin s).door l = s.door l := door_appendEntry ..

theorem lockdownBegun_lane (origin : Port) (s : State) (l : Lane) : (lockdownBegun origin s).lane l = s.lane l := lane_appendEntry ..

theorem lockdownBegun_lockdown (origin : Port) (s : State) : (lockdownBegun origin s).gate.lockdown = true := by
  rw [lockdownBegun_gate]

theorem lockdownBegun_checkedBooks {s : State} (hb : CheckedBooks s) (origin : Port) : CheckedBooks (lockdownBegun origin s) :=
  (hb.of_same (t := { s with gate := { s.gate with lockdown := true } }) rfl rfl).appendEntry _

theorem cmdLockdown_eq {s : State} (h : s.gate.lockdown = false) (origin : Port) :
    cmdLockdown origin s = (lockingDown (lockdownBegun origin s) 4, .done [0]) := by
  unfold cmdLockdown
  rw [if_neg (by simp [h]), commandBody_eq]
  rfl

theorem lockedDown_wentDown {s : State} (hL : ∀ l, LaneLaw (s.lane l)) (origin : Port) :
    WentDown (lockdownBegun origin s) allLanes (lockingDown (lockdownBegun origin s) 4) :=
  WentDown.foldl allLanes_nodup (lockdownBegun_lockdown origin s) fun l _ => lockdownBegun_lane origin s l ▸ hL l

/-- All that LOCKDOWN changes. -/
theorem lockedDown_frame {s : State} (hL : ∀ l, LaneLaw (s.lane l)) (origin : Port) :
    lockingDown (lockdownBegun origin s) 4 =
      { s with
        lanes := (lockingDown (lockdownBegun origin s) 4).lanes
        gate := { s.gate with lockdown := true, doors := (lockingDown (lockdownBegun origin s) 4).gate.doors }
        roster := { s.roster with records := (lockingDown (lockdownBegun origin s) 4).roster.records }
        bells := { s.bells with zones := (lockingDown (lockdownBegun origin s) 4).bells.zones }
        journal := (lockingDown (lockdownBegun origin s) 4).journal
        control :=
          { s.control with
            bus := (lockingDown (lockdownBegun origin s) 4).control.bus
            link := (lockingDown (lockdownBegun origin s) 4).control.link } } := by
  have ht := (lockedDown_wentDown hL origin).frame
  have hb := (lockdownBegun_samePresence origin s).frame
  generalize lockingDown (lockdownBegun origin s) 4 = t at *
  generalize lockdownBegun origin s = v at *
  conv_lhs => rw [ht, hb]

theorem appendEntry_setGate (b : EntryBody) (s : State) (g : Gate) : appendEntry b (s.setGate g) = (appendEntry b s).setGate g := by
  rw [appendEntry_of_same s (s.setGate g) rfl rfl rfl]
  ext1 <;> simp

/-- Settles O35: LOCKDOWN as a pass over the lanes, whose every step is a lane's own, and CLEAR LOCKDOWN door by door. -/
theorem lockdownAndItsClearing : Obligations.LockdownAndItsClearing := by
  unfold Obligations.LockdownAndItsClearing
  intro s origin ho hL
  refine ⟨fun h => next_of_cmd ho (if_pos h), fun h => ?_, fun h hR hP => ?_, fun h => next_of_cmd ho (if_pos (by simp [h])), fun h => ?_⟩
  · have hexec : exec (.lockdown origin) s = _ := next_of_cmd ho (cmdLockdown_eq h origin)
    have hdown := lockedDown_wentDown hL origin
    have hframe := lockedDown_frame hL origin
    have hdoor := lockdownBegun_door origin s
    have hlane := lockdownBegun_lane origin s
    have hrec (a : Slot) : (lockdownBegun origin s).record a = s.record a := record_appendEntry ..
    generalize lockingDown (lockdownBegun origin s) 4 = t at *
    have hgate : t.gate = { s.gate with lockdown := true, doors := t.gate.doors } := by conv_lhs => rw [hframe]
    refine ⟨_, hexec, hgate, fun l hf => ⟨?_, ?_⟩, fun l hf => ⟨?_, ?_⟩, fun a => ⟨?_, ?_⟩, ?_, rfl, ?_⟩
    · exact (hdown.doors l).trans (by rw [hdoor, if_neg (by simp [hf])])
    · exact (hdown.others l (by simp [hdoor, hf])).trans (hlane l)
    · exact (hdown.doors l).trans (by rw [hdoor, if_pos ⟨mem_allLanes l, hf⟩])
    · have h := hdown.down l (mem_allLanes l) (by rw [hdoor]; exact hf)
      rw [redOnly, hlane] at h
      show (t.lane l).pending = none ∧ (t.lane l).waiting = none ∧ (t.lane l).bits = _ ∧ (t.lane l).config = _
      rw [h]
      exact ⟨rfl, rfl, rfl, rfl⟩
    · exact (hdown.presence a).trans (congrArg _ (hrec a))
    · exact (hdown.current a).trans (congrArg _ (hrec a))
    · show t.attendance = _
      rw [hframe]
    · refine (congrArg (State.answering · (.done [0])) hframe).trans ?_
      rw [← hgate]
      rfl
  · have hL' (l : Lane) : LaneLaw ((lockdownBegun origin s).lane l) := lockdownBegun_lane origin s l ▸ hL l
    have hlock := lockdownBegun_lockdown origin s
    have hb := lockdownBegun_checkedBooks ⟨hR, hP.single⟩ origin
    have hp : PassagesHaveRecords (lockdownBegun origin s) := fun l p hpend => by
      rw [lockdownBegun_lane] at hpend
      obtain ⟨r, hr, -⟩ := hP.pending l p hpend
      exact ⟨r, (record_appendEntry ..).trans hr⟩
    refine ⟨lockingDown (lockdownBegun origin s), rfl, fun l => ?_, next_of_cmd ho (cmdLockdown_eq h origin)⟩
    rw [lockingDown_succ]
    exact lockDownLane_goesDown (lockingDown_checkedBooks hlock hL' hb l.val (by omega))
      ((lockingDown_wentDown hlock hL' l.castSucc).passagesHaveRecords hp) l
  · have hexec : exec (.clearLockdown origin) s = _ := next_of_cmd ho (cmdClearLockdown_eq h origin)
    have hbegun : appendEntry (gateEntry .lockdownOff none s.time.clock (originOf origin)) { s with gate := { s.gate with lockdown := false } } =
        { appendEntry (gateEntry .lockdownOff none s.time.clock (originOf origin)) s with gate := { s.gate with lockdown := false } } :=
      appendEntry_setGate _ s { s.gate with lockdown := false }
    rw [hbegun] at hexec
    obtain ⟨hf, hd⟩ := foldl_allLanes_setDoor (f := leaveLockdown) (doorUnlocked
      { appendEntry (gateEntry .lockdownOff none s.time.clock (originOf origin)) s with gate := { s.gate with lockdown := false } })
      fun l t h hd => leaveLockdown_eq l h hd
    generalize allLanes.foldl (fun acc l => leaveLockdown l acc) _ = t at *
    have hdoor (l : Lane) : t.door l = doorUnlocked s l := by
      rw [hd]
      unfold doorUnlocked
      rw [show State.lane { appendEntry (gateEntry .lockdownOff none s.time.clock (originOf origin)) s with
        gate := { s.gate with lockdown := false } } l = s.lane l from lane_appendEntry ..]
      rfl
    have hgate : t.gate = { s.gate with lockdown := false, doors := t.gate.doors } := by conv_lhs => rw [show t = _ from hf]
    refine ⟨_, hexec, hgate, fun l => ⟨fun hs hm => ?_, fun hs hm => ?_, fun hs => ?_⟩, ?_⟩
    · exact (hdoor l).trans ((if_pos hs).trans (if_pos hm))
    · exact (hdoor l).trans ((if_pos hs).trans (if_neg (by simp [hm])))
    · exact (hdoor l).trans (if_neg hs)
    · refine (congrArg (State.answering · (.done [0])) hf).trans (congrArg (State.answering · (.done [0])) ?_)
      exact congrArg (appendEntry (gateEntry .lockdownOff none s.time.clock (originOf origin)) s).setGate hgate.symm

end Sys2Proof.Machine
end

section
/-! PROOFS. The tick (sections 1.1, 3.2, 7.2 and 8.4; log 3). -/

namespace Sys2Proof.Machine

/-! ## Before the lanes (R53, R144) -/

/-- The state once the red lamps and the zone players are ticked. -/
def lampsTicked (s : State) : State := tickLamps (tickZones s)

theorem lampsTicked_lane (s : State) (l : Lane) : (lampsTicked s).lane l = { s.lane l with red := (s.lane l).red - 1 } := vget_map ..

theorem lampsTicked_zones (s : State) (z : Zone) :
    vget (lampsTicked s).bells.zones z = (vget s.bells.zones z).bind Playing.tick := vget_map ..

theorem lampsTicked_frame (s : State) : lampsTicked s =
    { s with lanes := (lampsTicked s).lanes, bells := { s.bells with zones := (lampsTicked s).bells.zones } } := rfl

theorem lampsTicked_beforeLanes (s : State) : beforeLanes s (lampsTicked s) :=
  ⟨lampsTicked_lane s, lampsTicked_zones s, lampsTicked_frame s⟩

theorem lampsTicked_lanesLaw {s : State} (h : LanesLaw s) : LanesLaw (lampsTicked s) := fun l => by
  rw [lampsTicked_lane]
  exact h l

theorem step_ticks {s : State} (hp : s.pending = []) (hr : running s = true) :
    step s = .next (allLanes.foldl tickLane (lampsTicked s)) := by
  rw [step, hp]
  exact congrArg Host.Outcome.next (if_pos hr)

/-! ## The countdowns of one lane (R47, R121, R122) -/

theorem tickRelease_expires {s : State} {l : Lane} (h : (s.door l).status = .released ∧ (s.door l).release = 1) :
    exec (.releaseExpiry l) s = .next (tickRelease l s) := by
  obtain ⟨-, hrel⟩ := h
  rw [tickRelease, if_neg (by omega)]
  rfl

theorem tickRelease_lowers {s : State} {l : Lane} (h : ¬ ((s.door l).status = .released ∧ (s.door l).release = 1)) :
    tickRelease l s = s.setDoor l
      { s.door l with release := if (s.door l).status = .released then (s.door l).release - 1 else (s.door l).release } := by
  by_cases hd : (s.door l).status = .released
  · rw [if_pos hd]
    by_cases hrel : 1 < (s.door l).release
    · exact if_pos ⟨hd, hrel⟩
    · have hzero : (s.door l).release = 0 := by
        have : (s.door l).release ≠ 1 := fun h1 => h ⟨hd, h1⟩
        omega
      rw [tickRelease, if_neg fun hc => hrel hc.2, releaseExpiry, if_neg (by simp [hzero]), show (s.door l).release - 1 = (s.door l).release by omega]
      exact (s.setDoor_door l).symm
  · rw [if_neg hd, tickRelease, if_neg fun hc => hd hc.1, releaseExpiry, if_neg (by simp [hd])]
    exact (s.setDoor_door l).symm

theorem tickHeld_expires {s : State} {l : Lane} (h : (s.door l).status = .passing ∧ (s.door l).heldCount = 1) :
    exec (.heldCountdownExpiry l) s = .next (tickHeld l s) := by
  obtain ⟨-, hheld⟩ := h
  rw [tickHeld, if_neg (by omega)]
  rfl

theorem tickHeld_lowers {s : State} {l : Lane} (h : ¬ ((s.door l).status = .passing ∧ (s.door l).heldCount = 1)) :
    tickHeld l s = s.setDoor l
      { s.door l with heldCount := if (s.door l).status = .passing then (s.door l).heldCount - 1 else (s.door l).heldCount } := by
  by_cases hd : (s.door l).status = .passing
  · rw [if_pos hd]
    by_cases hheld : 1 < (s.door l).heldCount
    · exact if_pos ⟨hd, hheld⟩
    · have hzero : (s.door l).heldCount = 0 := by
        have : (s.door l).heldCount ≠ 1 := fun h1 => h ⟨hd, h1⟩
        omega
      rw [tickHeld, if_neg fun hc => hheld hc.2, heldExpiry, if_neg (by simp [hzero]), show (s.door l).heldCount - 1 = (s.door l).heldCount by omega]
      exact (s.setDoor_door l).symm
  · rw [if_neg hd, tickHeld, if_neg fun hc => hd hc.1, heldExpiry, if_neg (by simp [hd])]
    exact (s.setDoor_door l).symm

theorem tickGap_expires {s : State} {l : Lane} (h : (s.lane l).gap = 1) : exec (.frameArrival l .gap) s = .next (tickGap l s) := by
  rw [tickGap, if_neg (by omega)]
  rfl

theorem State.setLane_lane (s : State) (l : Lane) : s.setLane l (s.lane l) = s := congrArg s.setLanes (vset_vget_self s.lanes l)

theorem tickGap_lowers {s : State} {l : Lane} (hL : LaneLaw (s.lane l)) (h : (s.lane l).gap ≠ 1) :
    tickGap l s = s.setLane l { s.lane l with gap := (s.lane l).gap - 1 } := by
  by_cases hgap : 1 < (s.lane l).gap
  · exact if_pos hgap
  · have hzero : (s.lane l).gap = 0 := by omega
    have hbits : (s.lane l).bits = [] := by
      obtain ⟨-, -, hrun, -⟩ := hL
      exact not_not.mp fun hb => by have := hrun.mpr hb; omega
    rw [tickGap, if_neg hgap, gapExpiry, if_neg (by simp [hbits]), show (s.lane l).gap - 1 = (s.lane l).gap by omega]
    exact (s.setLane_lane l).symm

theorem tickLane_laneTick {s : State} (h : LanesLaw s) (l : Lane) : laneTick l s (tickLane s l) := by
  have hheld : LanesLaw (tickHeld l (tickRelease l s)) := lanesLaw_punchLaw.tickHeld l (lanesLaw_punchLaw.tickRelease l h)
  refine ⟨tickRelease l s, tickHeld l (tickRelease l s), ?_, ?_, ?_⟩
  · split
    · next hc => exact tickRelease_expires hc
    · next hc => exact tickRelease_lowers hc
  · split
    · next hc => exact tickHeld_expires hc
    · next hc => exact tickHeld_lowers hc
  · split
    · next hc => exact tickGap_expires hc
    · next hc => exact tickGap_lowers (hheld l) hc

/-! ## The lanes in their order -/

/-- The states of a tick's pass over the lanes, before the first and after each. -/
def ticking (s : State) (i : Fin 5) : State := (allLanes.take i.val).foldl tickLane s

theorem ticking_succ (s : State) (l : Lane) : ticking s l.succ = tickLane (ticking s l.castSucc) l := by
  unfold ticking
  rw [Fin.val_succ, take_allLanes_succ, List.foldl_append]
  rfl

theorem LanesLaw.tickLanes {s : State} (h : LanesLaw s) (ls : List Lane) : LanesLaw (ls.foldl tickLane s) := by
  induction ls generalizing s with
  | nil => exact h
  | cons l ls ih => exact ih (lanesLaw_punchLaw.tickGap l (lanesLaw_punchLaw.tickHeld l (lanesLaw_punchLaw.tickRelease l h)))

/-! ## A tick without expiry -/

/-- The door of a lane a tick later. -/
def Door.ticked (d : Door) : Door :=
  { d with
    release := if d.status = .released then d.release - 1 else d.release
    heldCount := if d.status = .passing then d.heldCount - 1 else d.heldCount }

/-- What a pass over some lanes lowers. -/
structure Ticked (s : State) (ls : List Lane) (t : State) : Prop where
  lanes : ∀ m, t.lane m = if m ∈ ls then { s.lane m with gap := (s.lane m).gap - 1 } else s.lane m
  doors : ∀ m, t.door m = if m ∈ ls then (s.door m).ticked else s.door m
  frame : t = { s with lanes := t.lanes, gate := { s.gate with doors := t.gate.doors } }

theorem Ticked.one {s : State} {l : Lane} (hL : LaneLaw (s.lane l)) (h : noExpiry s l) : Ticked s [l] (tickLane s l) := by
  obtain ⟨hgap, hrel, hheld⟩ := h
  have heq : tickLane s l = (s.setDoor l (s.door l).ticked).setLane l { s.lane l with gap := (s.lane l).gap - 1 } := by
    unfold tickLane
    rw [tickRelease_lowers fun hc => hrel hc.2, tickHeld_lowers (by simp [hheld]), tickGap_lowers (by simpa using hL) (by simpa using hgap)]
    simp only [door_setDoor, if_true, State.setDoor_setDoor, lane_setDoor]
    rfl
  rw [heq]
  refine ⟨fun m => ?_, fun m => ?_, rfl⟩
  · rw [lane_setLane, lane_setDoor]
    by_cases hm : m = l
    · subst hm; simp
    · simp [hm]
  · show (s.setDoor l _).door m = _
    rw [door_setDoor]
    by_cases hm : m = l
    · subst hm; simp
    · simp [hm]

theorem Ticked.cons {s t u : State} {l : Lane} {ls : List Lane} (hl : l ∉ ls) (h : Ticked s [l] t) (h' : Ticked t ls u) :
    Ticked s (l :: ls) u := by
  refine ⟨fun m => ?_, fun m => ?_, ?_⟩
  · rw [h'.lanes, h.lanes]
    by_cases hm : m = l
    · subst hm; simp [hl]
    · simp [hm]
  · rw [h'.doors, h.doors]
    by_cases hm : m = l
    · subst hm; simp [hl]
    · simp [hm]
  · conv_lhs => rw [h'.frame, h.frame]

theorem Ticked.foldl {ls : List Lane} (hn : ls.Nodup) {s : State} (h : ∀ l ∈ ls, LaneLaw (s.lane l) ∧ noExpiry s l) :
    Ticked s ls (ls.foldl tickLane s) := by
  induction ls generalizing s with
  | nil => exact ⟨fun m => by simp, fun m => by simp, rfl⟩
  | cons l ls ih =>
    obtain ⟨hl, hn⟩ := List.nodup_cons.mp hn
    obtain ⟨hL, hno⟩ := h l (by simp)
    have hone := Ticked.one hL hno
    refine hone.cons hl (ih hn fun m hm => ?_)
    have hne : m ∉ [l] := fun he => hl (List.mem_singleton.mp he ▸ hm)
    rw [noExpiry, hone.lanes, hone.doors, if_neg hne, if_neg hne]
    exact h m (List.mem_cons_of_mem _ hm)

/-- Settles O2: the lamps and the zones, then each lane's countdowns. -/
theorem tickLowersCountdowns : Obligations.TickLowersCountdowns := by
  unfold Obligations.TickLowersCountdowns
  refine ⟨fun s hp hr hL => ?_, fun s hp hr h => ?_⟩
  · refine ⟨ticking (lampsTicked s), lampsTicked_beforeLanes s, fun l => ?_, step_ticks hp hr⟩
    rw [ticking_succ]
    exact tickLane_laneTick ((lampsTicked_lanesLaw hL).tickLanes _) l
  · have hT := Ticked.foldl allLanes_nodup (s := lampsTicked s) fun l _ =>
      ⟨lampsTicked_lanesLaw (fun m => (h m).2) l, by
        rw [noExpiry, lampsTicked_lane]
        exact (h l).1⟩
    refine ⟨_, step_ticks hp hr, fun l => ?_, fun l => ?_, fun z => ?_, ?_⟩
    · rw [hT.lanes, if_pos (mem_allLanes l), lampsTicked_lane]
    · rw [hT.doors, if_pos (mem_allLanes l)]
      rfl
    · rw [hT.frame]
      exact lampsTicked_zones s z
    · conv_lhs => rw [hT.frame]
      rw [show (allLanes.foldl tickLane (lampsTicked s)).bells = (lampsTicked s).bells by rw [hT.frame]]
      rfl

end Sys2Proof.Machine
end

section
/-! PROOFS. The bell tables and the zone commands (sections 8.2, 8.4 and 8.5). -/

namespace Sys2Proof.Machine

/-! ## The bell schedule (R137, R138) -/

theorem badBellEntry_some {index flags moment offset dayMask zones pattern : Word} {n : Nat}
    (h : firstOut
      [index.toNat ≤ 63, (flags.toNat / 2) % 4 ≤ 2, moment.toNat ≤ (if (flags.toNat / 2) % 4 = 0 then 1439 else 15),
        (flags.toNat / 2) % 4 ≠ 0 → -120 ≤ offset.toInt ∧ offset.toInt ≤ 120,
        (flags.toNat / 2) % 4 = 0 → dayMask.toNat ≤ 127, zones.toNat ≤ 255, pattern.toNat ≤ 6] n) :
    badBellEntry index flags moment offset dayMask zones pattern = some n := by
  refine firstBad_of_firstOut ?_ h
  by_cases hc : (flags.toNat / 2) % 4 = 0
  · simp [hc]
  · have htrigger : (flags.toNat / 2) % 4 ≤ 2 ↔ ¬ (flags.toNat / 2) % 4 = 3 := by omega
    simp [hc, htrigger]

theorem badBellEntry_none {i : BellIndex} {flags moment offset dayMask zones pattern : Word}
    (htrigger : (flags.toNat / 2) % 4 ≤ 2) (hzones : zones.toNat ≤ 255) (hpattern : pattern.toNat ≤ 6)
    (hclock : (flags.toNat / 2) % 4 = 0 → moment.toNat ≤ 1439 ∧ dayMask.toNat ≤ 127)
    (hshift : (flags.toNat / 2) % 4 ≠ 0 → moment.toNat ≤ 15 ∧ -120 ≤ offset.toInt ∧ offset.toInt ≤ 120) :
    badBellEntry (word i.val) flags moment offset dayMask zones pattern = none := by
  have hindex : (word i.val).toNat = i.val := word_toNat (by omega)
  refine firstBad_none.mpr ?_
  by_cases hc : (flags.toNat / 2) % 4 = 0
  · simp [hc, hindex]
    have := hclock hc
    omega
  · have htrigger' : ¬ (flags.toNat / 2) % 4 = 3 := by omega
    simp [hc, htrigger', hindex]
    have := hshift hc
    omega

theorem cmdWriteBellEntry_eq {index flags moment offset dayMask zones pattern : Word}
    (h : badBellEntry index flags moment offset dayMask zones pattern = none) (s : State) :
    cmdWriteBellEntry index flags moment offset dayMask zones pattern s =
      ({ s with bells :=
          { s.bells with
            schedule := vset s.bells.schedule (finOf 64 index) (bellEntryOf flags moment offset dayMask zones pattern) } },
        .done [index]) := by
  simp only [cmdWriteBellEntry, h]
  rfl

theorem finOf_val {n : Nat} [NeZero n] {w : Word} (h : w.toNat < n) : (finOf n w).val = w.toNat := Nat.mod_eq_of_lt h

theorem cmdReadBellEntry_eq (i : BellIndex) (s : State) :
    cmdReadBellEntry (word i.val) s = (s, .done (bellEntryWords (word i.val) (vget s.bells.schedule i))) := by
  have hindex : (word i.val).toNat = i.val := word_toNat (by omega)
  have hrange : firstBad [decide (63 < (word i.val).toNat)] = none := firstBad_none.mpr (by simp [hindex]; omega)
  simp only [cmdReadBellEntry, hrange, finOf_word i (by decide)]

/-! ## The patterns (R143) -/

theorem patternNumber_word (n : PatternNumber) : word n.val = 7 ↔ n = 7 := by revert n; decide

theorem badPattern_some {number on period strokes gap groups last : Word} {n : Nat}
    (h : firstOut
      [number.toNat ≤ 7, 1 ≤ on.toNat ∧ on.toNat ≤ 255, period.toNat ≤ 255 ∧ (number = 7 → period ≠ 0),
        1 ≤ strokes.toNat ∧ strokes.toNat ≤ 15, gap.toNat ≤ 255, groups.toNat ≤ 255,
        last.toNat ≤ (if number = 7 then 255 else 3)] n) :
    badPattern number on period strokes gap groups last = some n := by
  refine firstBad_of_firstOut ?_ h
  have hpos (w : Word) : 1 ≤ w.toNat ↔ ¬ w = 0 := by
    rw [← BitVec.toNat_inj]
    simp
    omega
  simp [hpos]
  split <;> rfl

theorem cmdWritePattern_eq {n : PatternNumber} {on period strokes gap groups last : Word} (hon : 1 ≤ on.toNat) (hon' : on.toNat ≤ 255)
    (hperiod : period.toNat ≤ 255) (hnight : n = 7 → period ≠ 0) (hstrokes : 1 ≤ strokes.toNat) (hstrokes' : strokes.toNat ≤ 15)
    (hgap : gap.toNat ≤ 255) (hgroups : groups.toNat ≤ 255) (hlast : last.toNat ≤ (if n = 7 then 255 else 3)) (s : State) :
    cmdWritePattern (word n.val) on period strokes gap groups last s =
      ({ s with
          bells :=
            { s.bells with
              patterns := vset s.bells.patterns n
                ⟨on.toNat, period.toNat, strokes.toNat, gap.toNat, groups.toNat, if n = 7 then 4 else last.toNat⟩
              emergencyMask := if n = 7 then last.setWidth 8 else s.bells.emergencyMask } },
        .done [word n.val]) := by
  have hnumber : (word n.val).toNat = n.val := word_toNat (by omega)
  have hnonzero {w : Word} (h : 1 ≤ w.toNat) : ¬ w = 0 := by rintro rfl; simp at h
  have hrange : badPattern (word n.val) on period strokes gap groups last = none := by
    unfold badPattern
    rw [firstBad_none]
    simp only [patternNumber_word, hnumber]
    by_cases hn : n = 7
    · rw [if_pos hn] at hlast
      simp [hn, hon', hperiod, hstrokes', hgap, hgroups, hlast]
      exact ⟨hnonzero hon, hnight hn, hnonzero hstrokes⟩
    · rw [if_neg hn] at hlast
      simp [hn, hon', hperiod, hstrokes', hgap, hgroups, hlast]
      exact ⟨by omega, hnonzero hon, hnonzero hstrokes⟩
  simp only [cmdWritePattern, hrange, finOf_word n (by decide), patternNumber_word]
  rfl

theorem cmdReadPattern_eq (n : PatternNumber) (s : State) :
    cmdReadPattern (word n.val) s = (s, .done (patternWords (word n.val) (vget s.bells.patterns n) s.bells.emergencyMask)) := by
  have hnumber : (word n.val).toNat = n.val := word_toNat (by omega)
  have hrange : firstBad [decide (7 < (word n.val).toNat)] = none := firstBad_none.mpr (by simp [hnumber]; omega)
  simp only [cmdReadPattern, hrange, finOf_word n (by decide)]

/-- WRITE BELL ENTRY with its words in range (R138). -/
theorem writeBellEntry_writes {s : State} (ho : engineOpen s = true) (i : BellIndex) (flags moment offset dayMask zones pattern : Word)
    (htrigger : (flags.toNat / 2) % 4 ≤ 2) (hzones : zones.toNat ≤ 255) (hpattern : pattern.toNat ≤ 6)
    (hclock : (flags.toNat / 2) % 4 = 0 → moment.toNat ≤ 1439 ∧ dayMask.toNat ≤ 127)
    (hshift : (flags.toNat / 2) % 4 ≠ 0 → moment.toNat ≤ 15 ∧ -120 ≤ offset.toInt ∧ offset.toInt ≤ 120) :
    ∃ t, exec (.writeBellEntry (word i.val) flags moment offset dayMask zones pattern) s = .next t ∧
      (∀ j, j ≠ i → vget t.bells.schedule j = vget s.bells.schedule j) ∧
      (vget t.bells.schedule i).enabled = flags.getLsbD 0 ∧
      (vget t.bells.schedule i).trigger =
        (if (flags.toNat / 2) % 4 = 0 then .clock else if (flags.toNat / 2) % 4 = 1 then .shiftStart else .shiftEnd) ∧
      (vget t.bells.schedule i).holidayRule = (if flags.getLsbD 3 then .ring else .skip) ∧
      (vget t.bells.schedule i).zones.toNat = zones.toNat ∧
      (vget t.bells.schedule i).pattern.val = pattern.toNat ∧
      ((flags.toNat / 2) % 4 = 0 →
        (vget t.bells.schedule i).minute = moment.toNat ∧ (vget t.bells.schedule i).dayMask.toNat = dayMask.toNat) ∧
      ((flags.toNat / 2) % 4 ≠ 0 →
        (vget t.bells.schedule i).shift.val = moment.toNat ∧ (vget t.bells.schedule i).offset = offset.toInt) ∧
      t = State.answering { s with bells := { s.bells with schedule := t.bells.schedule } } (.done [word i.val]) := by
  have hcmd := cmdWriteBellEntry_eq (badBellEntry_none (i := i) htrigger hzones hpattern hclock hshift) s
  rw [finOf_word i (by decide)] at hcmd
  have hself : vget (vset s.bells.schedule i (bellEntryOf flags moment offset dayMask zones pattern)) i =
      bellEntryOf flags moment offset dayMask zones pattern := vget_vset_self ..
  refine ⟨_, next_of_cmd ho hcmd, fun j hj => vget_vset_other _ _ _ _ hj, ?_⟩
  simp only [State.answering, hself]
  refine ⟨rfl, ?_, rfl, ?_, finOf_val (by omega), fun hc => ⟨?_, ?_⟩, fun hc => ⟨?_, ?_⟩, trivial⟩
  · show triggerOf _ = _
    have hcases : (flags.toNat / 2) % 4 = 0 ∨ (flags.toNat / 2) % 4 = 1 ∨ (flags.toNat / 2) % 4 = 2 := by omega
    rcases hcases with h | h | h <;> rw [h] <;> rfl
  · show (BitVec.ofNat 8 zones.toNat).toNat = _
    rw [BitVec.toNat_ofNat]
    omega
  · simp only [bellEntryOf, hc, decide_true, if_true]
  · simp only [bellEntryOf, hc, decide_true, if_true]
    rw [BitVec.toNat_ofNat]
    have := hclock hc
    omega
  · simp only [bellEntryOf, hc, decide_false, Bool.false_eq_true, if_false]
    have := hshift hc
    exact finOf_val (by omega)
  · simp only [bellEntryOf, hc, decide_false, Bool.false_eq_true, if_false]

/-- Settles O46: the entry or pattern replaced, the one read, and the operands out of range. -/
theorem bellTableCommands : Obligations.BellTableCommands := by
  unfold Obligations.BellTableCommands
  intro s ho
  refine ⟨fun index flags moment offset dayMask zones pattern => ⟨fun n hn => ?_, fun h => ?_⟩,
    fun number on period strokes gap groups last => ⟨fun n hn => ?_, fun h => ?_⟩, writeBellEntry_writes ho,
    fun i => ⟨_, rfl, next_of_cmd ho (cmdReadBellEntry_eq i s)⟩,
    fun n on period strokes gap groups last hon hon' hp hp7 hs hs' hg hgr hlast =>
      ⟨_, rfl, next_of_cmd ho (cmdWritePattern_eq hon hon' hp hp7 hs hs' hg hgr hlast s)⟩, fun n => ⟨_, rfl, ?_⟩⟩
  · have hbad := badBellEntry_some hn
    exact next_of_cmd ho (by simp only [cmdWriteBellEntry, hbad])
  · exact next_of_cmd ho (by simp only [cmdReadBellEntry, firstBad_single_some (decide_eq_true h)])
  · have hbad := badPattern_some hn
    exact next_of_cmd ho (by simp only [cmdWritePattern, hbad])
  · exact next_of_cmd ho (by simp only [cmdReadPattern, firstBad_single_some (decide_eq_true h)])
  · have hcmd := cmdReadPattern_eq n s
    rw [patternWords, if_congr (patternNumber_word n) rfl rfl] at hcmd
    exact next_of_cmd ho hcmd

/-! ## Zone sets (R184) -/

theorem getLsbD_zoneSet {zs : List Zone} (h : zs.Pairwise (· < ·)) (i : Nat) :
    (word (zoneSet zs)).getLsbD i = true ↔ ∃ z ∈ zs, z.val = i := by
  have hsorted : (zs.map Fin.val).SortedLT := by
    rw [List.sortedLT_iff_pairwise, List.pairwise_map]
    exact h
  have hsum : zoneSet zs = ((zs.map Fin.val).map (2 ^ ·)).sum := by
    rw [zoneSet, List.map_map]
    rfl
  have hbit : (zoneSet zs).testBit i = true ↔ ∃ z ∈ zs, z.val = i := by
    rw [← Nat.mem_bitIndices, hsum, Nat.bitIndices_sum_map_two_pow hsorted, List.mem_map]
  rw [word, BitVec.getLsbD_ofNat, Bool.and_eq_true, hbit, decide_eq_true_eq]
  exact ⟨And.right, fun hz => ⟨by obtain ⟨z, -, rfl⟩ := hz; omega, hz⟩⟩

theorem zonesOf_pairwise (mask : BitVec 8) : (zonesOf mask).Pairwise (· < ·) := (List.pairwise_lt_finRange 8).filter _

theorem mem_zonesOf {mask : BitVec 8} {z : Zone} : z ∈ zonesOf mask ↔ mask.getLsbD z.val = true := by
  simp [zonesOf, allZones]

/-- The zones of a mask that meet a condition, as a zone set. -/
def zoneSetWhere (mask : BitVec 8) (p : Zone → Bool) : Word := word (zoneSet ((zonesOf mask).filter p))

theorem getLsbD_zoneSetWhere (mask : BitVec 8) (p : Zone → Bool) (z : Zone) :
    (zoneSetWhere mask p).getLsbD z.val = (mask.getLsbD z.val && p z) := by
  rw [Bool.eq_iff_iff, zoneSetWhere, getLsbD_zoneSet ((zonesOf_pairwise mask).filter p), Bool.and_eq_true]
  simp only [List.mem_filter, mem_zonesOf]
  exact ⟨fun ⟨y, hy, he⟩ => Fin.ext he ▸ hy, fun h => ⟨z, h, rfl⟩⟩

theorem getLsbD_zoneSetWhere_above (mask : BitVec 8) (p : Zone → Bool) {i : Nat} (h : 8 ≤ i) : (zoneSetWhere mask p).getLsbD i = false := by
  rw [← Bool.not_eq_true, zoneSetWhere, getLsbD_zoneSet ((zonesOf_pairwise mask).filter p)]
  rintro ⟨z, -, rfl⟩
  omega

/-- A zone set's word has no zone above 7. -/
theorem getLsbD_above {w : Word} (h : w.toNat ≤ 255) {i : Nat} (hi : 8 ≤ i) : w.getLsbD i = false := by
  have hpow : 2 ^ 8 ≤ 2 ^ i := Nat.pow_le_pow_right (by decide) hi
  exact Nat.testBit_lt_two_pow (by omega)

/-- The zones of a mask are those that meet a condition and those that do not. -/
theorem zoneSetWhere_split {w : Word} (h : w.toNat ≤ 255) (p : Zone → Bool) :
    zoneSetWhere (w.setWidth 8) p + zoneSetWhere (w.setWidth 8) (fun z => !p z) = w ∧
      zoneSetWhere (w.setWidth 8) p &&& zoneSetWhere (w.setWidth 8) (fun z => !p z) = 0 := by
  have hand : zoneSetWhere (w.setWidth 8) p &&& zoneSetWhere (w.setWidth 8) (fun z => !p z) = 0 := by
    refine BitVec.eq_of_getLsbD_eq fun i _ => ?_
    rw [BitVec.getLsbD_and]
    by_cases hi : i < 8
    · rw [getLsbD_zoneSetWhere _ _ ⟨i, hi⟩, getLsbD_zoneSetWhere _ _ ⟨i, hi⟩]
      cases p ⟨i, hi⟩ <;> simp
    · simp [getLsbD_zoneSetWhere_above _ _ (Nat.not_lt.mp hi)]
  refine ⟨?_, hand⟩
  rw [BitVec.add_eq_or_of_and_eq_zero _ _ hand]
  refine BitVec.eq_of_getLsbD_eq fun i _ => ?_
  rw [BitVec.getLsbD_or]
  by_cases hi : i < 8
  · rw [getLsbD_zoneSetWhere _ _ ⟨i, hi⟩, getLsbD_zoneSetWhere _ _ ⟨i, hi⟩]
    cases p ⟨i, hi⟩ <;> simp [hi]
  · simp [getLsbD_zoneSetWhere_above _ _ (Nat.not_lt.mp hi), getLsbD_above h (Nat.not_lt.mp hi)]

/-! ## RING ZONES, SILENCE ZONES and READ BELLS (R147, R148, R150) -/

theorem ofNat_toNat_setWidth (w : Word) : BitVec.ofNat 8 w.toNat = w.setWidth 8 := rfl

theorem cmdRingZones_eq {zones : Word} {n : PatternNumber} (hz : zones.toNat ≤ 255) (hn : n.val ≤ 6) (origin : Port) (s : State) :
    cmdRingZones origin zones (word n.val) s =
      ({ s with bells := s.bells.requestAll (zones.setWidth 8) n (.manual origin) },
        .done [zoneSetWhere (zones.setWidth 8) (fun z => s.bells.takes z n),
          zoneSetWhere (zones.setWidth 8) (fun z => !s.bells.takes z n)]) := by
  have hnumber : (word n.val).toNat = n.val := word_toNat (by omega)
  have hrange : firstBad [decide (255 < zones.toNat), decide (6 < (word n.val).toNat)] = none :=
    firstBad_none.mpr (by simp [hz, hnumber, hn])
  simp only [cmdRingZones, hrange, finOf_word n (by decide)]
  rfl

theorem cmdSilenceZones_locked {zones : Word} (hz : zones.toNat ≤ 255) {s : State} (he : s.gate.emergency = true)
    (hl : zones.setWidth 8 &&& s.bells.locked ≠ 0) : cmdSilenceZones zones s = (s, .refuse .emergencyActive) := by
  have hrange : firstBad [decide (255 < zones.toNat)] = none := firstBad_none.mpr (by simp [hz])
  simp only [cmdSilenceZones, hrange, ofNat_toNat_setWidth, he, decide_eq_true hl, Bool.and_true, if_true]

theorem cmdSilenceZones_silences {zones : Word} (hz : zones.toNat ≤ 255) {s : State}
    (h : s.gate.emergency = false ∨ zones.setWidth 8 &&& s.bells.locked = 0) :
    cmdSilenceZones zones s =
      ({ s with bells := s.bells.silenceWhere (fun z _ => (zones.setWidth 8).getLsbD z.val) },
        .done [zoneSetWhere (zones.setWidth 8) (fun z => (vget s.bells.zones z).isSome)]) := by
  have hrange : firstBad [decide (255 < zones.toNat)] = none := firstBad_none.mpr (by simp [hz])
  have hopen : ¬ (s.gate.emergency && decide (zones.setWidth 8 &&& s.bells.locked ≠ 0)) = true := by
    rcases h with h | h <;> simp [h]
  simp only [cmdSilenceZones, hrange, ofNat_toNat_setWidth, if_neg hopen]
  rfl

theorem zoneWords_idle {s : State} {z : Zone} (h : vget s.bells.zones z = none) :
    zoneWords s z = [word (128 * bit (s.bells.locked.getLsbD z.val)), 0, 0] := by
  simp only [zoneWords, h]

theorem zoneWords_playing {s : State} {z : Zone} {q : Playing} (h : q ∈ vget s.bells.zones z) :
    zoneWords s z =
      [word (1 + 2 * q.pattern.val + 16 * q.copy.priority + 128 * bit (s.bells.locked.getLsbD z.val) + 256 * bit q.output),
        sourceWord q.source, if q.copy.groups = 0 then 0 else word q.groupsLeft] := by
  simp only [zoneWords, Option.mem_def.mp h]

/-- Settles O47: zone by zone the requests taken and those discarded, the zones silenced, and the image. -/
theorem zoneCommands : Obligations.ZoneCommands := by
  unfold Obligations.ZoneCommands
  intro s ho
  refine ⟨fun origin zones pattern => ⟨fun n hn => ?_, fun h => ?_⟩, fun buf r hr => ?_, fun origin zones n hz hn => ?_,
    fun zones hz => ⟨fun he hl => next_of_cmd ho (cmdSilenceZones_locked hz he hl), fun h => ?_⟩,
    fun buf hf => ⟨fun z h => zoneWords_idle h, fun z q h => zoneWords_playing h, ?_⟩⟩
  · have hbad : firstBad [decide (255 < zones.toNat), decide (6 < pattern.toNat)] = some n := firstBad_of_firstOut (by simp) hn
    exact next_of_cmd ho (by simp only [cmdRingZones, hbad])
  · exact next_of_cmd ho (by simp only [cmdSilenceZones, firstBad_single_some (decide_eq_true h)])
  · exact next_of_cmd_no_words ho buf (by simp only [cmdReadBells, (checkBuffer_some ..).mpr hr]) rfl
  · obtain ⟨hsum, hand⟩ := zoneSetWhere_split hz (fun z => s.bells.takes z n)
    refine ⟨_, _, _, next_of_cmd ho (cmdRingZones_eq hz hn origin s), Bells.requestAll_spec .., fun z => ?_, hsum, hand, rfl⟩
    rw [getLsbD_zoneSetWhere, Bool.and_eq_true, Bells.takes_iff]
    simp
  · refine ⟨_, _, next_of_cmd ho (cmdSilenceZones_silences hz h), ?_, fun z => ?_, fun i hi => getLsbD_zoneSetWhere_above _ _ hi, rfl⟩
    · have hs := Bells.silenceWhere_spec s.bells (fun z _ => (zones.setWidth 8).getLsbD z.val)
      exact hs.congr (by simp)
    · rw [getLsbD_zoneSetWhere]
      simp
  · exact next_of_cmd_buffer ho buf (by simp only [cmdReadBells, (checkBuffer_none ..).mpr hf]; rfl)

end Sys2Proof.Machine
end

section
/-! PROOFS. The journal's commands: reading (R162, R163, R166). -/

namespace Sys2Proof.Machine

/-! ## Operands of the journal commands -/

theorem seqOfWords_eq (high low : Word) : seqOfWords high low = high ++ low := by
  apply BitVec.eq_of_toNat_eq
  have h1 := high.isLt
  have h2 := low.isLt
  rw [seqOfWords, ofTwoWords, BitVec.toNat_ofNat, BitVec.toNat_append, ← Nat.shiftLeft_add_eq_or_of_lt h2, Nat.shiftLeft_eq]
  omega

/-- The word that names a consumer. -/
def consumerWord (p : Port) : Word := if p = .bus then 0 else 1

@[simp] theorem portOf_consumerWord (p : Port) : portOf (consumerWord p) = p := by cases p <;> rfl

theorem consumerWord_in_range (p : Port) : decide (1 < (consumerWord p).toNat) = false := by cases p <;> rfl

/-! ## Whole entries that fit (R163) -/

theorem takeFitting_spec (es : List Entry) (room : Nat) :
    ∃ rest, es = takeFitting es room ++ rest ∧ wordsOf (takeFitting es room) ≤ room ∧
      ∀ e ∈ rest.head?, room < wordsOf (takeFitting es room) + e.length := by
  induction es generalizing room with
  | nil => exact ⟨[], rfl, Nat.zero_le _, by simp⟩
  | cons e es ih =>
    rw [takeFitting]
    split
    · obtain ⟨rest, hes, hle, hrest⟩ := ih (room - e.length)
      refine ⟨rest, by rw [List.cons_append, ← hes], by rw [wordsOf_cons]; omega, fun x hx => ?_⟩
      have := hrest x hx
      rw [wordsOf_cons]
      omega
    · refine ⟨e :: es, rfl, Nat.zero_le _, fun x hx => ?_⟩
      obtain rfl : e = x := by simpa using hx
      simp only [wordsOf_nil]
      omega

theorem following_eq (start : Seq) (copied : List Entry) :
    following start copied =
      match copied.getLast? with
      | some e => e.seq + BitVec.ofNat 32 e.covers
      | none => start := by
  unfold following
  cases copied.getLast? <;> rfl

/-- A number outside F … W lies further back from W than F (R156). -/
theorem back_lt_iff (w f q : Seq) : back w f < back w q ↔ (w - f).toNat < (q - f).toNat := by
  have h : w - q = w - f - (q - f) := by grind
  rw [back, back, h]
  generalize w - f = a
  generalize q - f = b
  bv_omega

/-! ## READ JOURNAL -/

theorem cmdReadJournal_bad {consumer mode high low : Word} {n : Nat} (h : firstOut [consumer.toNat ≤ 1, mode.toNat ≤ 1] n)
    (buf : Buffer) (s : State) : cmdReadJournal consumer mode high low buf s = (s, .badOperand n) := by
  rw [cmdReadJournal, firstBad_of_firstOut (by simp) h]

/-- Where a reading starts (R162). -/
def readStart (j : Journal) (p : Port) (mode high low : Word) : Seq := if mode = 0 then (j.consumer p).cursor else high ++ low

section
variable {s : State} {p : Port} {mode high low : Word} {buf : Buffer} {start : Seq}

theorem journal_operands_ok {mode : Word} (hm : mode.toNat ≤ 1) :
    firstBad [decide (1 < (consumerWord p).toNat), decide (1 < mode.toNat)] = none := by
  refine firstBad_none.mpr ?_
  simp [consumerWord_in_range, hm]

theorem cmdReadJournal_badBuffer (hm : mode.toNat ≤ 1) (hb : bufferStarts buf = false) :
    cmdReadJournal (consumerWord p) mode high low buf s = (s, .refuse .badBuffer) := by
  rw [cmdReadJournal, journal_operands_ok hm]
  simp [hb]

theorem cmdReadJournal_range (hm : mode.toNat ≤ 1) (hb : bufferStarts buf = true) (hs : start = readStart s.journal p mode high low)
    (hr : back s.journal.writePoint s.journal.freePoint < back s.journal.writePoint start) :
    cmdReadJournal (consumerWord p) mode high low buf s = (s, .refuse .range) := by
  rw [cmdReadJournal, journal_operands_ok hm]
  simp only [portOf_consumerWord, seqOfWords_eq]
  rw [show (if mode = 0 then _ else _) = start from hs.symm, if_neg (by simp [hb]), if_pos hr]

/-- The oldest entry asked for is longer than the room. -/
def firstTooLong (es : List Entry) (room : Nat) : Prop := ∃ e ∈ es.head?, room < e.length

theorem cmdReadJournal_in_range (hm : mode.toNat ≤ 1) (hb : bufferStarts buf = true)
    (hs : start = readStart s.journal p mode high low)
    (hr : ¬ back s.journal.writePoint s.journal.freePoint < back s.journal.writePoint start) :
    (firstTooLong (s.journal.from start) (bufferRoom buf) →
      cmdReadJournal (consumerWord p) mode high low buf s = (s, .refuse .bufferShort)) ∧
    (¬ firstTooLong (s.journal.from start) (bufferRoom buf) →
      cmdReadJournal (consumerWord p) mode high low buf s =
        (s, .doneOut ((takeFitting (s.journal.from start) (bufferRoom buf)).flatMap Entry.words)
          (word (takeFitting (s.journal.from start) (bufferRoom buf)).length ::
            seqWords (following start (takeFitting (s.journal.from start) (bufferRoom buf))) ++
              seqWords s.journal.writePoint))) := by
  rw [cmdReadJournal, journal_operands_ok hm]
  simp only [portOf_consumerWord, seqOfWords_eq]
  rw [show (if mode = 0 then _ else _) = start from hs.symm, if_neg (by simp [hb]), if_neg hr]
  cases h : s.journal.from start with
  | nil => simp [firstTooLong]
  | cons e es =>
    refine ⟨fun ht => if_pos ?_, fun ht => if_neg ?_⟩ <;> simpa [firstTooLong] using ht

end

/-! ## JOURNAL STATUS (R166) -/

theorem journalStatusWords_eq (j : Journal) :
    journalStatusWords j =
      seqWords j.writePoint ++ seqWords j.freePoint ++ seqWords j.bus.cursor ++ seqWords j.link.cursor ++
        twoWords (wordsOf j.entries) ++
        [word j.bus.threshold, word j.link.threshold,
         word (bit j.bus.enabled + 2 * bit j.bus.highMark + 4 * bit j.link.enabled + 8 * bit j.link.highMark +
           16 * bit j.openGap)] ++
        (match j.openGap, j.entries.getLast? with
          | true, some e => twoWords e.covers
          | _, _ => [0, 0]) ++ [0] := by
  have hcount : twoWords j.openCount = match j.openGap, j.entries.getLast? with
      | true, some e => twoWords e.covers
      | _, _ => [0, 0] := by
    unfold Journal.openCount
    cases j.openGap
    · exact (by decide : twoWords 0 = [0, 0])
    · cases j.entries.getLast?
      · exact (by decide : twoWords 0 = [0, 0])
      · rfl
  rw [journalStatusWords, hcount, Journal.occupied, journalFlagsWord]

/-- Settles O50. -/
theorem journalReading : Obligations.JournalReading := by
  intro s ho
  refine ⟨fun consumer mode high low buf => ⟨fun n hn => ?_, fun r hr => ?_⟩, fun p mode high low buf hm => ⟨_, rfl, ?_⟩, fun buf hf => ?_⟩
  · exact next_of_cmd_no_words ho buf (cmdReadJournal_bad hn buf s) rfl
  · refine next_of_cmd_no_words ho buf (r := .refuse r) ?_ rfl
    rw [cmdJournalStatus, (checkBuffer_some ..).mpr hr]
  · generalize hstart : (if mode = 0 then (s.journal.consumer p).cursor else high ++ low) = start
    change if _ then exec (.readJournal (consumerWord p) mode high low buf) s = _ else
      if _ then exec (.readJournal (consumerWord p) mode high low buf) s = _ else _
    split
    · next h =>
      refine next_of_cmd_no_words ho buf (cmdReadJournal_badBuffer hm ?_) rfl
      rw [← Bool.not_eq_true, bufferStarts_iff]
      omega
    · next h =>
      have hb : bufferStarts buf = true := (bufferStarts_iff buf).mpr (by omega)
      split
      · next hr => exact next_of_cmd_no_words ho buf (cmdReadJournal_range hm hb hstart.symm ((back_lt_iff ..).mpr hr)) rfl
      · next hr =>
        obtain ⟨hshort, hfits⟩ := cmdReadJournal_in_range (p := p) hm hb hstart.symm (mt (back_lt_iff ..).mp hr)
        obtain ⟨past, hes, hpast, hkept⟩ := s.journal.from_eq_drop start
        refine ⟨past, s.journal.from start, hes, hpast, hkept, fun ht => ?_, fun ht => ?_⟩
        · exact next_of_cmd_no_words ho buf (hshort ht) rfl
        · obtain ⟨rest, hrest, hle, hnext⟩ := takeFitting_spec (s.journal.from start) (bufferRoom buf)
          refine ⟨_, rest, hrest, hle, hnext, ?_⟩
          have hc := hfits fun ⟨e, he, hlt⟩ => absurd (ht e he) (Nat.not_le.mpr hlt)
          rw [following_eq] at hc
          exact next_of_cmd_buffer ho buf hc
  · refine (next_of_cmd_buffer (t := s) (r := .doneOut (journalStatusWords s.journal) []) ho buf ?_).trans ?_
    · rw [cmdJournalStatus, (checkBuffer_none ..).mpr hf]
    · exact congrArg (fun words => (.next (s.writing buf (.doneOut words [])) : Host.Outcome State Fault Refusal))
        (journalStatusWords_eq s.journal)

end Sys2Proof.Machine
end

section
/-! PROOFS. The journal's consumers: releasing (R164), setting (R160), and what both free (R157). -/

namespace Sys2Proof.Machine

/-! ## Unread words and the high mark (R161) -/

@[simp] theorem Journal.unread_setConsumer (j : Journal) (p : Port) (c d : Consumer) :
    (j.setConsumer p c).unread d = j.unread d := by cases p <;> rfl

theorem Journal.setConsumer_consumer (j : Journal) (p : Port) : j.setConsumer p (j.consumer p) = j := by cases p <;> rfl

theorem Journal.setConsumer_setConsumer (j : Journal) (p : Port) (c d : Consumer) :
    (j.setConsumer p c).setConsumer p d = j.setConsumer p d := by cases p <;> rfl

/-- The unread words reach the consumer's threshold. -/
def Journal.overThreshold (j : Journal) (c : Consumer) : Prop := 0 < c.threshold ∧ c.threshold ≤ j.unread c

theorem Journal.overThreshold_iff (j : Journal) (c : Consumer) :
    j.overThreshold c ↔ 0 < c.threshold ∧ c.threshold ≤ j.unread c := .rfl

/-- The consumer with its high mark cleared where the unread words do not reach its threshold (R160). -/
def Journal.lowered (j : Journal) (c : Consumer) : Consumer :=
  { c with highMark := c.highMark && decide (0 < c.threshold ∧ c.threshold ≤ j.unread c) }

theorem Journal.lowerMark_eq (j : Journal) (p : Port) : j.lowerMark p = j.setConsumer p (j.lowered (j.consumer p)) := by
  unfold Journal.lowerMark Journal.lowered
  dsimp only
  split
  · next h => rw [show decide (0 < _ ∧ _) = false from decide_eq_false (by omega), Bool.and_false]
  · next h => rw [show decide (0 < _ ∧ _) = true from decide_eq_true (by omega), Bool.and_true, Journal.setConsumer_consumer]

theorem Journal.lowerMark_consumer (j : Journal) (p q : Port) :
    (j.lowerMark p).consumer q = if q = p then j.lowered (j.consumer p) else j.consumer q := by
  rw [Journal.lowerMark_eq, Journal.consumer_setConsumer]

@[simp] theorem Journal.unread_lowerMark (j : Journal) (p : Port) (c : Consumer) : (j.lowerMark p).unread c = j.unread c := by
  rw [Journal.lowerMark_eq, Journal.unread_setConsumer]

@[simp] theorem Journal.unread_lowered (j : Journal) (c : Consumer) : j.unread (j.lowered c) = j.unread c := rfl

/-! ## What is freed (R157) -/

theorem Journal.earliest_setConsumer_same (j : Journal) (p : Port) {c : Consumer} (he : c.enabled = (j.consumer p).enabled)
    (hc : c.cursor = (j.consumer p).cursor) : (j.setConsumer p c).earliest = j.earliest := by
  cases p <;> simp only [Journal.consumer] at he hc <;> simp only [Journal.earliest, Journal.setConsumer, he, hc]

theorem Journal.freedTo_refree (j : Journal) : j.freedTo j.refree := by
  obtain ⟨freed, hes, hfreed, hkept⟩ := j.from_eq_drop j.earliest
  exact ⟨freed, hes, hfreed, hkept, rfl, rfl, rfl⟩

/-- A journal that obeys its law holds nothing to free. -/
theorem JournalLaw.freedTo_self {j : Journal} (h : JournalLaw j) : j.freedTo j := by
  refine ⟨[], rfl, by simp, h.oldest, ?_, rfl, ?_⟩
  · have ht := h.tiles
    cases hes : j.entries with
    | nil => rw [hes] at ht; exact ht
    | cons e es => rw [hes] at ht; exact ht.1.symm
  · cases hg : j.openGap with
    | false => rfl
    | true =>
      obtain ⟨e, n, he, -⟩ := h.gap hg
      cases hes : j.entries with
      | nil => simp [hes] at he
      | cons e es => rfl

/-- A threshold or a mark alone has no part in what is freed. -/
theorem Journal.freedTo.setConsumer_same {j k : Journal} (h : j.freedTo k) (p : Port) {c : Consumer}
    (he : c.enabled = (k.consumer p).enabled) (hc : c.cursor = (k.consumer p).cursor) : j.freedTo (k.setConsumer p c) := by
  unfold Journal.freedTo at *
  rw [Journal.earliest_setConsumer_same k p he hc]
  cases p <;> exact h

theorem Journal.freedTo.of_setConsumer {j k : Journal} {p : Port} {c : Consumer} (h : (j.setConsumer p c).freedTo k) :
    j.freedTo k := by
  cases p <;> exact h

theorem Journal.freedTo.lowerMark {j k : Journal} (h : j.freedTo k) (p : Port) : j.freedTo (k.lowerMark p) := by
  rw [Journal.lowerMark_eq]
  exact h.setConsumer_same p rfl rfl

/-! ## Where a release leaves a cursor (R164) -/

/-- The entry e of a journal, the entries after it being ys, is the one that covers the number q. -/
def coveredBy (w q : Seq) (e : Entry) (ys : List Entry) : Prop :=
  spanOfEntries ys < back w q ∧ back w q ≤ spanOfEntries ys + e.covers

section
variable {w f q : Seq} {xs ys : List Entry} {e : Entry}

theorem Tiles.back_seq (h : Tiles (xs ++ e :: ys) f w) (hs : spanOfEntries (xs ++ e :: ys) < 2 ^ 32) :
    back w e.seq = spanOfEntries ys + e.covers := by
  have := h.suffix.back_start (by rw [spanOfEntries_append] at hs; omega)
  rw [back, show e.seq = firstKept w (e :: ys) from rfl, this, spanOfEntries_cons, Nat.add_comm]

theorem Tiles.back_last (h : Tiles (xs ++ e :: ys) f w) (hs : spanOfEntries (xs ++ e :: ys) + 1 < 2 ^ 32) :
    back w (e.next - 1) = spanOfEntries ys + 1 := by
  simp only [spanOfEntries_append, spanOfEntries_cons] at hs
  have hb := h.after.back_start (by omega)
  have hn : firstKept w ys = e.next := h.after.firstKept_eq
  have h1 : (1 : Seq).toNat = 1 := rfl
  rw [back, show w - (e.next - 1) = w - e.next + 1 by grind, BitVec.toNat_add, hb, h1, Nat.mod_eq_of_lt (by omega)]

theorem Tiles.liesBefore_iff (h : Tiles (xs ++ e :: ys) f w) (hs : spanOfEntries (xs ++ e :: ys) + 1 < 2 ^ 32) :
    e.liesBefore w q ↔ back w q ≤ spanOfEntries ys := by
  have hl : back w (e.next - 1) = spanOfEntries ys + 1 := h.back_last hs
  change back w q < back w (e.next - 1) ↔ _
  rw [hl, Nat.lt_succ_iff]

/-- How far into an entry the number lies that the entry covers. -/
theorem Tiles.sub_seq (h : Tiles (xs ++ e :: ys) f w) (hs : spanOfEntries (xs ++ e :: ys) < 2 ^ 32) (hq : coveredBy w q e ys) :
    (q - e.seq).toNat = spanOfEntries ys + e.covers - back w q := by
  obtain ⟨h1, h2⟩ := hq
  have hb := h.back_seq hs
  rw [show q - e.seq = w - e.seq - (w - q) by grind, BitVec.toNat_sub_of_le (by rw [BitVec.le_def]; exact h2.trans hb.ge)]
  rw [back] at hb
  rw [hb, back]

/-- A number that lies inside an entry's numbers is one the entry covers. -/
theorem Tiles.coveredBy_of_inside (h : Tiles (xs ++ e :: ys) f w) (hs : spanOfEntries (xs ++ e :: ys) < 2 ^ 32)
    (hq : (q - e.seq).toNat < e.covers) : coveredBy w q e ys := by
  have hb := h.back_seq hs
  have hback : back w q = back w e.seq - (q - e.seq).toNat := by
    rw [back, show w - q = w - e.seq - (q - e.seq) by grind, BitVec.toNat_sub_of_le, back]
    rw [BitVec.le_def]
    change _ ≤ back w e.seq
    omega
  exact ⟨by omega, by omega⟩

end

/-- The entries from the one that covers a number on. -/
theorem JournalShape.from_of_covered {j : Journal} (h : JournalShape j) {q : Seq} {xs ys : List Entry} {e : Entry}
    (hes : j.entries = xs ++ e :: ys) (hq : coveredBy j.writePoint q e ys) : j.from q = e :: ys := by
  have hs := h.span_lt
  have ht := h.tiles
  rw [hes] at hs ht
  have hkeep : ¬ e.allBefore j.writePoint q = true := by
    rw [Entry.allBefore_iff, ht.liesBefore_iff (by omega), Nat.not_le]
    exact hq.1
  have hdrop : ∀ x ∈ xs, e.allBefore j.writePoint q = false ∧ x.allBefore j.writePoint q = true := by
    intro x hx
    refine ⟨Bool.not_eq_true _ ▸ hkeep, ?_⟩
    obtain ⟨us, vs, rfl⟩ := List.append_of_mem hx
    rw [List.append_assoc, List.cons_append] at ht hs
    rw [Entry.allBefore_iff, ht.liesBefore_iff (by omega), spanOfEntries_append, spanOfEntries_cons]
    have := hq.2
    omega
  rw [Journal.from, hes, List.dropWhile_append_of_pos fun x hx => (hdrop x hx).2, List.dropWhile_cons_of_neg hkeep]

/-- Conversely the oldest of the entries from a number on covers it, where the number is not earlier than F. -/
theorem JournalShape.covered_of_from {j : Journal} (h : JournalShape j) {q : Seq}
    (hq : back j.writePoint q ≤ back j.writePoint j.freePoint) {e : Entry} {ys : List Entry} (hfrom : j.from q = e :: ys) :
    (∃ xs, j.entries = xs ++ e :: ys) ∧ coveredBy j.writePoint q e ys := by
  obtain ⟨freed, hes, hfreed, hkept⟩ := j.from_eq_drop q
  rw [hfrom] at hes hkept
  have hs := h.span_lt
  have ht := h.tiles
  have hb : back j.writePoint j.freePoint = spanOfEntries j.entries := h.back_freePoint
  rw [hb] at hq
  rw [hes] at hs ht hq
  have hlow := hkept e rfl
  rw [ht.liesBefore_iff (by omega), Nat.not_le] at hlow
  refine ⟨⟨freed, hes⟩, hlow, ?_⟩
  rcases List.eq_nil_or_concat freed with rfl | ⟨front, d, rfl⟩
  · simpa [Nat.add_comm] using hq
  · have hd := hfreed d (by simp)
    have ht' : Tiles (front ++ d :: e :: ys) j.freePoint j.writePoint := by simpa using ht
    rw [ht'.liesBefore_iff (by simp only [List.concat_eq_append, List.append_assoc, List.singleton_append] at hs; omega)] at hd
    simpa [Nat.add_comm] using hd

/-- Inside the numbers of a GAP, after its first, a release goes to the GAP's end (R164). -/
theorem JournalShape.releaseTarget_inside {j : Journal} (h : JournalShape j) {q : Seq} {e : Entry} (he : e ∈ j.entries) {n : Nat}
    (hn : e.body.extra = .gapCount n) (hpos : 0 < (q - e.seq).toNat) (hlt : (q - e.seq).toNat < n) :
    releaseTarget j q = e.seq + BitVec.ofNat 32 n := by
  obtain ⟨xs, ys, hes⟩ := List.append_of_mem he
  have hs := h.span_lt
  have ht := h.tiles
  rw [hes] at hs ht
  have hcov : e.covers = n := Entry.covers_of_gap hn
  have hfrom := h.from_of_covered hes (ht.coveredBy_of_inside (by omega) (hcov ▸ hlt))
  have hne : q ≠ e.seq := by
    rintro rfl
    simp at hpos
  simp only [releaseTarget, hfrom, hn, if_neg hne, Entry.next, hcov]

/-- Outside of every GAP, and at a GAP's first number, a release goes to the number it names (R164). -/
theorem JournalShape.releaseTarget_outside {j : Journal} (h : JournalShape j) {q : Seq}
    (hq : back j.writePoint q ≤ back j.writePoint j.freePoint)
    (hout : ∀ e ∈ j.entries, ∀ n, e.body.extra = .gapCount n → (q - e.seq).toNat = 0 ∨ n ≤ (q - e.seq).toNat) :
    releaseTarget j q = q := by
  unfold releaseTarget
  split
  · next e ys hfrom =>
    split
    · next n hn =>
      obtain ⟨⟨xs, hes⟩, hcover⟩ := h.covered_of_from hq hfrom
      have hs := h.span_lt
      have ht := h.tiles
      have hcov : e.covers = n := Entry.covers_of_gap hn
      have hsub := hout e (by rw [hes]; simp) n hn
      rw [hes] at hs ht
      rw [ht.sub_seq (by omega) hcover] at hsub
      have h1 := hcover.1
      have hzero : (q - e.seq).toNat = 0 := by
        rw [ht.sub_seq (by omega) hcover]
        omega
      rw [if_pos (by clear hsub; bv_omega)]
    · rfl
  · rfl

/-! ## RELEASE JOURNAL (R164) -/

theorem beyond_iff (w q : Seq) : beyond w q = true ↔ 1 ≤ (q - w).toNat ∧ (q - w).toNat ≤ 2147483647 := by
  rw [beyond, Bool.and_eq_true, decide_eq_true_iff, decide_eq_true_iff]

/-- The journal after a release that moves the cursor of a consumer to q. -/
def Journal.released (j : Journal) (p : Port) (q : Seq) : Journal :=
  (j.setConsumer p { j.consumer p with cursor := releaseTarget j q }).refree.lowerMark p

theorem Journal.released_consumer (j : Journal) (p o : Port) (q : Seq) :
    (j.released p q).consumer o =
      if o = p then
        { j.consumer p with
          cursor := releaseTarget j q
          highMark := (j.consumer p).highMark && decide (0 < (j.consumer p).threshold ∧
            (j.consumer p).threshold ≤ (j.released p q).unread ((j.released p q).consumer p)) }
      else j.consumer o := by
  by_cases h : o = p
  · subst h
    simp only [if_pos, Journal.released, Journal.lowerMark_consumer, Journal.unread_lowerMark,
      Journal.refree_consumer, Journal.consumer_setConsumer, Journal.lowered]
    rfl
  · simp only [if_neg h, Journal.released, Journal.lowerMark_consumer, Journal.refree_consumer, Journal.consumer_setConsumer]

theorem Journal.freedTo_released (j : Journal) (p : Port) (q : Seq) : j.freedTo (j.released p q) :=
  (Journal.freedTo_refree _).of_setConsumer.lowerMark p

theorem JournalLaw.back_cursor_le {j : Journal} (h : JournalLaw j) (p : Port) :
    back j.writePoint (j.consumer p).cursor ≤ back j.writePoint j.freePoint := by
  have hp := h.cursors p
  split at hp
  · exact hp
  · rw [hp, back, BitVec.sub_self]
    exact Nat.zero_le _

theorem consumer_operand_ok (p : Port) : firstBad [decide (1 < (consumerWord p).toNat)] = none :=
  firstBad_none.mpr (by simp [consumerWord_in_range])

theorem cmdReleaseJournal_range {p : Port} {high low : Word} {s : State} (h : beyond s.journal.writePoint (high ++ low) = true) :
    cmdReleaseJournal (consumerWord p) high low s = (s, .refuse .range) := by
  rw [cmdReleaseJournal, consumer_operand_ok]
  simp [seqOfWords_eq, h]

/-- The journal that RELEASE JOURNAL leaves where it is carried out. -/
def Journal.releasedTo (j : Journal) (p : Port) (q : Seq) : Journal :=
  if back j.writePoint q < back j.writePoint (j.consumer p).cursor then j.released p q else j

theorem cmdReleaseJournal_ok {p : Port} {high low : Word} {s : State} (h : ¬ beyond s.journal.writePoint (high ++ low) = true) :
    cmdReleaseJournal (consumerWord p) high low s =
      (s.setJournal (s.journal.releasedTo p (high ++ low)),
        .done (seqWords ((s.journal.releasedTo p (high ++ low)).consumer p).cursor ++
          twoWords ((s.journal.releasedTo p (high ++ low)).unread ((s.journal.releasedTo p (high ++ low)).consumer p)))) := by
  rw [cmdReleaseJournal, consumer_operand_ok]
  simp only [portOf_consumerWord, seqOfWords_eq, if_neg h]
  rfl

/-! ## SET CONSUMER (R160, R161) -/

/-- A consumer as SET CONSUMER leaves it, but for its mark (R160). -/
def Journal.configured (j : Journal) (p : Port) (enable : Bool) (threshold : Nat) : Consumer :=
  { j.consumer p with
    enabled := enable
    cursor := if enable = false then j.writePoint else if (j.consumer p).enabled = true then (j.consumer p).cursor else j.freePoint
    threshold := threshold }

theorem JournalLaw.configure_consumer {j : Journal} (h : JournalLaw j) (p o : Port) (enable : Bool) (threshold : Nat) :
    (j.configure p enable threshold).consumer o = if o = p then j.configured p enable threshold else j.consumer o := by
  have hp := h.cursors p
  unfold Journal.configure Journal.configured
  generalize j.consumer p = c at *
  obtain ⟨en, cursor, thr, mark⟩ := c
  cases enable <;> cases en <;> simp_all [Journal.consumer_setConsumer]

theorem JournalLaw.freedTo_configure {j : Journal} (h : JournalLaw j) (p : Port) (enable : Bool) (threshold : Nat) :
    j.freedTo (j.configure p enable threshold) := by
  have hsame := h.freedTo_self.setConsumer_same p (c := { j.consumer p with threshold }) rfl rfl
  unfold Journal.configure
  dsimp only
  split
  · split
    · exact hsame
    · exact (Journal.freedTo_refree _).of_setConsumer
  · split
    · exact (Journal.freedTo_refree _).of_setConsumer
    · exact hsame

/-- The journal that SET CONSUMER examines. -/
def Journal.setTo (j : Journal) (p : Port) (enable : Bool) (threshold : Nat) : Journal :=
  (j.configure p enable threshold).lowerMark p

theorem cmdSetConsumer_ok {p : Port} {action : Word} (ha : action.toNat ≤ 1) (threshold : Word) (s : State) :
    cmdSetConsumer (consumerWord p) action threshold s =
      (examineHigh p (s.setJournal (s.journal.setTo p (decide (action = 1)) threshold.toNat)),
        .done (flagWord (s.journal.consumer p).enabled ::
          seqWords ((s.journal.setTo p (decide (action = 1)) threshold.toNat).consumer p).cursor)) := by
  rw [cmdSetConsumer, journal_operands_ok ha]
  simp only [portOf_consumerWord]
  rfl

theorem examineHigh_journal (p : Port) (s : State) :
    (examineHigh p s).journal =
      s.journal.setConsumer p
        { s.journal.consumer p with highMark := (s.journal.consumer p).highMark || s.journal.reaches p } := by
  unfold examineHigh
  split
  · next h => rw [h, Bool.or_true, raiseCause_frame]; rfl
  · next h => rw [(Bool.not_eq_true _).mp h, Bool.or_false]; exact (Journal.setConsumer_consumer ..).symm

theorem Journal.reaches_eq (j : Journal) (p : Port) :
    j.reaches p = (decide (0 < (j.consumer p).threshold ∧ (j.consumer p).threshold ≤ j.unread (j.consumer p)) &&
      !(j.consumer p).highMark) := by
  rw [Journal.reaches, Bool.decide_and]

/-- What lowering and then examining a consumer's mark leaves: the mark stands exactly where the threshold is reached (R160, R161). -/
theorem examineHigh_lowerMark (p : Port) (s : State) (j k : Journal)
    (hk : k = (examineHigh p (s.setJournal (j.lowerMark p))).journal) :
    k = j.setConsumer p
        { j.consumer p with
          highMark := decide (0 < (j.consumer p).threshold ∧ (j.consumer p).threshold ≤ k.unread (k.consumer p)) } ∧
      ((j.lowerMark p).reaches p = true ↔ (j.consumer p).highMark = false ∧ (k.consumer p).highMark = true) := by
  generalize hfull : decide (0 < (j.consumer p).threshold ∧ (j.consumer p).threshold ≤ j.unread (j.consumer p)) = full
  have hreach : (j.lowerMark p).reaches p = (full && !(j.consumer p).highMark) := by
    rw [Journal.reaches_eq, Journal.unread_lowerMark, Journal.lowerMark_consumer, if_pos rfl]
    change (decide (0 < (j.consumer p).threshold ∧ (j.consumer p).threshold ≤ j.unread (j.consumer p)) &&
      !((j.consumer p).highMark && decide (0 < (j.consumer p).threshold ∧ (j.consumer p).threshold ≤ j.unread (j.consumer p)))) = _
    rw [hfull]
    cases full <;> simp
  have hmark : k = j.setConsumer p { j.consumer p with highMark := full } := by
    rw [hk, examineHigh_journal]
    change (j.lowerMark p).setConsumer p { (j.lowerMark p).consumer p with
      highMark := ((j.lowerMark p).consumer p).highMark || (j.lowerMark p).reaches p } = _
    rw [hreach, Journal.lowerMark_consumer, if_pos rfl, Journal.lowerMark_eq, Journal.setConsumer_setConsumer]
    change j.setConsumer p { j.consumer p with highMark := (j.consumer p).highMark && decide _ || _ } = _
    rw [hfull]
    cases full <;> simp
  have hunread : k.unread (k.consumer p) = j.unread (j.consumer p) := by
    rw [hmark, Journal.unread_setConsumer, Journal.consumer_setConsumer, if_pos rfl]
    rfl
  have hkp : (k.consumer p).highMark = full := by rw [hmark, Journal.consumer_setConsumer, if_pos rfl]
  refine ⟨by rw [hunread, hfull]; exact hmark, ?_⟩
  rw [hreach, hkp, Bool.and_eq_true, Bool.not_eq_true', and_comm]

/-- What SET CONSUMER leaves of the consumers, the entries and the ports (R160, R161). -/
theorem setTo_examined {s : State} (h : JournalLaw s.journal) (p : Port) (enable : Bool) (threshold : Nat) (t : State)
    (ht : t = examineHigh p (s.setJournal (s.journal.setTo p enable threshold))) :
    (∀ o, t.journal.consumer o =
      if o = p then
        { s.journal.configured p enable threshold with
          highMark := decide (0 < threshold ∧ threshold ≤ t.journal.unread (t.journal.consumer p)) }
      else s.journal.consumer o) ∧
      s.journal.freedTo t.journal ∧
      (∀ o, t.portState o =
        if o = p ∧ (s.journal.consumer p).highMark = false ∧ (t.journal.consumer p).highMark = true then
          (s.portState p).note .eventWord Cause.journalHigh.bit
        else s.portState o) ∧
      ((s.journal.setTo p enable threshold).consumer p).cursor = (t.journal.consumer p).cursor := by
  generalize hk : s.journal.configure p enable threshold = k
  have hcons : ∀ o, k.consumer o = if o = p then s.journal.configured p enable threshold else s.journal.consumer o := fun o =>
    hk ▸ h.configure_consumer p o enable threshold
  have hfreed : s.journal.freedTo k := hk ▸ h.freedTo_configure p enable threshold
  have hset : s.journal.setTo p enable threshold = k.lowerMark p := by rw [Journal.setTo, hk]
  have hp := hcons p
  rw [if_pos rfl] at hp
  rw [hset] at ht ⊢
  obtain ⟨hjournal, hreach⟩ := examineHigh_lowerMark p s k t.journal (congrArg State.journal ht)
  rw [hp] at hjournal hreach
  refine ⟨fun o => ?_, ?_, fun o => ?_, ?_⟩
  · conv_lhs => rw [hjournal, Journal.consumer_setConsumer, hcons]
    split <;> rfl
  · rw [hjournal]
    exact hfreed.setConsumer_same p (congrArg Consumer.enabled hp).symm (congrArg Consumer.cursor hp).symm
  · rw [ht, examineHigh_portState, ← ht]
    exact if_congr (and_congr_right fun _ => hreach) rfl rfl
  · rw [hjournal, Journal.lowerMark_consumer, Journal.consumer_setConsumer, if_pos rfl, if_pos rfl, hp]
    rfl

/-- What keeps all but the ports and some of the journal changes the journal and the ports alone. -/
theorem sameButLog.of_frame {s t : State} {j : Journal}
    (h : t = { s with journal := j, control := { s.control with bus := t.control.bus, link := t.control.link } }) :
    sameButLog s t := by
  have hj : t.journal = j := congrArg State.journal h
  rw [sameButLog, hj]
  exact h

/-- Settles O51. -/
theorem consumersMoveAndFree : Obligations.ConsumersMoveAndFree := by
  refine ⟨fun s consumer action threshold high low ho => ⟨fun hc => ?_, fun n hn => ?_⟩, fun s p ho hj =>
    ⟨fun high low => ⟨_, rfl, fun hb => ?_, fun hb => ?_⟩, fun action threshold ha => ?_⟩⟩
  · refine next_of_cmd ho ?_
    rw [cmdReleaseJournal, firstBad_single_some (decide_eq_true hc)]
  · refine next_of_cmd ho ?_
    rw [cmdSetConsumer, firstBad_of_firstOut (by simp) hn]
  · exact next_of_cmd ho (cmdReleaseJournal_range ((beyond_iff ..).mpr hb))
  · generalize hq : high ++ low = q at hb
    have hexec := next_of_cmd ho (cmdReleaseJournal_ok (p := p) (high := high) (low := low) (s := s) (hq ▸ mt (beyond_iff ..).mp hb))
    rw [hq] at hexec
    refine ⟨_, _, hexec, rfl, fun hle => if_neg (Nat.not_lt.mpr hle), fun hlt => ?_, rfl⟩
    have hrel : s.journal.releasedTo p q = s.journal.released p q := if_pos hlt
    change s.journal.freedTo (s.journal.releasedTo p q) ∧
      (∀ e ∈ s.journal.entries, ∀ n, e.body.extra = .gapCount n → 0 < (q - e.seq).toNat → (q - e.seq).toNat < n →
        ((s.journal.releasedTo p q).consumer p).cursor = e.seq + BitVec.ofNat 32 n) ∧
      ((∀ e ∈ s.journal.entries, ∀ n, e.body.extra = .gapCount n → (q - e.seq).toNat = 0 ∨ n ≤ (q - e.seq).toNat) →
        ((s.journal.releasedTo p q).consumer p).cursor = q) ∧
      (s.journal.releasedTo p q).consumer p = _ ∧ ∀ o, o ≠ p → (s.journal.releasedTo p q).consumer o = s.journal.consumer o
    rw [hrel]
    have hp := s.journal.released_consumer p p q
    rw [if_pos rfl] at hp
    have hcursor : ((s.journal.released p q).consumer p).cursor = releaseTarget s.journal q := by rw [hp]
    refine ⟨s.journal.freedTo_released p q, fun e he n hn hpos hin => ?_, fun hout => ?_, ?_, fun o ho => ?_⟩
    · rw [hcursor, hj.shape.releaseTarget_inside he hn hpos hin]
    · rw [hcursor, hj.shape.releaseTarget_outside (hlt.le.trans (hj.back_cursor_le p)) hout]
    · exact hp.trans (by rw [← hcursor]; rfl)
    · rw [Journal.released_consumer, if_neg ho]
  · have hexec := next_of_cmd ho (cmdSetConsumer_ok (p := p) ha threshold s)
    have hframe := examineHigh_frame p (s.setJournal (s.journal.setTo p (decide (action = 1)) threshold.toNat))
    generalize ht : examineHigh p (s.setJournal (s.journal.setTo p (decide (action = 1)) threshold.toNat)) = t at hexec hframe
    obtain ⟨hcons, hfreed, hports, hcursor⟩ := setTo_examined hj p (decide (action = 1)) threshold.toNat t ht.symm
    rw [hcursor] at hexec
    refine ⟨_, _, hexec, rfl, ?_, fun o ho => ?_, hfreed, ?_, fun o ho => ?_, ?_⟩
    · have haction : decide (action = 1) = false ↔ action = 0 := by
        rw [decide_eq_false_iff_not]
        bv_omega
      refine (hcons p).trans ?_
      rw [if_pos rfl]
      simp only [Journal.configured, haction]
      rfl
    · exact (hcons o).trans (if_neg ho)
    · refine (congrArg PortState.eventSummary (hports p)).trans ?_
      rw [apply_ite PortState.eventSummary, PortState.note_event_eventSummary]
      simp only [true_and]
      rfl
    · exact (hports o).trans (if_neg fun h => ho h.1)
    · exact congrArg (State.answering · _) (sameButLog.of_frame hframe)

end Sys2Proof.Machine
end

section
/-! PROOFS. An append to a journal that a consumer reads (R153, R156–R159), and the thresholds examined at it (R161). -/

namespace Sys2Proof.Machine

/-! ## W rises by 1 -/

theorem back_rise {w q : Seq} (h : back w q + 1 < 2 ^ 32) : back (w + 1) q = back w q + 1 := by
  have h1 : (1 : Seq).toNat = 1 := rfl
  rw [back, show w + 1 - q = w - q + 1 by grind, BitVec.toNat_add, h1]
  exact Nat.mod_eq_of_lt h

theorem JournalLaw.back_cursor_lt {j : Journal} (h : JournalLaw j) (p : Port) :
    back j.writePoint (j.consumer p).cursor < 2147491840 := by
  have hf : back j.writePoint j.freePoint = spanOfEntries j.entries := h.shape.back_freePoint
  exact (h.back_cursor_le p).trans_lt (hf ▸ h.shape.span_lt)

theorem JournalLaw.back_earliest_lt {j : Journal} (h : JournalLaw j) : back j.writePoint j.earliest < 2147491840 := by
  have hf : back j.writePoint j.freePoint = spanOfEntries j.entries := h.shape.back_freePoint
  exact h.shape.back_earliest_le.trans_lt (hf ▸ h.shape.span_lt)

/-- The journal as an append leaves it where nothing is freed: its entries, W one further, the disabled cursors at W. -/
def Journal.risen (j : Journal) (es : List Entry) (gap : Bool) : Journal :=
  { j with
    entries := es, writePoint := j.writePoint + 1, openGap := gap
    bus := j.bus.follow (j.writePoint + 1), link := j.link.follow (j.writePoint + 1) }

/-- A cursor keeps its place among the cursors as W rises. -/
theorem JournalLaw.risen_earliest {j : Journal} (h : JournalLaw j) (hen : j.bus.enabled = true ∨ j.link.enabled = true)
    (es : List Entry) (gap : Bool) : (j.risen es gap).earliest = j.earliest := by
  have hb := h.back_cursor_lt .bus
  have hl := h.back_cursor_lt .link
  simp only [Journal.consumer] at hb hl
  unfold Journal.earliest Journal.risen Consumer.follow
  cases h1 : j.bus.enabled <;> cases h2 : j.link.enabled
  · simp [h1, h2] at hen
  · simp [h2]
  · simp [h1]
  · simp only [h1, h2, if_true]
    rw [back_rise (by omega), back_rise (by omega)]
    simp only [Nat.add_le_add_iff_right]

/-- What follows the oldest entry lies behind the earliest cursor. -/
theorem JournalLaw.span_tail_lt {j : Journal} (h : JournalLaw j) {e : Entry} {ys : List Entry} (hes : j.entries = e :: ys) :
    spanOfEntries ys < back j.writePoint j.earliest := by
  have ht := h.tiles
  have hs := h.shape.span_lt
  have ho := h.oldest e (by rw [hes]; rfl)
  rw [hes] at ht hs
  rwa [Tiles.liesBefore_iff (xs := []) ht (by rw [List.nil_append]; omega), Nat.not_le] at ho

/-- As W rises by a number that joins the entries, nothing is freed. -/
theorem JournalLaw.settle_risen {j : Journal} (h : JournalLaw j) (hen : j.bus.enabled = true ∨ j.link.enabled = true)
    {es : List Entry} (gap : Bool) (ht : Tiles es j.freePoint (j.writePoint + 1)) (hne : es ≠ [])
    (hs : spanOfEntries es ≤ spanOfEntries j.entries + 1)
    (hhead : ∀ e ys, es = e :: ys → spanOfEntries ys ≤ back j.writePoint j.earliest) :
    Journal.settle { j with entries := es, writePoint := j.writePoint + 1, openGap := gap } = j.risen es gap := by
  have hfrom : (j.risen es gap).from (j.risen es gap).earliest = es := by
    rw [h.risen_earliest hen]
    obtain ⟨e, ys, rfl⟩ := List.exists_cons_of_ne_nil hne
    refine List.dropWhile_cons_of_neg ?_
    have hspan := h.shape.span_lt
    have hlt := h.back_earliest_lt
    have htail := hhead e ys rfl
    rw [Entry.allBefore_iff]
    change ¬ e.liesBefore (j.writePoint + 1) j.earliest
    rw [Tiles.liesBefore_iff (xs := []) ht (by rw [List.nil_append]; omega), back_rise (by omega)]
    omega
  have hfree : firstKept (j.writePoint + 1) es = j.freePoint := ht.firstKept_eq
  rw [Journal.settle_eq]
  change (j.risen es gap).refree = j.risen es gap
  have hrefree : (j.risen es gap).refree =
      { j.risen es gap with
        entries := (j.risen es gap).from (j.risen es gap).earliest
        freePoint := firstKept (j.writePoint + 1) ((j.risen es gap).from (j.risen es gap).earliest)
        openGap := gap && !((j.risen es gap).from (j.risen es gap).earliest).isEmpty } := by
    rw [← show _ = firstKept (j.writePoint + 1) _ from (j.risen es gap).refree_freePoint]
    rfl
  rw [hrefree, hfrom, hfree, List.isEmpty_eq_false_iff.mpr hne, Bool.not_false, Bool.and_true]
  rfl

/-- An entry stored is the newest one. -/
theorem JournalLaw.store_eq {j : Journal} (h : JournalLaw j) (hen : j.bus.enabled = true ∨ j.link.enabled = true)
    {body : EntryBody} (hcov : Entry.covers ⟨j.writePoint, body⟩ = 1) (gap : Bool) :
    j.store body gap = j.risen (j.entries ++ [⟨j.writePoint, body⟩]) gap := by
  have ht := h.tiles.snoc (e := ⟨j.writePoint, body⟩) rfl
  rw [Entry.next_of_covers_one hcov] at ht
  refine h.settle_risen hen gap ht (by simp) (by simp [hcov]) fun e ys hes => ?_
  cases hj : j.entries with
  | nil =>
    rw [hj] at hes
    obtain rfl : ys = [] := by simpa using (List.cons.inj hes).2.symm
    exact Nat.zero_le _
  | cons x xs =>
    have := h.span_tail_lt hj
    obtain ⟨-, rfl⟩ : x = e ∧ xs ++ [⟨j.writePoint, body⟩] = ys := by simpa [hj] using hes
    simp only [spanOfEntries_append, spanOfEntries_cons, hcov, spanOfEntries_nil]
    omega

/-- A drop into the open GAP raises its count. -/
theorem JournalLaw.raise_eq {j : Journal} (h : JournalLaw j) (hen : j.bus.enabled = true ∨ j.link.enabled = true)
    (hg : j.openGap = true) :
    Journal.settle { j with entries := raiseNewest j.entries, writePoint := j.writePoint + 1 } =
      j.risen (raiseNewest j.entries) true := by
  obtain ⟨ht, -, hsum, -, -, hnew⟩ := raiseNewest_of_newestGap (h.gap hg) h.tiles h.counts
  have hne : raiseNewest j.entries ≠ [] := by
    rintro hnil
    obtain ⟨e, n, he, -⟩ := hnew
    simp [hnil] at he
  have hset := h.settle_risen hen true ht hne hsum.le fun e ys hes => ?_
  · rw [← hset, ← hg]
  · cases hj : j.entries with
    | nil => rw [hj] at hes; cases hes
    | cons x xs =>
      have htail := h.span_tail_lt hj
      cases xs with
      | nil =>
        rw [hj] at hes
        rw [← (List.cons.inj hes).2]
        exact Nat.zero_le _
      | cons y ys' =>
        rw [hj] at hes hsum
        rw [show raiseNewest (x :: y :: ys') = x :: raiseNewest (y :: ys') from rfl] at hes hsum
        rw [← (List.cons.inj hes).2]
        simp only [spanOfEntries_cons] at hsum htail ⊢
        omega

/-! ## Storing and dropping (R158, R159) -/

theorem hasRoom_iff {j : Journal} (h : JournalLaw j) (n : Nat) : j.hasRoom n = true ↔ n + 8 + j.occupied ≤ 65536 := by
  have := h.room
  rw [Journal.hasRoom, decide_eq_true_iff, Journal.free]
  change n + 8 ≤ 65536 - _ ↔ _
  omega

theorem pastSpan_iff (j : Journal) :
    2147483647 < back j.writePoint j.freePoint + 1 ↔ 2147483647 ≤ (j.writePoint - j.freePoint).toNat := Nat.lt_succ_iff

theorem Journal.append_of_room {j : Journal} (h : JournalLaw j) {body : EntryBody} (clock : Time)
    (hr : body.length + 8 + j.occupied ≤ 65536) : j.append clock body = j.store body false :=
  if_pos ((hasRoom_iff h _).mpr hr)

theorem Journal.append_of_full {j : Journal} (h : JournalLaw j) {body : EntryBody} (clock : Time)
    (hr : 65536 < body.length + 8 + j.occupied) : j.append clock body = j.drop clock :=
  if_neg (mt (hasRoom_iff h _).mp (Nat.not_le.mpr hr))

theorem Journal.drop_at_limit {j : Journal} (clock : Time) (hs : 2147483647 ≤ (j.writePoint - j.freePoint).toNat) :
    j.drop clock = j := if_pos ((pastSpan_iff j).mpr hs)

theorem Journal.drop_open {j : Journal} (clock : Time) (hs : (j.writePoint - j.freePoint).toNat < 2147483647)
    (hg : j.openGap = true) :
    j.drop clock = Journal.settle { j with entries := raiseNewest j.entries, writePoint := j.writePoint + 1 } := by
  rw [Journal.drop, if_neg (mt (pastSpan_iff j).mp (Nat.not_le.mpr hs)), if_pos hg]

theorem Journal.drop_shut {j : Journal} (clock : Time) (hs : (j.writePoint - j.freePoint).toNat < 2147483647)
    (hg : j.openGap = false) : j.drop clock = j.store (gapBody clock) true := by
  rw [Journal.drop, if_neg (mt (pastSpan_iff j).mp (Nat.not_le.mpr hs)), if_neg (by simp [hg])]

/-- The entries after a drop into the open GAP. -/
theorem raiseNewest_of_gap {es : List Entry} (h : NewestGap es) :
    ∃ front e n, es = front ++ [e] ∧ e.body.extra = .gapCount n ∧
      raiseNewest es = front ++ [{ e with body := { e.body with extra := .gapCount (n + 1) } }] := by
  obtain ⟨e, n, he, hn⟩ := h
  obtain ⟨front, rfl⟩ := List.getLast?_eq_some_iff.mp he
  exact ⟨front, e, n, rfl, hn, by rw [raiseNewest_snoc, Entry.raiseCount_of_gap hn]⟩

/-- An append changes nothing, or makes W rise. -/
theorem JournalLaw.append_risen {j : Journal} (h : JournalLaw j) (hen : j.bus.enabled = true ∨ j.link.enabled = true)
    (clock : Time) {body : EntryBody} (hb : body.isPlain) :
    j.append clock body = j ∨ ∃ es gap, j.append clock body = j.risen es gap := by
  rcases Nat.lt_or_ge 65536 (body.length + 8 + j.occupied) with hr | hr
  · rw [Journal.append_of_full h clock hr]
    rcases Nat.lt_or_ge (j.writePoint - j.freePoint).toNat 2147483647 with hs | hs
    · refine .inr ?_
      cases hg : j.openGap with
      | true => exact ⟨_, _, (Journal.drop_open clock hs hg).trans (h.raise_eq hen hg)⟩
      | false => exact ⟨_, _, (Journal.drop_shut clock hs hg).trans (h.store_eq hen rfl true)⟩
    · exact .inl (Journal.drop_at_limit clock hs)
  · exact .inr ⟨_, _, (Journal.append_of_room h clock hr).trans (h.store_eq hen (hb.covers _) false)⟩

/-! ## Thresholds at an append (R161) -/

theorem Journal.settle_consumer (j : Journal) (p : Port) : j.settle.consumer p = (j.consumer p).follow j.writePoint := by
  rw [Journal.settle_eq, Journal.refree_consumer, Journal.followed_consumer]

theorem Consumer.follow_highMark (w : Seq) (c : Consumer) : (c.follow w).highMark = c.highMark := by
  unfold Consumer.follow
  split <;> rfl

theorem Journal.store_consumer (j : Journal) (body : EntryBody) (gap : Bool) (p : Port) :
    (j.store body gap).consumer p = (j.consumer p).follow (j.writePoint + 1) := by
  rw [Journal.store, Journal.settle_consumer]
  cases p <;> rfl

theorem Journal.append_highMark (j : Journal) (clock : Time) (body : EntryBody) (p : Port) :
    ((j.append clock body).consumer p).highMark = (j.consumer p).highMark := by
  unfold Journal.append Journal.drop
  split
  · rw [Journal.store_consumer, Consumer.follow_highMark]
  · split
    · rfl
    · split
      · rw [Journal.settle_consumer, Consumer.follow_highMark]
        cases p <;> rfl
      · rw [Journal.store_consumer, Consumer.follow_highMark]

theorem Journal.store_ne (j : Journal) (body : EntryBody) (gap : Bool) : j.store body gap ≠ j := by
  intro h
  have hw : j.writePoint + 1 = j.writePoint := congrArg Journal.writePoint h
  bv_omega

/-- Whether the thresholds are examined: at every append but a drop into the open GAP and one that leaves no trace. -/
theorem stores_iff {j : Journal} (h : JournalLaw j) (clock : Time) (body : EntryBody) :
    j.stores body = true ↔
      ¬ (65536 < body.length + 8 + j.occupied ∧ j.openGap = true) ∧ j.append clock body ≠ j := by
  have hroom := hasRoom_iff h body.length
  rw [Journal.stores, Bool.or_eq_true, Bool.and_eq_true, Bool.not_eq_true', Bool.not_eq_true', decide_eq_false_iff_not,
    pastSpan_iff, Nat.not_le, hroom]
  rcases Nat.lt_or_ge 65536 (body.length + 8 + j.occupied) with hr | hr
  · rw [Journal.append_of_full h clock hr]
    cases hg : j.openGap with
    | true => simp [hr, Nat.not_le.mpr hr]
    | false =>
      rcases Nat.lt_or_ge (j.writePoint - j.freePoint).toNat 2147483647 with hs | hs
      · rw [Journal.drop_shut clock hs hg]
        exact iff_of_true (.inr ⟨rfl, hs⟩) ⟨by simp, Journal.store_ne j _ _⟩
      · rw [Journal.drop_at_limit clock hs]
        exact iff_of_false (by omega) fun h => h.2 rfl
  · rw [Journal.append_of_room h clock hr]
    simp [hr, Journal.store_ne]

theorem examineBoth_consumer (p : Port) (s : State) :
    (examineBoth s).journal.consumer p =
      { s.journal.consumer p with highMark := (s.journal.consumer p).highMark || s.journal.reaches p } := by
  have h := examineBoth_highMark p s
  have hj := congrArg State.journal (examineBoth_frame s)
  cases p
  · exact (congrArg Journal.bus hj).trans (by rw [← h]; rfl)
  · exact (congrArg Journal.link hj).trans (by rw [← h]; rfl)

theorem examineBoth_points (s : State) :
    (examineBoth s).journal.entries = s.journal.entries ∧ (examineBoth s).journal.writePoint = s.journal.writePoint ∧
      (examineBoth s).journal.freePoint = s.journal.freePoint := by
  rw [examineBoth_frame]
  exact ⟨rfl, rfl, rfl⟩

/-- The thresholds at an append of a started part: what stands of a port's consumer and of its event summary. -/
theorem appendEntry_thresholds {s : State} (hr : running s = true) (hj : JournalLaw s.journal) (body : EntryBody) (p : Port)
    {j : Journal} (hjj : j = s.journal.append s.time.clock body) (t : State) (ht : t = appendEntry body s) :
    ((if (j.consumer p).highMark = false ∧ 0 < (j.consumer p).threshold ∧ (j.consumer p).threshold ≤ j.unread (j.consumer p) ∧
          ¬ (65536 < body.length + 8 + s.journal.occupied ∧ s.journal.openGap = true) ∧ j ≠ s.journal then
        t.journal.consumer p = { j.consumer p with highMark := true } ∧
          (t.portState p).eventSummary = (s.portState p).eventSummary ||| 1
      else t.journal.consumer p = j.consumer p ∧ (t.portState p).eventSummary = (s.portState p).eventSummary)) ∧
      (t.portState p).channelSummary = (s.portState p).channelSummary ∧ t.journal.entries = j.entries ∧
      t.journal.writePoint = j.writePoint ∧ t.journal.freePoint = j.freePoint := by
  have hstores := stores_iff hj s.time.clock body
  rw [← hjj] at hstores
  have happ : appendEntry body s =
      if s.journal.stores body = true then examineBoth (s.setJournal j) else s.setJournal j := by
    rw [appendEntry, hr, Bool.and_true, ← hjj]
  rw [happ] at ht
  have hreach : j.reaches p = true ↔
      (j.consumer p).highMark = false ∧ 0 < (j.consumer p).threshold ∧ (j.consumer p).threshold ≤ j.unread (j.consumer p) :=
    reaches_iff (s.setJournal j) p
  by_cases hst : s.journal.stores body = true
  · rw [if_pos hst] at ht
    have hcons : t.journal.consumer p =
        { j.consumer p with highMark := (j.consumer p).highMark || j.reaches p } := ht ▸ examineBoth_consumer p (s.setJournal j)
    have hport : t.portState p =
        if j.reaches p = true then (s.portState p).note .eventWord Cause.journalHigh.bit else s.portState p :=
      ht ▸ examineBoth_portState p (s.setJournal j)
    have hpoints := ht ▸ examineBoth_points (s.setJournal j)
    refine ⟨?_, ?_, hpoints⟩
    · by_cases hreached : j.reaches p = true
      · obtain ⟨hmark, hpos, hle⟩ := hreach.mp hreached
        rw [if_pos ⟨hmark, hpos, hle, hstores.mp hst⟩, hcons, hport, if_pos hreached, hreached, Bool.or_true,
          PortState.note_event_eventSummary]
        exact ⟨rfl, rfl⟩
      · rw [if_neg fun h => hreached (hreach.mpr ⟨h.1, h.2.1, h.2.2.1⟩), hcons, hport, if_neg hreached,
          Bool.not_eq_true _ |>.mp hreached, Bool.or_false]
        exact ⟨rfl, rfl⟩
    · rw [hport]
      split
      · exact PortState.note_event_channelSummary ..
      · rfl
  · rw [if_neg hst] at ht
    subst ht
    rw [if_neg fun h => hst (hstores.mpr h.2.2.2)]
    exact ⟨⟨rfl, rfl⟩, rfl, rfl, rfl, rfl⟩

/-- Settles O49. -/
theorem appendStoresOrDrops : Obligations.AppendStoresOrDrops := by
  refine ⟨fun j clock body hj hen hb => ⟨_, rfl, ?_, fun hroom => ?_, fun hfull => ⟨fun hs hg => ?_, fun hs hg => ?_, fun hs => ?_⟩⟩,
    fun s body p hr hj => ⟨_, _, _, rfl, rfl, rfl, Journal.append_highMark .., ?_⟩⟩
  · exact (hj.append_risen hen clock hb).imp id fun ⟨es, gap, h⟩ => ⟨es, gap, h⟩
  · rw [Journal.append_of_room hj clock hroom, hj.store_eq hen (EntryBody.isPlain.covers hb _)]
    exact ⟨rfl, rfl⟩
  · rw [Journal.append_of_full hj clock hfull, Journal.drop_open clock hs hg, hj.raise_eq hen hg]
    obtain ⟨front, e, n, hes, hn, hraised⟩ := raiseNewest_of_gap (hj.gap hg)
    exact ⟨rfl, front, e, n, hes, hn, hraised⟩
  · rw [Journal.append_of_full hj clock hfull, Journal.drop_shut clock hs hg, hj.store_eq hen rfl]
    exact ⟨rfl, rfl⟩
  · rw [Journal.append_of_full hj clock hfull, Journal.drop_at_limit clock hs]
  · obtain ⟨hmarks, hchannel, hentries, hw, hf⟩ := appendEntry_thresholds hr hj body p rfl _ rfl
    exact ⟨hmarks, hchannel, hentries, hw, hf, sameButLog.appendEntry body s⟩

end Sys2Proof.Machine
end

section
/-! PROOFS. The lane commands (R44, R45): a lane's configuration replaced, and its image. -/

namespace Sys2Proof.Machine

/-! ## The named values as their codes -/

theorem laneModeCode_laneModeOf {n : Nat} (h : n ≤ 3) : laneModeCode (laneModeOf n) = n := by
  interval_cases n <;> rfl

theorem sensorCode_sensorOf {n : Nat} (h : n ≤ 2) : sensorCode (sensorOf n) = n := by
  interval_cases n <;> rfl

theorem passbackCode_passbackOf {n : Nat} (h : n ≤ 2) : passbackCode (passbackOf n) = n := by
  interval_cases n <;> rfl

theorem failStateCode_failStateOf {n : Nat} (h : n ≤ 1) : failStateCode (failStateOf n) = n := by
  interval_cases n <;> rfl

/-- The packed word reads back but for bits 11–15 (log 39). -/
theorem alarmWord_laneConfigOf (mode sensor release held passback failState alarm : Word) :
    alarmWord (laneConfigOf mode sensor release held passback failState alarm) = alarm &&& 0x7FF := by
  apply BitVec.eq_of_toNat_eq
  have hmask : (alarm &&& 0x7FF).toNat = alarm.toNat % 2048 := by
    rw [BitVec.toNat_and]
    exact Nat.and_two_pow_sub_one_eq_mod alarm.toNat 11
  have hpattern : (laneConfigOf mode sensor release held passback failState alarm).alarmPattern.val = alarm.toNat / 256 % 8 := rfl
  have hlow : (laneConfigOf mode sensor release held passback failState alarm).alarmZones.toNat = alarm.toNat % 256 :=
    BitVec.toNat_ofNat ..
  rw [hmask, alarmWord, hlow, hpattern, word_toNat (by omega)]
  omega

/-- A configuration reads back as WRITE LANE's words (R44, R45). -/
theorem laneConfigWords_laneConfigOf (l : Lane) {mode sensor release held passback failState alarm : Word} (hm : mode.toNat ≤ 3)
    (hs : sensor.toNat ≤ 2) (hp : passback.toNat ≤ 2) (hf : failState.toNat ≤ 1) :
    laneConfigWords l (laneConfigOf mode sensor release held passback failState alarm) =
      [word l.val, mode, sensor, release, held, passback, failState, alarm &&& 0x7FF] := by
  rw [laneConfigWords, alarmWord_laneConfigOf]
  simp only [laneConfigOf, laneModeCode_laneModeOf hm, sensorCode_sensorOf hs, passbackCode_passbackOf hp,
    failStateCode_failStateOf hf, word_toNat_self]

/-! ## A changed sensor (R124) -/

/-- What a change of the sensor of lane l from a to b leaves of gate and bells. -/
structure SensorAdapted (l : Lane) (a b : Sensor) (s t : State) : Prop where
  gate : sameGateBut l s t
  leaves : a = .contact ∧ b ≠ .contact ∧ (s.door l).status = .passing →
    t.door l = { s.door l with status := .locked, release := 0, heldCount := 0, heldBell := false } ∧ heldAlarmEnded l s t
  stays : ¬ (a = .contact ∧ b ≠ .contact ∧ (s.door l).status = .passing) →
    t.door l =
      { s.door l with
        contactOpen := if a ≠ .contact ∧ b = .contact then vget s.pins.contactOpen l else (s.door l).contactOpen } ∧
      t.bells = s.bells
  frame : t = { s with gate := t.gate, bells := { s.bells with zones := t.bells.zones } }

theorem adaptSensor_adapted (l : Lane) (a b : Sensor) (s : State) : SensorAdapted l a b s (adaptSensor l a b s) := by
  unfold adaptSensor
  by_cases h1 : a = .contact ∧ b ≠ .contact ∧ (s.door l).status = .passing
  · rw [if_pos h1]
    refine ⟨restDoor_sameGateBut .., fun _ => ⟨?_, restDoor_bells ..⟩, fun h => absurd h1 h, ?_⟩
    · rw [restDoor_door, if_pos rfl]
    · rw [← restDoor_bells_zones]
      exact restDoor_frame ..
  · rw [if_neg h1]
    by_cases h2 : a ≠ .contact ∧ b = .contact
    · rw [if_pos h2]
      refine ⟨setDoor_sameGateBut .., fun h => absurd h h1, fun _ => ⟨?_, rfl⟩, rfl⟩
      rw [door_setDoor, if_pos rfl, if_pos h2]
    · rw [if_neg h2]
      refine ⟨⟨rfl, fun _ _ => rfl⟩, fun h => absurd h h1, fun _ => ⟨?_, rfl⟩, rfl⟩
      rw [if_neg h2]

/-! ## WRITE LANE (R44) -/

/-- A lane with its configuration replaced. -/
def LaneState.configured (c : LaneConfig) (old : LaneState) : LaneState :=
  { old with
    config := c
    bits := if c.mode ≠ old.config.mode ∧ (c.mode = .disabled ∨ old.config.mode = .disabled) then [] else old.bits
    gap := if c.mode ≠ old.config.mode ∧ (c.mode = .disabled ∨ old.config.mode = .disabled) then 0 else old.gap }

theorem configureLane_eq (l : Lane) (c : LaneConfig) (s : State) :
    configureLane l c s =
      adaptSensor l (s.lane l).config.sensor c.sensor (s.setLane l ((s.lane l).configured c)) := by
  unfold configureLane LaneState.configured
  simp only [Bool.and_eq_true, Bool.or_eq_true, decide_eq_true_eq, ne_comm (a := (s.lane l).config.mode)]

theorem configureLane_lane (l m : Lane) (c : LaneConfig) (s : State) :
    (configureLane l c s).lane m = if m = l then (s.lane l).configured c else s.lane m := by
  rw [configureLane_eq, (adaptSensor_adapted ..).frame]
  exact lane_setLane ..

theorem laneOperands_ok {l : Lane} {mode sensor release held passback failState alarm : Word} (hm : mode.toNat ≤ 3)
    (hs : sensor.toNat ≤ 2) (hr : 1 ≤ release.toNat) (hr' : release.toNat ≤ 255) (hh : 1 ≤ held.toNat) (hh' : held.toNat ≤ 255)
    (hp : passback.toNat ≤ 2) (hf : failState.toNat ≤ 1) (ha : (alarm.toNat / 256) % 8 ≠ 7) :
    badLaneOperands (word l.val) mode sensor release held passback failState alarm = none := by
  have hr0 : release ≠ 0 := by bv_omega
  have hh0 : held ≠ 0 := by bv_omega
  refine firstBad_none.mpr ?_
  simp only [List.mem_cons, List.not_mem_nil, or_false, forall_eq_or_imp, forall_eq, Bool.or_eq_false_iff,
    decide_eq_false_iff_not, Nat.not_lt, lane_toNat]
  exact ⟨by omega, hm, hs, ⟨hr0, hr'⟩, ⟨hh0, hh'⟩, hp, hf, ha⟩

theorem cmdWriteLane_bad {lane mode sensor release held passback failState alarm : Word} {n : Nat}
    (h : firstOut
      [lane.toNat ≤ 3, mode.toNat ≤ 3, sensor.toNat ≤ 2, 1 ≤ release.toNat ∧ release.toNat ≤ 255,
       1 ≤ held.toNat ∧ held.toNat ≤ 255, passback.toNat ≤ 2, failState.toNat ≤ 1, (alarm.toNat / 256) % 8 ≠ 7] n) (s : State) :
    cmdWriteLane lane mode sensor release held passback failState alarm s = (s, .badOperand n) := by
  have hzero (w : Word) : 1 ≤ w.toNat ∧ w.toNat ≤ 255 ↔ ¬ w = 0 ∧ w.toNat ≤ 255 := by
    rw [← BitVec.toNat_inj, Nat.one_le_iff_ne_zero]
    rfl
  rw [cmdWriteLane, badLaneOperands, firstBad_of_firstOut (by simp [hzero]) h]

/-! ## READ LANE (R45) -/

theorem passageKindWord_eq (p : PendingPassage) :
    passageKindWord p =
      word (punchKindCode p.kind + 32 * directionCode p.direction + (if p.softPassback = true then 128 else 0) +
        (if p.shiftDay = none then 0 else 256)) := by
  have hsoft : 128 * bit p.softPassback = if p.softPassback = true then 128 else 0 := by cases p.softPassback <;> rfl
  have hday : 256 * bit p.shiftDay.isSome = if p.shiftDay = none then 0 else 256 := by cases p.shiftDay <;> rfl
  rw [passageKindWord, hsoft, hday]

theorem passageWords_some (p : PendingPassage) : passageWords (some p) = p.words := by
  rw [passageWords, passageKindWord_eq]
  unfold PendingPassage.words
  cases p.shiftDay with
  | none => rw [show ([0, 0] : List Word) = [word 0, word 0] from by decide]; rfl
  | some sd => rfl

theorem waitingWords_some (w : BadgeRead) : waitingWords (some w) = w.words := by
  have hflag : flagWord w.untimed = if w.untimed = true then 1 else 0 := by cases w.untimed <;> rfl
  rw [waitingWords, hflag]
  rfl

theorem laneContextWord_eq (l : LaneState) :
    laneContextWord l = word ((if l.pending = none then 0 else 3) + (if l.waiting = none then 0 else 4)) := by
  unfold laneContextWord bit
  cases l.pending <;> cases l.waiting <;> rfl

/-- Settles O21. -/
theorem laneConfiguration : Obligations.LaneConfiguration := by
  refine ⟨fun s lane mode sensor release held passback failState alarm buf ho => ⟨fun n hn => ?_, fun hl => ?_, fun hl r hr => ?_⟩,
    fun s l ho => ⟨fun mode sensor release held passback failState alarm hm hs hr hr' hh hh' hp hf ha =>
      ⟨fun hbusy => ?_, fun hidle => ?_⟩, fun buf hfit => ?_⟩⟩
  · exact next_of_cmd ho (cmdWriteLane_bad hn s)
  · refine next_of_cmd_no_words ho buf (r := .badOperand 0) ?_ rfl
    rw [cmdReadLane, firstBad_single_some (decide_eq_true hl)]
  · refine next_of_cmd_no_words ho buf (r := .refuse r) ?_ rfl
    rw [cmdReadLane, firstBad_none.mpr (by simpa using hl)]
    simp only [(checkBuffer_some ..).mpr hr]
  · refine next_of_cmd ho ?_
    simp only [cmdWriteLane, laneOperands_ok hm hs hr hr' hh hh' hp hf ha, finOf_lane, Option.isSome_iff_ne_none.mpr hbusy, if_true]
  · have hc : cmdWriteLane (word l.val) mode sensor release held passback failState alarm s =
        (configureLane l (laneConfigOf mode sensor release held passback failState alarm) s, .done []) := by
      simp only [cmdWriteLane, laneOperands_ok hm hs hr hr' hh hh' hp hf ha, finOf_lane, hidle, Option.isSome_none,
        Bool.false_eq_true, if_false]
    have hwords := laneConfigWords_laneConfigOf l (release := release) (held := held) (alarm := alarm) hm hs hp hf
    generalize laneConfigOf mode sensor release held passback failState alarm = c at hc hwords
    have hlane := configureLane_lane l l c s
    rw [if_pos rfl] at hlane
    have hothers (m : Lane) (hne : m ≠ l) := (configureLane_lane l m c s).trans (if_neg hne)
    have hadapted := adaptSensor_adapted l (s.lane l).config.sensor c.sensor (s.setLane l ((s.lane l).configured c))
    rw [← configureLane_eq] at hadapted
    obtain ⟨hgate, hleaves, hstays, hframe⟩ := hadapted
    have hexec := next_of_cmd ho hc
    generalize configureLane l c s = u at *
    obtain ⟨t, ht⟩ : ∃ t, t = u.answering (.done []) := ⟨_, rfl⟩
    have hlane : t.lane l = (s.lane l).configured c := ht ▸ hlane
    have hgate : sameGateBut l s t := ht ▸ hgate
    have hconfig : (t.lane l).config = c := by rw [hlane]; rfl
    have hleaves : (s.lane l).config.sensor = .contact ∧ c.sensor ≠ .contact ∧ (s.door l).status = .passing →
        t.door l = { s.door l with status := .locked, release := 0, heldCount := 0, heldBell := false } ∧
          heldAlarmEnded l s t := ht ▸ hleaves
    have hstays : ¬ ((s.lane l).config.sensor = .contact ∧ c.sensor ≠ .contact ∧ (s.door l).status = .passing) →
        t.door l =
          { s.door l with
            contactOpen :=
              if (s.lane l).config.sensor ≠ .contact ∧ c.sensor = .contact then vget s.pins.contactOpen l
              else (s.door l).contactOpen } ∧
          t.bells = s.bells := ht ▸ hstays
    refine ⟨t, ht ▸ hexec, ?_⟩
    rw [hconfig]
    refine ⟨hwords, congrArg LaneState.bits hlane, ?_, congrArg LaneState.gap hlane, by rw [hlane]; rfl,
      (congrArg LaneState.pending hlane).trans hidle, by rw [hlane]; rfl, ht ▸ hothers, hgate, ?_, fun h1 h2 => ?_, ?_, ?_⟩
    · conv_lhs => rw [hlane]
      rw [hlane]
      rfl
    · split
      · next h => exact congrArg Door.status (hleaves h).1
      · next h => rw [(hstays h).1]
    · have h := (hstays fun h => h1 h.1).1
      rwa [if_pos ⟨h1, h2⟩] at h
    · split
      · next h => exact hleaves h
      · next h => exact hstays h
    · have hlanes : u.lanes = vset s.lanes l ((s.lane l).configured c) := congrArg State.lanes hframe
      rw [ht]
      conv_lhs => rw [hframe]
      change _ = State.answering { s with lanes := u.lanes, gate := u.gate, bells := { s.bells with zones := u.bells.zones } } _
      rw [hlanes]
      rfl
  · have hc : cmdReadLane (word l.val) buf s = (s, .doneOut (laneImage l s) [word l.val]) := by
      simp only [cmdReadLane, lane_range, (checkBuffer_none ..).mpr hfit, finOf_lane]
    refine (next_of_cmd_buffer ho buf hc).trans
      (congrArg (fun words => (.next (s.writing buf (.doneOut words [word l.val])) : Host.Outcome State Fault Refusal)) ?_)
    rw [laneImage, laneContextWord_eq]
    congr 1
    · congr 1
      cases (s.lane l).pending with
      | none => rfl
      | some p => exact passageWords_some p
    · cases (s.lane l).waiting with
      | none => rfl
      | some w => exact waitingWords_some w

end Sys2Proof.Machine
end

section
/-! PROOFS. The figures of a closing, each by its own rule (R90–R98). -/

namespace Sys2Proof.Machine

/-! ## Effective times (R90, R91) -/

/-- A time rounded down to whole units after a start. -/
theorem roundDown_spec {u : Nat} (hu : 0 < u) (start t : Int) :
    start + (t - start) / u * u ≤ t ∧ t < start + (t - start) / u * u + u ∧ (u : Int) ∣ start + (t - start) / u * u - start := by
  have hpos : (0 : Int) < u := by omega
  have hdiv := Int.mul_ediv_add_emod (t - start) u
  have hlow := Int.emod_nonneg (t - start) hpos.ne'
  have hhigh := Int.emod_lt_of_pos (t - start) hpos
  refine ⟨by linarith, by linarith, ?_⟩
  rw [add_sub_cancel_left]
  exact Int.dvd_mul_left ..

theorem effectiveIn_of_in_grace {sh : ShiftDef} {start t : Int} (h : t ≤ start + sh.graceIn) : effectiveIn sh start t = start := if_pos h

/-- A late in is rounded up to whole units after the start (R90). -/
theorem effectiveIn_of_late {sh : ShiftDef} (hu : 0 < sh.unit) {start t : Int} (h : start + sh.graceIn < t) :
    t ≤ effectiveIn sh start t ∧ effectiveIn sh start t < t + sh.unit ∧ (sh.unit : Int) ∣ effectiveIn sh start t - start := by
  have hin : effectiveIn sh start t = start + (t + sh.unit - 1 - start) / sh.unit * sh.unit := by
    rw [effectiveIn, if_neg (not_le.mpr h), show t - start + sh.unit - 1 = t + sh.unit - 1 - start by ring]
  obtain ⟨hle, hlt, hdvd⟩ := roundDown_spec hu start (t + sh.unit - 1)
  rw [hin]
  exact ⟨by omega, by omega, hdvd⟩

theorem effectiveOut_of_in_grace {sh : ShiftDef} (start : Int) {finish t : Int} (h1 : finish ≤ t + sh.graceOut)
    (h2 : t ≤ finish + sh.graceOut) : effectiveOut sh start finish t = finish := if_pos ⟨by omega, h2⟩

/-- An early out is rounded down to whole units after the start (R91). -/
theorem effectiveOut_of_early {sh : ShiftDef} (start : Int) {finish t : Int} (h : t + sh.graceOut < finish) :
    effectiveOut sh start finish t = start + (t - start) / sh.unit * sh.unit := by
  rw [effectiveOut, if_neg (by omega), if_pos (by omega)]

/-- A late out is rounded down to whole units after the end (R91). -/
theorem effectiveOut_of_late {sh : ShiftDef} (start : Int) {finish t : Int} (h : finish + sh.graceOut < t) :
    effectiveOut sh start finish t = finish + (t - finish) / sh.unit * sh.unit := by
  rw [effectiveOut, if_neg (by omega), if_neg (by omega)]

/-! ## Span, night and pay (R92–R96) -/

theorem spanOf_eq_held (ein eout : Int) : (spanOf ein eout : Int) = max 0 (min 960 (eout - ein)) := by
  rw [spanOf, Config.spanCap]
  omega

theorem nightOf_le_paid (sh : ShiftDef) (ein : Int) (span paid : Nat) : nightOf sh ein span paid ≤ paid := by
  unfold nightOf
  dsimp only
  split
  · exact Nat.zero_le _
  · exact Nat.min_le_right ..

/-- The pay is the cents of N eighths, minutes and hours reckoned, rounded to the nearest (R96). -/
theorem payOf_spec (c : PayClass) (h regular overtime night N : Nat)
    (hN : N = h * regular * c.base + c.overtime * overtime * c.base + 8 * night * c.night) :
    480 * payOf c h regular overtime night ≤ N + 240 ∧ N + 240 < 480 * (payOf c h regular overtime night + 1) := by
  rw [payOf, ← hN]
  omega

/-! ## Totals (R98) -/

theorem Totals.addClosing_saturated (o : Totals) (f : Figures) {marks : Nat}
    (hmarks : marks = (if f.missedOut = true then 1 else 0) + (if f.capped = true then 1 else 0)) :
    (o.addClosing f).saturated = true ↔
      o.saturated = true ∨ 65535 < o.regular + f.regular ∨ 65535 < o.overtime + f.overtime ∨ 65535 < o.night + f.night ∨
        65535 < o.holiday + f.holidayMinutes ∨ 4294967295 < o.pay + f.pay ∨ 65535 < o.closed + 1 ∨
        65535 < o.exceptions + marks := by
  have hbits : bit f.missedOut + bit f.capped = marks := hmarks.symm
  simp only [Totals.addClosing, hbits, Bool.or_eq_true, decide_eq_true_eq, or_assoc]
  rfl

/-- Settles O42. -/
theorem closingFigures_hold : Obligations.ClosingFigures := by
  refine ⟨fun sh c holidays period sc tIn tOut f hu hf => ?_, fun pt k e tOut he => by rw [closingFigures, he]; rfl,
    fun pt k e sc tOut he => by rw [closingFigures, he]; rfl, fun o f => ⟨_, _, rfl, rfl, rfl, rfl, rfl, rfl, rfl, rfl, rfl, rfl,
      Totals.addClosing_saturated o f rfl⟩⟩
  have hein : f.ein = effectiveIn sh sc.startMinute tIn := congrArg Figures.ein hf
  have heout (t : Nat) (ht : tOut = some t) : f.eout = effectiveOut sh sc.startMinute sc.endMinute t := by rw [hf, ht]; rfl
  have hmissed : f.missedOut = tOut.isNone := congrArg Figures.missedOut hf
  refine ⟨fun h => ?_, fun h => ?_, fun h => ?_, fun t ht => ⟨?_, fun h1 h2 => ?_, fun h => ?_, fun h => ?_⟩, ?_, ?_, ?_, ?_, ?_⟩
  · rw [hein, effectiveIn_of_in_grace (by omega)]
  · rw [hein]
    exact effectiveIn_of_late hu (by omega)
  · rw [hf, h]
    exact ⟨rfl, rfl⟩
  · obtain rfl : tOut = some t := ht
    exact hmissed
  · obtain rfl : tOut = some t := ht
    rw [heout t rfl]
    exact effectiveOut_of_in_grace _ (by omega) (by omega)
  · obtain rfl : tOut = some t := ht
    have hout : f.eout = sc.startMinute + (t - sc.startMinute) / sh.unit * sh.unit := (heout t rfl).trans (effectiveOut_of_early _ (by omega))
    rw [hout]
    exact roundDown_spec hu ..
  · obtain rfl : tOut = some t := ht
    have hout : f.eout = sc.endMinute + (t - sc.endMinute) / sh.unit * sh.unit := (heout t rfl).trans (effectiveOut_of_late _ (by omega))
    rw [hout]
    exact roundDown_spec hu ..
  · rw [hf]
    exact decide_eq_true_iff
  · rw [hf]
    exact List.contains_iff_mem
  · rw [hf]; rfl
  · rw [hf]; rfl
  · have hpay : f.pay = payOf c (if f.holiday = true then c.holiday else 8) f.regular f.overtime f.night := by rw [hf]; rfl
    refine ⟨spanOf f.ein f.eout, paidOf sh (spanOf f.ein f.eout), _, spanOf_eq_held .., rfl, ?_, ?_, ?_, ?_, rfl, ?_⟩
    · rw [hf]; rfl
    · have hregular : f.regular = min (paidOf sh (spanOf f.ein f.eout)) sh.overtimeThreshold := by rw [hf]; rfl
      have hovertime : f.overtime = paidOf sh (spanOf f.ein f.eout) - f.regular := by rw [hf]; rfl
      omega
    · have hnight : f.night = nightOf sh f.ein (spanOf f.ein f.eout) (paidOf sh (spanOf f.ein f.eout)) := by rw [hf]; rfl
      rw [hnight]
      exact nightOf_le_paid ..
    · rw [hf]; rfl
    · rw [hpay]
      exact payOf_spec _ _ _ _ _ _ rfl

end Sys2Proof.Machine
end

section
/-! PROOFS. Port accesses: the control page as a port reads it (R169, R165), and what a granted access does (R170). -/

namespace Sys2Proof.Machine

/-! ## The control page, word by word (TABLE 11-2) -/

theorem seqWords_eq (q : Seq) : seqWords q = [q.extractLsb' 16 16, q.extractLsb' 0 16] := by
  have hhigh : word (q.toNat / 65536) = q.extractLsb' 16 16 := by
    rw [word, BitVec.extractLsb', Nat.shiftRight_eq_div_pow]
  have hlow : word q.toNat = q.extractLsb' 0 16 := by
    rw [word, BitVec.extractLsb', Nat.shiftRight_zero]
  rw [seqWords, twoWords, hhigh, hlow]

theorem headWords_eq (s : State) : headWords s = (List.range 32).map s.pageWord := by
  have hself : word (selfTestCode s.time.selfTest) = s.pageWord 0x10 := by
    simp only [State.pageWord]
    cases s.time.selfTest <;> rfl
  simp only [headWords, journalControlWords, seqWords_eq, hself]
  rfl

theorem channelFaultWord_eq (f : ChannelFault) :
    word (channelFaultCode f) = match f with
      | .none => 0
      | .badPointer => 1
      | .chainLimit => 2 := by cases f <;> rfl

theorem channelCells_eq (s : State) : channelCells s = (List.range' 32 24).map s.pageWord := by
  have hfault (c : Channel) : word (channelFaultCode (s.channel c).fault) = s.pageWord (0x28 + c.val) := by
    fin_cases c <;> exact channelFaultWord_eq _
  simp only [channelCells, hfault]
  rfl

theorem pageWord_above {s : State} {n : Nat} (h : 0x47 ≤ n) : s.pageWord n = 0 := by
  unfold State.pageWord
  repeat rw [if_neg (by omega)]

theorem controlWords_eq (s : State) : controlWords s = (List.range 71).map s.pageWord := by
  rw [controlWords, headWords_eq, channelCells_eq]
  rfl

/-- A word of the control page as a port reads it. -/
theorem controlWords_getD (s : State) (n : Nat) : (controlWords s).getD n 0 = s.pageWord n := by
  rw [controlWords_eq]
  rcases Nat.lt_or_ge n 71 with h | h
  · simp [h]
  · rw [pageWord_above h]
    exact List.getD_eq_default _ _ (by simpa using h)

theorem pageWord_request (s : State) (c : Channel) : s.pageWord (0x20 + c.val) = (s.channel c).request := by
  fin_cases c <;> rfl

theorem pageWord_pointer (s : State) (c : Channel) : s.pageWord (0x30 + c.val) = (s.channel c).pointer := by
  fin_cases c <;> rfl

/-! ## A port's access granted (R170) -/

/-- The state once a port has its access. -/
def State.granted (s : State) (w : Port) : State :=
  { s with control := { s.control with arbiter := if w = .bus then .bus else .link } }

theorem access_port (w : Port) (s : State) : access (Port.requester w) s = s.granted w := by
  unfold access
  cases w <;> cases s.control.arbiter <;> rfl

theorem portAccess_granted {s : State} (h : s.time.power = .mainsRun) (w : Port) (effect : State → State) :
    portAccess w effect s = effect (s.granted w) := by
  rw [portAccess, if_pos h, access_port]

/-! ## Words read by a port (R18, R169) -/

theorem portRead_control {a : BitVec 13} (h : a.toNat < 0x100) (s : State) : portRead a s = (s.pageWord a.toNat, s) := by
  rw [← controlWords_getD]
  exact if_pos h

theorem portRead_page {a : BitVec 13} (h : 0x100 ≤ a.toNat) (s : State) :
    portRead a s =
      match s.time.selfTest with
      | .passed => (memRead s.memory a.toNat, s)
      | .failed => (Config.failedPageRead s.freeCount, s.setFreeCount (s.freeCount + 1))
      | .notTested => (0, s)
      | .testing => (0, s) := if_neg (Nat.not_lt.mpr h)

theorem portRead_state {a : BitVec 13} {s : State} (h : s.time.selfTest ≠ .failed) : (portRead a s).2 = s := by
  rcases Nat.lt_or_ge a.toNat 0x100 with ha | ha
  · rw [portRead_control ha]
  · rw [portRead_page ha]
    cases hs : s.time.selfTest with
    | failed => exact absurd hs h
    | notTested => rfl
    | testing => rfl
    | passed => rfl

theorem pageWord_granted (s : State) (w : Port) (n : Nat) : (s.granted w).pageWord n = s.pageWord n := rfl

theorem portFetch_eq (w : Port) (a : BitVec 13) (s : State) : portFetch w a s = portRead a (s.granted w) := by
  rw [portFetch, access_port]

/-- The word a port reads does not depend on who was granted. -/
theorem portRead_granted_word (w : Port) (a : BitVec 13) (s : State) : (portRead a (s.granted w)).1 = (portRead a s).1 := by
  rcases Nat.lt_or_ge a.toNat 0x100 with ha | ha
  · rw [portRead_control ha, portRead_control ha, pageWord_granted]
  · rw [portRead_page ha, portRead_page ha]
    have hs : (s.granted w).time.selfTest = s.time.selfTest := rfl
    rw [hs]
    cases s.time.selfTest <;> rfl

/-! ## Notices of a set of ports (R181, R182) -/

theorem noticeSet_portState (ps : PortSet) (which : SummaryWord) (n : Nat) (p : Port) (s : State) :
    (noticeSet ps which n s).portState p = if ps.names p = true then (s.portState p).note which n else s.portState p := by
  unfold noticeSet notice
  cases p <;> cases hb : ps.names .bus <;> cases hl : ps.names .link <;> rfl

theorem noticeSet_frame (ps : PortSet) (which : SummaryWord) (n : Nat) (s : State) :
    noticeSet ps which n s =
      { s with
        control :=
          { s.control with bus := (noticeSet ps which n s).control.bus, link := (noticeSet ps which n s).control.link } } := by
  unfold noticeSet notice
  cases ps.names .bus <;> cases ps.names .link <;> rfl

theorem noticeSet_channel (ps : PortSet) (which : SummaryWord) (n : Nat) (c : Channel) (s : State) :
    (noticeSet ps which n s).channel c = s.channel c := by
  rw [noticeSet_frame]
  rfl

/-- A bit of the channel word set (R181): an armed port gives its pulse. -/
theorem PortState.note_channel (p : PortState) (n : Nat) :
    p.note .channelWord n =
      if p.channelSummary.getLsbD n = true then p
      else
        { channelSummary := p.channelSummary ||| (1 <<< n), eventSummary := p.eventSummary, armed := false
          pulses := p.pulses + if p.armed = true then 1 else 0 } := by
  obtain ⟨ch, ev, armed, pulses⟩ := p
  cases armed <;> rfl

end Sys2Proof.Machine
end

section
/-! PROOFS. Port writes by the word they name (R169, R175, R176, R181, R182), and the bus port's cycles (R171). -/

namespace Sys2Proof.Machine

/-! ## Writes of the words with a behaviour of their own -/

theorem writeRequestCell_one (w : Port) (c : Channel) (s : State) : writeRequestCell w c 1 s = takeRequest w c s := if_pos rfl

theorem takeRequest_untested {s : State} (h : s.time.selfTest ≠ .passed) (w : Port) (c : Channel) :
    takeRequest w c s = s.setChannel c { s.channel c with request := 0xFE } := if_pos h

theorem takeRequest_full {s : State} (h : s.time.selfTest = .passed) {c : Channel} (hq : 4 ≤ (s.channel c).queue.length) (w : Port) :
    takeRequest w c s = s.setChannel c { s.channel c with request := 0xFF } := by
  rw [takeRequest]
  simp only [h, ne_eq, not_true_eq_false, if_false, if_pos hq]

/-- A channel with a request taken into its queue. -/
def ChannelState.requested (ch : ChannelState) (w : Port) : ChannelState :=
  { ch with request := 0, queue := ch.queue ++ [⟨ch.pointer, w⟩] }

theorem takeRequest_taken {s : State} (h : s.time.selfTest = .passed) {c : Channel} (hq : (s.channel c).queue.length < 4) (w : Port) :
    takeRequest w c s =
      noticeSet (s.channel c).ackPorts .channelWord c.val (s.setChannel c ((s.channel c).requested w)) := by
  rw [takeRequest]
  simp only [h, ne_eq, not_true_eq_false, if_false, if_neg (Nat.not_le.mpr hq)]
  rfl

theorem PortState.rearm_eq (p : PortState) :
    p.rearm =
      if p.channelSummary = 0 ∧ p.eventSummary = 0 then { p with armed := true }
      else { p with armed := false, pulses := p.pulses + 1 } := by
  unfold PortState.rearm PortState.pendingNotice
  by_cases h : p.channelSummary = 0 ∧ p.eventSummary = 0
  · simp [h]
  · rw [if_neg h, if_pos (by simpa using not_and_or.mp h)]

/-! ## Where a written word goes (TABLE 10-1) -/

theorem writeTarget_storage {a : BitVec 13} (h : 0x100 ≤ a.toNat) : writeTarget a = .storage := if_pos h

theorem writeTarget_pointer {a : BitVec 13} {c : Channel} (h : a.toNat = 0x30 + c.val) : writeTarget a = .pointer c := by
  unfold writeTarget
  rw [h]
  fin_cases c <;> rfl

theorem writeTarget_request {a : BitVec 13} {c : Channel} (h : a.toNat = 0x20 + c.val) : writeTarget a = .request c := by
  unfold writeTarget
  rw [h]
  fin_cases c <;> rfl

theorem writeTarget_ignored {a : BitVec 13} (hown : ownBehaviour a = false) (h : a.toNat < 0x100)
    (hp : ∀ c : Channel, a.toNat ≠ 0x30 + c.val) : writeTarget a = .ignored := by
  have hpointer : ¬ (0x30 ≤ a.toNat ∧ a.toNat < 0x38) := fun hr => hp ⟨a.toNat - 0x30, by omega⟩ (by simp; omega)
  simp only [ownBehaviour, Bool.or_eq_false_iff, Bool.and_eq_false_iff, decide_eq_false_iff_not, List.contains_eq_mem,
    List.mem_cons, List.not_mem_nil, or_false, not_or] at hown
  obtain ⟨hrange, h40, h41, h42, h44, h45, h46⟩ := hown
  have hpage : ¬ Config.firstPageWord ≤ a.toNat := Nat.not_le.mpr h
  unfold writeTarget
  dsimp only
  rw [if_neg hpage, if_neg (by omega), if_neg (by omega), if_neg (by omega), if_neg h40, if_neg h41, if_neg h42, if_neg h44,
    if_neg h45, if_neg h46]

theorem writeStorage_tested {a : BitVec 13} {s : State} (h : s.time.selfTest = .passed ∨ s.time.selfTest = .failed) (v : Word) :
    writeStorage a v s = s.setMemory (memWrite s.memory a.toNat v) := by
  unfold writeStorage
  rcases h with h | h <;> rw [h]

theorem writeStorage_untested {a : BitVec 13} {s : State} (h : ¬ (s.time.selfTest = .passed ∨ s.time.selfTest = .failed)) (v : Word) :
    writeStorage a v s = s := by
  unfold writeStorage
  cases hs : s.time.selfTest <;> simp_all

theorem memRead_memWrite {m : Memory} (h : Memory.wf m) {a : Nat} (h1 : 0x100 ≤ a) (h2 : a < 0x2000) (v : Word) (b : Nat) :
    memRead (memWrite m a v) b = if b = a then v else memRead m b := by
  by_cases hb : b = a
  · rw [if_pos hb, hb, memRead_memWrite_self m a v h h1 h2]
  · rw [if_neg hb, memRead_memWrite_other m a b v hb]

/-- From any last grant, a requester that asks waits for at most two others (R170). -/
theorem granted_after_two (last x : Requester) (asks : Requester → Bool) (h : asks x = true) :
    ∃ g ∈ arbiterGrant last asks, g = x ∨ ∃ b ∈ arbiterGrant g asks, b = x ∨ arbiterGrant b asks = some x := by
  obtain ⟨g, hg, hx⟩ := granted_within_three last x asks h
  refine ⟨g, hg, hx.imp_right fun ⟨b, hb, hx'⟩ => ⟨b, hb, hx'.imp_right fun ⟨c, hc, hcx⟩ => ?_⟩⟩
  exact hcx ▸ hc

/-! ## The rows with mains on -/

section
variable {s : State} {w : Port}

theorem next_of_access (h : s.time.power = .mainsRun) (effect : State → State) :
    (.next (portAccess w effect s) : Host.Outcome State Fault Refusal) = .next (effect (s.granted w)) := by
  rw [portAccess_granted h]

/-- A request taken, with its acknowledge notice (R175). -/
theorem takeRequest_granted (h : s.time.selfTest = .passed) {c : Channel} (hq : (s.channel c).queue.length < 4) (t : State)
    (ht : t = takeRequest w c (s.granted w)) :
    t.channel c = (s.channel c).requested w ∧ (∀ d, d ≠ c → t.channel d = s.channel d) ∧
      (∀ p, t.portState p =
        if (s.channel c).ackPorts.names p = true ∧ (s.portState p).channelSummary.getLsbD c.val = false then
          { channelSummary := (s.portState p).channelSummary ||| (1 <<< c.val)
            eventSummary := (s.portState p).eventSummary, armed := false
            pulses := (s.portState p).pulses + if (s.portState p).armed = true then 1 else 0 }
        else s.portState p) ∧
      t = { s.granted w with
            control :=
              { (s.granted w).control with
                channels := t.control.channels, bus := t.control.bus, link := t.control.link } } := by
  rw [takeRequest_taken (s := s.granted w) h hq w] at ht
  have hchannel (d : Channel) : t.channel d = if d = c then (s.channel c).requested w else s.channel d := by
    rw [ht, noticeSet_channel]
    exact channel_setChannel ..
  have hport (p : Port) : t.portState p =
      if (s.channel c).ackPorts.names p = true then (s.portState p).note .channelWord c.val else s.portState p := by
    rw [ht, noticeSet_portState, State.portState_setChannel]
    cases p <;> rfl
  refine ⟨(hchannel c).trans (if_pos rfl), fun d hd => (hchannel d).trans (if_neg hd), fun p => ?_, ?_⟩
  · rw [hport, PortState.note_channel]
    cases (s.channel c).ackPorts.names p <;> cases (s.portState p).channelSummary.getLsbD c.val <;> simp
  · rw [ht, noticeSet_frame]
    rfl

end

/-- Settles O52. -/
theorem portWrites : Obligations.PortWrites := by
  intro s u w hpower hwf hu
  obtain rfl : u = s.granted w := hu
  refine ⟨fun c v => ⟨fun hv => ?_, fun h => ?_, fun h hq => ?_, fun h hq => ⟨takeRequest w c (s.granted w), ?_, ?_⟩, ?_⟩, fun owner v => ⟨?_, ?_, ?_⟩,
    fun a v hwell => ⟨fun ha hp => ?_, fun c hc => ?_, fun ha => ?_⟩,
    fun a v => ⟨?_, busCycle_both s a v, fun h => ?_, fun ha => ?_, fun ha h => ?_, fun ha h => ?_⟩, granted_after_two⟩
  · exact (next_of_access hpower _).trans (congrArg _ (if_neg hv))
  · exact (next_of_access hpower _).trans (congrArg _ ((writeRequestCell_one ..).trans (takeRequest_untested (s := s.granted w) h w c)))
  · exact (next_of_access hpower _).trans (congrArg _ ((writeRequestCell_one ..).trans (takeRequest_full (s := s.granted w) h hq w)))
  · exact (next_of_access hpower _).trans (congrArg _ (writeRequestCell_one ..))
  · exact takeRequest_granted h hq _ rfl
  · exact next_of_access hpower _
  · exact next_of_access hpower _
  · exact next_of_access hpower _
  · refine (next_of_access hpower _).trans ?_
    rw [writeRearmCell, PortState.rearm_eq]
    rfl
  · have hown : ownBehaviour a = false := by simpa [Instr.wellFormed] using hwell
    refine (next_of_access hpower _).trans (congrArg _ ?_)
    rw [writeWord, writeTarget_ignored hown ha hp]
  · refine (next_of_access hpower _).trans (congrArg _ ?_)
    rw [writeWord, writeTarget_pointer hc]
    rfl
  · have hexec : exec (.portWordWrite w a v) s = .next (writeStorage a v (s.granted w)) := by
      refine (next_of_access hpower _).trans (congrArg _ ?_)
      rw [writeWord, writeTarget_storage ha]
    split
    · next h =>
      rw [writeStorage_tested (s := s.granted w) h] at hexec
      exact ⟨_, hexec, fun b => memRead_memWrite hwf ha a.isLt v b, rfl⟩
    · next h => rwa [writeStorage_untested (s := s.granted w) h] at hexec
  · rw [busCycle_write hpower]
    rfl
  · rw [busCycle_read hpower, portFetch_eq, portRead_state (s := s.granted .bus) h, portRead_granted_word]
    rfl
  · rw [busCycle_read hpower, portFetch_eq, portRead_control ha]
    rfl
  · rw [busCycle_read hpower, portFetch_eq, portRead_granted_word, portRead_page ha]
    rcases h with h | h <;> rw [h]
  · rw [busCycle_read hpower, portFetch_eq, portRead_granted_word, portRead_page ha, h]

end Sys2Proof.Machine
end

section
/-! PROOFS. The link port byte by byte (R172–R174). -/

namespace Sys2Proof.Machine

/-! ## Framing (R172, R173) -/

theorem onBus_mains {s : State} (h : s.time.power = .mainsRun) (f : State → State) :
    (.next (onBus f s) : Host.Outcome State Fault Refusal) = .next (f s) := by
  rw [onBus, if_pos h]

theorem startTransfer_eq (address : BitVec 7) (read : Bool) (s : State) :
    startTransfer address read s =
      { s with
        link :=
          { s.link with
            heldHigh := none, keptLow := none, ack := decide (address = s.link.address)
            phase := if address = s.link.address then (if read = true then .reading true else .lead) else .idle } } := by
  have haddress : s.link.endTransfer.address = s.link.address := rfl
  unfold startTransfer
  dsimp only
  rw [haddress]
  by_cases h : address = s.link.address
  · simp only [if_pos h, decide_eq_true h]
    rfl
  · simp only [if_neg h, decide_eq_false h]
    rfl

theorem leadByte_eq {s : State} (h : s.link.phase = .lead) (b : Byte) :
    leadByte b s =
      { s with
        link :=
          { s.link with
            ack := true
            phase := if b.getLsbD 6 = true then .data (b.getLsbD 7) else .pointer (BitVec.ofNat 5 (b.toNat % 32)) (b.getLsbD 7) } } := by
  have hwidth : b.setWidth 5 = BitVec.ofNat 5 (b.toNat % 32) := by
    apply BitVec.eq_of_toNat_eq
    simp
  unfold leadByte leadPhase
  rw [h, hwidth]
  rfl

theorem pointerByte_pointer {s : State} {high : BitVec 5} {more : Bool} (h : s.link.phase = .pointer high more) (b : Byte) :
    pointerByte b s =
      { s with
        link :=
          { s.link with
            pointer := BitVec.ofNat 13 (high.toNat * 256 + b.toNat), heldHigh := none, keptLow := none, ack := true
            phase := if more = true then .lead else .ignore } } := by
  have hpointer : high ++ b = BitVec.ofNat 13 (high.toNat * 256 + b.toNat) := by
    have h1 := high.isLt
    have h2 := b.isLt
    apply BitVec.eq_of_toNat_eq
    rw [BitVec.toNat_append, ← Nat.shiftLeft_add_eq_or_of_lt h2, Nat.shiftLeft_eq, BitVec.toNat_ofNat, Nat.mod_eq_of_lt (by omega)]
  unfold pointerByte
  rw [h]
  dsimp only
  rw [hpointer]
  rfl

theorem pointerByte_ignore {s : State} (h : s.link.phase = .ignore) (b : Byte) :
    pointerByte b s = { s with link := { s.link with ack := true } } := by
  unfold pointerByte
  rw [h]
  rfl

theorem dataHighByte_eq {s : State} {more : Bool} (h : s.link.phase = .data more) (hh : s.link.heldHigh = none) (b : Byte) :
    dataHighByte b s =
      { s with link := { s.link with heldHigh := some b, ack := true, phase := if more = true then .lead else .data false } } := by
  unfold dataHighByte
  rw [h, hh]
  rfl

theorem nextPointer_eq (p : BitVec 13) : nextPointer p = if p = 0x1FFF then 0x1FFF else p + 1 := by
  unfold nextPointer
  split
  · assumption
  · rfl

/-! ## Words written (R173) -/

theorem writeRequestCell_link (w : Port) (c : Channel) (v : Word) (s : State) : (writeRequestCell w c v s).link = s.link := by
  unfold writeRequestCell takeRequest
  dsimp only
  split
  · split
    · rfl
    · split
      · rfl
      · exact noticeSet_link ..
  · rfl

theorem writeFaultCell_link (c : Channel) (v : Word) (s : State) : (writeFaultCell c v s).link = s.link := by
  unfold writeFaultCell
  split <;> rfl

theorem writeStorage_link (a : BitVec 13) (v : Word) (s : State) : (writeStorage a v s).link = s.link := by
  unfold writeStorage
  split <;> rfl

/-- No written word touches the framing. -/
theorem writeWord_link (w : Port) (a : BitVec 13) (v : Word) (s : State) : (writeWord w a v s).link = s.link := by
  unfold writeWord
  split
  · exact writeRequestCell_link ..
  · exact writeFaultCell_link ..
  · rfl
  · exact State.setPortState_link ..
  · exact State.setPortState_link ..
  · rfl
  · exact writeStorage_link ..

theorem dataLowByte_eq {s : State} {more : Bool} {high : Byte} (hp : s.time.power = .mainsRun) (h : s.link.phase = .data more)
    (hh : s.link.heldHigh = some high) (b : Byte) :
    dataLowByte b s =
      { portWrite .link s.link.pointer (high ++ b) s with
        link :=
          { s.link with
            pointer := if s.link.pointer = 0x1FFF then 0x1FFF else s.link.pointer + 1
            heldHigh := none, ack := true, phase := if more = true then .lead else .data false } } := by
  have hlink : (portWrite .link s.link.pointer (high ++ b) s).link = s.link := by
    rw [portWrite, portAccess_granted hp, writeWord_link]
    rfl
  unfold dataLowByte
  rw [h, hh]
  dsimp only
  rw [hlink, nextPointer_eq]
  rfl

/-! ## Words read (R174) -/

theorem portRead_granted_state (w : Port) (a : BitVec 13) (s : State) :
    (portRead a (s.granted w)).2 =
      { s.granted w with freeCount := s.freeCount + if 0x100 ≤ a.toNat ∧ s.time.selfTest = .failed then 1 else 0 } := by
  by_cases hs : s.time.selfTest = .failed
  · by_cases ha : 0x100 ≤ a.toNat
    · rw [portRead_page ha, if_pos ⟨ha, hs⟩]
      have hs' : (s.granted w).time.selfTest = .failed := hs
      rw [hs']
      rfl
    · rw [portRead_control (by omega), if_neg fun h => ha h.1]
      rfl
  · rw [portRead_state (s := s.granted w) hs, if_neg fun h => hs h.2]
    rfl

/-- The state once the link port has fetched a word: its high byte is to be sent, its low byte is kept (R174). -/
def State.fetchedByLink (s : State) : State :=
  { s.granted .link with
    link :=
      { s.link with
        holding := BitVec.ofNat 8 ((portRead s.link.pointer s).1.toNat / 256)
        keptLow := some (BitVec.ofNat 8 (portRead s.link.pointer s).1.toNat) }
    freeCount := s.freeCount + if 0x100 ≤ s.link.pointer.toNat ∧ s.time.selfTest = .failed then 1 else 0 }

theorem fetchHighByte_eq (s : State) : fetchHighByte s = s.fetchedByLink := by
  have hhigh (w : Word) : (w >>> 8).setWidth 8 = BitVec.ofNat 8 (w.toNat / 256) := by
    apply BitVec.eq_of_toNat_eq
    simp [Nat.shiftRight_eq_div_pow]
  have hlow (w : Word) : w.setWidth 8 = BitVec.ofNat 8 w.toNat := rfl
  unfold fetchHighByte
  dsimp only
  rw [portFetch_eq, hhigh, hlow, portRead_granted_word, portRead_granted_state]
  rfl

/-- Settles O55. -/
theorem linkPortBytes : Obligations.LinkPortBytes := by
  intro s hp
  refine ⟨fun address read => ?_, fun h b => ?_, fun high more b h => ?_, fun h b => ?_, fun more b h => ⟨fun hh => ?_, fun high hh =>
    ⟨portWrite .link s.link.pointer (high ++ b) s, dataLowByte b s, rfl, fun c hc => ?_, ?_, ?_⟩⟩, onBus_mains hp _, fun h => ?_, fun h hk => ⟨s.fetchedByLink, (portRead s.link.pointer s).1, ?_, fun ha hs => ?_,
      fun ha hs => ?_, fun ha => ?_, fun c hc => ?_, fun c hc => ?_, fun p ha => ?_, fun h1 h2 => ?_, rfl, rfl, rfl, rfl⟩, fun low hl h => ?_⟩
  · exact (onBus_mains hp _).trans (congrArg _ (startTransfer_eq ..))
  · exact (onBus_mains hp _).trans (congrArg _ (leadByte_eq h b))
  · exact (onBus_mains hp _).trans (congrArg _ (pointerByte_pointer h b))
  · exact (onBus_mains hp _).trans (congrArg _ (pointerByte_ignore h b))
  · exact (onBus_mains hp _).trans (congrArg _ (dataHighByte_eq h hh b))
  · refine (next_of_access hp _).trans (congrArg _ ?_)
    rw [portWrite, portAccess_granted hp, writeWord, writeTarget_request hc]
  · exact onBus_mains hp _
  · exact dataLowByte_eq hp h hh b
  · refine (onBus_mains hp _).trans (congrArg _ ?_)
    unfold readByte
    rw [h]
    rfl
  · refine (onBus_mains hp _).trans (congrArg _ ?_)
    unfold readByte
    rw [h, hk]
    exact fetchHighByte_eq s
  · rw [portRead_page ha, hs]
  · rw [portRead_page ha, hs]
  · rw [portRead_control ha]
  · rw [portRead_control (by omega), hc, pageWord_request]
  · rw [portRead_control (by omega), hc, pageWord_pointer]
  · rw [portRead_control (by cases p <;> simp at ha <;> omega), ha]
    cases p <;> rfl
  · rw [portRead_control h2, pageWord_above h1]
  · obtain hl : s.link.keptLow = some low := hl
    refine (onBus_mains hp _).trans (congrArg _ ?_)
    unfold readByte
    rw [h, hl]
    dsimp only
    rw [nextPointer_eq]
    rfl

end Sys2Proof.Machine
end

section
/-! PROOFS. What every command hands back to the engine (R178): its result words stand in words 8–15 of the block. -/

namespace Sys2Proof.Machine

/-! ## Replies -/

/-- The result words of a reply have places of their own among words 8–15 of a block. -/
def Reply.placed (r : Reply) : Prop := (r.results.map Prod.fst).Nodup ∧ ∀ p ∈ r.results, 8 ≤ p.1 ∧ p.1 < 16

theorem fromWord8_places (ws : List Word) : (fromWord8 ws).map Prod.fst = List.range' 8 ws.length := by
  rw [fromWord8, List.map_map]
  exact List.zipIdx_map_snd 8 ws

theorem fromWord8_placed {ws : List Word} (h : ws.length ≤ 8) :
    ((fromWord8 ws).map Prod.fst).Nodup ∧ ∀ p ∈ fromWord8 ws, 8 ≤ p.1 ∧ p.1 < 16 := by
  refine ⟨fromWord8_places ws ▸ List.nodup_range', fun p hp => ?_⟩
  have hmem : p.1 ∈ List.range' 8 ws.length := fromWord8_places ws ▸ List.mem_map_of_mem hp
  rw [List.mem_range'_1] at hmem
  omega

/-- What a command hands back: the reply of its own row untouched, results in their places, and words for a buffer only from a command
that has one to write. -/
structure HandsBack (writes : Bool) (s : State) (d : State × Reply) : Prop where
  keeps : d.1.reply = s.reply
  placed : d.2.placed
  out : writes = true ∨ d.2.out = []

namespace HandsBack

variable {w : Bool} {s t : State}

theorem refuse (h : t.reply = s.reply) (c : Response) : HandsBack w s (t, .refuse c) := ⟨h, ⟨.nil, by simp [Reply.refuse]⟩, .inr rfl⟩

theorem badOperand (h : t.reply = s.reply) (n : Nat) : HandsBack w s (t, .badOperand n) :=
  ⟨h, ⟨by simp [Reply.badOperand], by simp [Reply.badOperand]⟩, .inr rfl⟩

theorem refuseWord9 (h : t.reply = s.reply) (c : Response) (v : Word) : HandsBack w s (t, .refuseWord9 c v) :=
  ⟨h, ⟨by simp [Reply.refuseWord9], by simp [Reply.refuseWord9]⟩, .inr rfl⟩

theorem done (h : t.reply = s.reply) {ws : List Word} (hws : ws.length ≤ 8) : HandsBack w s (t, .done ws) :=
  ⟨h, fromWord8_placed hws, .inr rfl⟩

theorem doneOut (h : t.reply = s.reply) (out : List Word) {ws : List Word} (hws : ws.length ≤ 8) :
    HandsBack true s (t, .doneOut out ws) := ⟨h, fromWord8_placed hws, .inl rfl⟩

theorem used {d : State × Reply} (h : HandsBack w s d) (u : Option Word) : HandsBack w s (d.1, { d.2 with used := u }) :=
  ⟨h.keeps, h.placed, h.out⟩

theorem written {d : State × Reply} (h : HandsBack true s d) (out : List Word) : HandsBack true s (d.1, { d.2 with out := out }) :=
  ⟨h.keeps, h.placed, .inl rfl⟩

end HandsBack

/-- The commands that write words to their buffer (R178 step 3). -/
def Command.writesBuffer : Command → Bool
  | .readRecord | .scanIndex | .readLane | .readShift | .readHolidays | .readTotals | .listPresent | .readBells | .readJournal
  | .journalStatus => true
  | _ => false


/-! ## The reply of a command's own row is left alone -/

theorem minuteEvent_reply (s : State) : (minuteEvent s).reply = s.reply := by
  unfold minuteEvent
  split <;> simp

theorem lockDownLane_reply (l : Lane) (s : State) : (lockDownLane l s).reply = s.reply := by
  unfold lockDownLane
  split <;> simp

theorem leaveLockdown_reply (l : Lane) (s : State) : (leaveLockdown l s).reply = s.reply := by
  unfold leaveLockdown
  repeat' split
  all_goals simp

theorem freeByMode_reply (l : Lane) (s : State) : (freeByMode l s).reply = s.reply := by
  unfold freeByMode
  dsimp only
  split <;> simp

theorem normalByMode_reply (l : Lane) (s : State) : (normalByMode l s).reply = s.reply := by
  unfold normalByMode
  dsimp only
  split <;> simp

theorem foldl_reply {f : State → Lane → State} (hf : ∀ u l, (f u l).reply = u.reply) (ls : List Lane) (s : State) :
    (ls.foldl f s).reply = s.reply := by
  induction ls generalizing s with
  | nil => rfl
  | cons l ls ih => exact (ih (f s l)).trans (hf s l)

/-! ## The commands, one by one -/

section
variable {w : Bool} (o : Port) (s : State)

theorem forceOutEntry_handsBack (e : Attendance) (time : Time) : HandsBack w s (forceOutEntry o e time s) :=
  .done (by simp) (by simp [twoWords])

theorem forceInRecord_handsBack (a : Slot) (r : Record) (time : Time) : HandsBack w s (forceInRecord o a r time s) := by
  unfold forceInRecord
  refine .done ?_ (by simp)
  split <;> simp

theorem cancelEntry_handsBack (e : Attendance) : HandsBack w s (cancelEntry o e s) := .done (by simp) (by simp)

/-- What the checks of CORRECT PRESENCE answer. -/
theorem correctable_handsBack {ref : RecordRef} {r : Reply} (h : correctable ref s = .error r) : HandsBack w s (s, r) := by
  unfold correctable at h
  split at h
  · cases h; exact .refuseWord9 rfl _ _
  · split at h
    · cases h; exact .refuseWord9 rfl _ _
    · split at h
      · cases h; exact .refuse rfl _
      · cases h

theorem runCorrection_handsBack (op : Operands) : HandsBack w s (runCorrection o op s) := by
  unfold runCorrection
  split
  · unfold cmdForceOut
    repeat' split
    exacts [.badOperand rfl _, .badOperand rfl _, .refuse rfl _, correctable_handsBack s ‹_›, .refuseWord9 rfl _ _,
      forceOutEntry_handsBack ..]
  · split
    · unfold cmdForceIn
      repeat' split
      exacts [.badOperand rfl _, .badOperand rfl _, .refuse rfl _, correctable_handsBack s ‹_›, .refuse rfl _,
        forceInRecord_handsBack ..]
    · split
      · unfold cmdCancel
        repeat' split
        exacts [.badOperand rfl _, correctable_handsBack s ‹_›, .refuseWord9 rfl _ _, cancelEntry_handsBack ..]
      · exact .badOperand rfl _

end

/-- What each command hands back. -/
theorem Command.run_handsBack (c : Command) (o : Port) (op : Operands) (b : Buffer) (s : State) :
    HandsBack c.writesBuffer s (c.run o op b s) := by
  cases c <;> simp only [Command.run, Command.writesBuffer]
  case setClock =>
    unfold cmdSetClock
    split
    exacts [.badOperand rfl _, .done (by rw [minuteEvent_reply]; exact appendEntry_reply ..) (by simp)]
  case trimClock => unfold cmdTrimClock; split; exacts [.refuse rfl _, .done (by rfl) (by simp)]
  case readClock => exact .done (by rfl) (by simp [timeWords])
  case acknowledgeStart => exact .done (by rfl) (by simp)
  case loadRecord =>
    unfold cmdLoadRecord
    dsimp only
    repeat' split
    exacts [.refuse rfl _, .badOperand rfl _, .refuse rfl _, (HandsBack.done (by simp) (by simp)).used _, .refuse rfl _,
      (HandsBack.done (by rfl) (by simp)).used _]
  case readRecord =>
    unfold cmdReadRecord
    dsimp only
    repeat' split
    exacts [.badOperand rfl _, .refuse rfl _, .refuse rfl _, .refuse (by simp) _, .doneOut (by simp) _ (by simp)]
  case deleteRecord =>
    unfold cmdDeleteRecord
    repeat' split
    exacts [.badOperand rfl _, .refuse rfl _, .refuse rfl _, .refuse rfl _, .refuse rfl _, .done (by rfl) (by simp)]
  case scanIndex =>
    unfold cmdScanIndex
    dsimp only
    split
    · exact .badOperand rfl _
    · split
      · exact .refuse rfl _
      · refine (HandsBack.done rfl ?_).written _
        split <;> simp [keyWords]
  case writeLane =>
    unfold cmdWriteLane
    dsimp only
    repeat' split
    exacts [.badOperand rfl _, .refuse rfl _, .done (by rw [configureLane_eq, (adaptSensor_adapted ..).frame]; rfl) (by simp)]
  case readLane =>
    unfold cmdReadLane
    repeat' split
    exacts [.badOperand rfl _, .refuse rfl _, .doneOut rfl _ (by simp)]
  case writeShift =>
    unfold cmdWriteShift
    dsimp only
    repeat' split
    exacts [.refuse rfl _, .badOperand rfl _, (HandsBack.done (by rfl) (by simp)).used _]
  case readShift =>
    unfold cmdReadShift
    repeat' split
    exacts [.badOperand rfl _, .refuse rfl _, .doneOut rfl _ (by simp)]
  case writePayClass => unfold cmdWritePayClass; split; exacts [.badOperand rfl _, .done (by rfl) (by simp)]
  case readPayClass => unfold cmdReadPayClass; split; exacts [.badOperand rfl _, .done (by rfl) (by simp)]
  case writeHolidays =>
    unfold cmdWriteHolidays
    dsimp only
    split
    · exact .badOperand rfl _
    · split
      exacts [.refuse rfl _, (HandsBack.done (by rfl) (by simp)).used _]
  case readHolidays => unfold cmdReadHolidays; split; exacts [.refuse rfl _, .doneOut rfl _ (by simp)]
  case closePeriod => unfold cmdClosePeriod; dsimp only; split; exacts [.refuseWord9 rfl _ _, .done (by simp) (by simp)]
  case readTotals =>
    unfold cmdReadTotals
    dsimp only
    repeat' split
    exacts [.badOperand rfl _, .refuse rfl _, .refuse rfl _, .refuse (by simp) _, .doneOut (by simp) _ (by simp)]
  case listPresent =>
    unfold cmdListPresent
    dsimp only
    repeat' split
    exacts [.badOperand rfl _, .refuse rfl _, .doneOut rfl _ (by simp)]
  case correctPresence => exact runCorrection_handsBack o s op
  case releaseDoor =>
    unfold cmdReleaseDoor
    dsimp only
    repeat' split
    exacts [.badOperand rfl _, .refuse rfl _, .refuse rfl _, .done (by simp) (by simp)]
  case setDoorMode =>
    unfold cmdSetDoorMode
    dsimp only
    split
    · exact .badOperand rfl _
    · split
      exacts [.done (freeByMode_reply ..) (by simp), .done (normalByMode_reply ..) (by simp)]
  case lockdown =>
    unfold cmdLockdown
    split
    exacts [.done (by rfl) (by simp), .done ((foldl_reply (fun u l => lockDownLane_reply l u) ..).trans (by simp)) (by simp)]
  case clearLockdown =>
    unfold cmdClearLockdown
    split
    exacts [.done (by rfl) (by simp), .done ((foldl_reply (fun u l => leaveLockdown_reply l u) ..).trans (by simp)) (by simp)]
  case resetAlarm => unfold cmdResetAlarm; dsimp only; split; exacts [.badOperand rfl _, .done (by simp) (by simp)]
  case readDoors => exact .done (by rfl) (by simp [allLanes])
  case setReentryWindow => unfold cmdSetReentryWindow; split; exacts [.badOperand rfl _, .done (by rfl) (by simp)]
  case writeBellEntry => unfold cmdWriteBellEntry; split; exacts [.badOperand rfl _, .done (by rfl) (by simp)]
  case readBellEntry => unfold cmdReadBellEntry; split; exacts [.badOperand rfl _, .done (by rfl) (by simp [bellEntryWords])]
  case writePattern => unfold cmdWritePattern; split; exacts [.badOperand rfl _, .done (by rfl) (by simp)]
  case readPattern => unfold cmdReadPattern; split; exacts [.badOperand rfl _, .done (by rfl) (by simp [patternWords])]
  case ringZones => unfold cmdRingZones; split; exacts [.badOperand rfl _, .done (by rfl) (by simp)]
  case silenceZones =>
    unfold cmdSilenceZones
    dsimp only
    repeat' split
    exacts [.badOperand rfl _, .refuse rfl _, .done (by rfl) (by simp)]
  case readBells => unfold cmdReadBells; split; exacts [.refuse rfl _, .doneOut rfl _ (by simp)]
  case readJournal =>
    unfold cmdReadJournal
    dsimp only
    generalize (if op 1 = 0 then _ else seqOfWords (op 2) (op 3)) = start
    repeat' split
    exacts [.badOperand rfl _, .refuse rfl _, .refuse rfl _, .refuse rfl _, .doneOut rfl _ (by simp [seqWords, twoWords]),
      .refuse rfl _, .doneOut rfl _ (by simp [seqWords, twoWords])]
  case releaseJournal =>
    unfold cmdReleaseJournal
    dsimp only
    split
    · exact .badOperand rfl _
    · split
      exacts [.refuse rfl _, .done (by rfl) (by simp [seqWords, twoWords])]
  case setConsumer =>
    unfold cmdSetConsumer
    split
    exacts [.badOperand rfl _, .done (by simp) (by simp [seqWords, twoWords])]
  case journalStatus => unfold cmdJournalStatus; split; exacts [.refuse rfl _, .doneOut rfl _ (by simp)]
  case setChannelNotice => unfold cmdSetChannelNotice; split; exacts [.badOperand rfl _, .done (by rfl) (by simp)]
  case readChannels => exact .done (by rfl) (by simp [allChannels])

end Sys2Proof.Machine
end

section
/-! PROOFS. A block's command by its code, and the row that carries it out (R178, R179, TABLE 11-4). -/

namespace Sys2Proof.Machine

/-! ## Command codes -/

theorem commandCodes_eq : commandCodes = allCommands.map Command.code := by decide

theorem code_of_commandOf {v : Word} {c : Command} (h : commandOf v = some c) : c.code = v.toNat := by
  simpa using List.find?_some h

theorem commandOf_none_iff (v : Word) : commandOf v = none ↔ v.toNat ∉ commandCodes := by
  rw [commandOf, List.find?_eq_none, commandCodes_eq]
  simp

theorem namesBuffer_iff (c : Command) : c.namesBuffer = true ↔ c.code ∈ bufferCodes := by cases c <;> decide

theorem writesBuffer_namesBuffer {c : Command} (h : c.namesBuffer = false) : c.writesBuffer = false := by
  cases c <;> first | rfl | cases h

/-! ## Operands -/

/-- A command reads eight operand words. -/
theorem Command.run_congr (c : Command) (o : Port) {op op' : Operands} (h : ∀ i, i < 8 → op i = op' i) (b : Buffer) (s : State) :
    c.run o op b s = c.run o op' b s := by
  have h0 := h 0 (by decide)
  have h1 := h 1 (by decide)
  have h2 := h 2 (by decide)
  have h3 := h 3 (by decide)
  have h4 := h 4 (by decide)
  have h5 := h 5 (by decide)
  have h6 := h 6 (by decide)
  have h7 := h 7 (by decide)
  cases c <;> simp only [Command.run, runCorrection, h0, h1, h2, h3, h4, h5, h6, h7]

theorem operandsOf_range (f : Nat → Word) {i : Nat} (h : i < 8) : operandsOf ((List.range 8).map f) i = f i := by
  simp [operandsOf, h]

/-! ## Rows -/

/-- The buffer that a command's row writes to. -/
def Command.rowBuffer (c : Command) (b : Buffer) : Option Buffer := if c.writesBuffer = true then some b else none

/-- Every command but CORRECT PRESENCE is carried out by the row of its code. -/
theorem commandRow_carries {c : Command} (hc : c ≠ .correctPresence) (o : Port) (op : Nat → Word) (b : Buffer) :
    ∃ i, commandRow o op b c.code = some i ∧ ∀ s, exec i s = .next (runDirect (c.rowBuffer b) (fun u => c.run o op b u) s) := by
  unfold commandRow commandRows
  repeat' split
  all_goals
    cases c <;> first | exact absurd rfl hc | exact ⟨_, rfl, fun _ => rfl⟩

/-- CORRECT PRESENCE is carried out by the row of its operation, if it has one (R112). -/
theorem correctPresence_row (o : Port) (op : Nat → Word) (b : Buffer) :
    (∃ i, commandRow o op b Command.correctPresence.code = some i ∧
      ∀ s, exec i s = .next (runDirect none (fun u => Command.run o op b u .correctPresence) s)) ∨
    (commandRow o op b Command.correctPresence.code = none ∧
      ∀ s, Command.run o op b s .correctPresence = (s, .badOperand 0)) := by
  have runs {f g : State → State × Reply} (h : ∀ u, f u = g u) (s : State) :
      (Host.Outcome.next (runDirect none f s) : Host.Outcome State Fault Refusal) = .next (runDirect none g s) :=
    congrArg _ (congrArg (runDirect none · s) (funext h))
  unfold commandRow commandRows
  by_cases h0 : op 0 = 0
  · rw [if_pos h0]
    exact .inl ⟨_, rfl, runs fun u => ((runCorrection_eq o op u).1 h0).symm⟩
  · rw [if_neg h0]
    by_cases h1 : op 0 = 1
    · rw [if_pos h1]
      exact .inl ⟨_, rfl, runs fun u => ((runCorrection_eq o op u).2.1 h1).symm⟩
    · rw [if_neg h1]
      by_cases h2 : op 0 = 2
      · rw [if_pos h2]
        exact .inl ⟨_, rfl, runs fun u => ((runCorrection_eq o op u).2.2 h2).symm⟩
      · rw [if_neg h2]
        refine .inr ⟨rfl, fun s => ?_⟩
        simp only [Command.run, runCorrection, if_neg h0, if_neg h1, if_neg h2]

/-- The row of a command's code carries the command out; a command whose code has none here answers BAD-OPERAND. -/
theorem commandRow_spec (c : Command) (o : Port) (op : Nat → Word) (b : Buffer) :
    (∃ i, commandRow o op b c.code = some i ∧ ∀ s, exec i s = .next (runDirect (c.rowBuffer b) (fun u => c.run o op b u) s)) ∨
      (commandRow o op b c.code = none ∧ ∀ s, c.run o op b s = (s, .badOperand 0)) := by
  by_cases hc : c = .correctPresence
  · subst hc
    exact correctPresence_row o op b
  · exact .inl (commandRow_carries hc o op b)

/-! ## The checks of R179 -/

section
variable {b : Block} {c : Command} (o : Port) (s : State)

theorem carryOut_unknown (h : commandOf b.code = none) : carryOut b o s = (s, .refuse .badCommand) := by
  rw [carryOut, h]

theorem carryOut_inline (h : commandOf b.code = some c) (hm : c.namesBuffer = true ∨ b.mode = 0) :
    carryOut b o s = c.run o (operandsOf b.operands) b.buffer s := by
  rw [carryOut, h]
  dsimp only
  split
  · rfl
  · next hn => rw [if_pos (hm.resolve_left hn)]

theorem carryOut_buffer (h : commandOf b.code = some c) (hn : c.namesBuffer = false) (hm : b.mode = 1)
    (hb : checkBuffer b.buffer 8 = none) :
    carryOut b o s =
      ((c.run o (operandsOf (bufferWords s.memory b.buffer 8)) b.buffer s).1,
        (c.run o (operandsOf (bufferWords s.memory b.buffer 8)) b.buffer s).2.fromBufferMode) := by
  rw [carryOut, h]
  simp [hn, hm, hb]

theorem carryOut_buffer_refused (h : commandOf b.code = some c) (hn : c.namesBuffer = false) (hm : b.mode = 1) {r : Response}
    (hb : checkBuffer b.buffer 8 = some r) : carryOut b o s = (s, .refuse r) := by
  rw [carryOut, h]
  simp [hn, hm, hb]

theorem carryOut_bad_mode (h : commandOf b.code = some c) (hn : c.namesBuffer = false) (hm : 2 ≤ b.mode.toNat) :
    carryOut b o s = (s, .refuse .badCommand) := by
  have h0 : b.mode ≠ 0 := by bv_omega
  have h1 : b.mode ≠ 1 := by bv_omega
  rw [carryOut, h]
  dsimp only
  rw [if_neg (by simp [hn]), if_neg h0, if_neg h1]

end

end Sys2Proof.Machine
end

section
/-! PROOFS. A turn of the engine (R177): the channel served, the block's words written back (R178), and the chain after it (R179). -/

namespace Sys2Proof.Machine

/-! ## Words written back -/

theorem memWriteAll_append (m : Memory) (xs ys : List (Nat × Word)) :
    memWriteAll m (xs ++ ys) = memWriteAll (memWriteAll m xs) ys := List.foldl_append

/-- The result words written to a block from address a. -/
theorem memRead_resultWords {m : Memory} (hm : Memory.wf m) {rs : List (Nat × Word)} (hn : (rs.map Prod.fst).Nodup)
    (hp : ∀ p ∈ rs, 8 ≤ p.1 ∧ p.1 < 16) {a : Nat} (ha : 0x100 ≤ a) (ha' : a + 15 < 0x2000) (x : Nat) :
    memRead (memWriteAll m (rs.map fun p => (a + p.1, p.2))) x =
      if a + 8 ≤ x ∧ x < a + 16 then (rs.lookup (x - a)).getD (memRead m x) else memRead m x := by
  induction rs generalizing m with
  | nil => simp [memWriteAll]
  | cons p rs ih =>
    obtain ⟨k, v⟩ := p
    obtain ⟨hk, hn'⟩ := List.nodup_cons.mp hn
    have hplace := hp (k, v) (by simp)
    have hlookup : rs.lookup k = none := by
      rw [List.lookup_eq_none_iff]
      intro q hq
      rw [bne_iff_ne]
      rintro rfl
      exact hk (List.mem_map.mpr ⟨q, hq, rfl⟩)
    have hstep := ih (memWrite_wf m (a + k) v hm) hn' fun q hq => hp q (by simp [hq])
    rw [show memWriteAll m (((k, v) :: rs).map fun p => (a + p.1, p.2)) =
      memWriteAll (memWrite m (a + k) v) (rs.map fun p => (a + p.1, p.2)) from rfl, hstep, List.lookup_cons]
    simp only [memRead_memWrite hm (show 0x100 ≤ a + k by omega) (show a + k < 0x2000 by omega)]
    by_cases hx : x = a + k
    · subst hx
      simp [hlookup, hplace]
    · have hxk : ¬ (a + 8 ≤ x ∧ x < a + 16 ∧ x - a = k) := by omega
      by_cases hr : a + 8 ≤ x ∧ x < a + 16
      · have hne : (x - a == k) = false := by simpa using fun h => hxk ⟨hr.1, hr.2, h⟩
        rw [if_pos hr, if_pos hr, if_neg hx, hne]
      · rw [if_neg hr, if_neg hr, if_neg hx]

/-- The words of a block after its answer is written (R178 step 3). -/
theorem memRead_blockWrites {m : Memory} (hm : Memory.wf m) {r : Reply} (hr : r.placed) {a : Nat} (ha : 0x100 ≤ a)
    (ha' : a + 15 < 0x2000) (x : Nat) :
    memRead (memWriteAll m (blockWrites a r)) x =
      if x = a + 3 then 0
      else if x = a + 1 then r.code.number
      else if x = a + 7 then r.used.getD (memRead m x)
      else if a + 8 ≤ x ∧ x < a + 16 then (r.results.lookup (x - a)).getD (memRead m x)
      else memRead m x := by
  have hcode : word (responseCode r.code) = r.code.number := by cases r.code <;> rfl
  have hm1 := memWriteAll_wf m (r.results.map fun p => (a + p.1, p.2)) hm
  have hread1 := memRead_resultWords hm hr.1 hr.2 ha ha' x
  have hm2 := memWriteAll_wf _ (match r.used with
    | some n => [(a + 7, n)]
    | none => []) hm1
  rw [blockWrites, memWriteAll_append, memWriteAll_append]
  generalize memWriteAll m (r.results.map fun p => (a + p.1, p.2)) = m1 at *
  have hread2 : memRead (memWriteAll m1 (match r.used with
      | some n => [(a + 7, n)]
      | none => [])) x = if x = a + 7 then r.used.getD (memRead m1 x) else memRead m1 x := by
    cases r.used with
    | none => simp [memWriteAll]
    | some n => exact memRead_memWrite hm1 (by omega) (by omega) n x
  generalize memWriteAll m1 _ = m2 at *
  have hread3 : memRead (memWriteAll m2 [(a + 1, word (responseCode r.code)), (a + 3, 0)]) x =
      if x = a + 3 then 0 else if x = a + 1 then r.code.number else memRead m2 x := by
    have h := memRead_memWrite (memWrite_wf m2 (a + 1) r.code.number hm2) (show 0x100 ≤ a + 3 by omega) (by omega) 0 x
    rw [memRead_memWrite hm2 (by omega) (by omega)] at h
    rw [hcode]
    exact h
  rw [hread3, hread2, hread1]
  have h7 : x = a + 7 → ¬ (a + 8 ≤ x ∧ x < a + 16) := by omega
  split
  · rfl
  · split
    · rfl
    · split
      · next h => rw [if_neg (h7 h)]
      · rfl

/-! ## The channel served next (R177) -/

theorem eligible_iff (ch : ChannelState) : ch.eligible = true ↔ ch.waits := by
  unfold ChannelState.eligible ChannelState.waits
  cases ch.chain <;> cases ch.queue <;> simp

/-- Before channel c in the round stand the channels counted before it. -/
theorem turnOrder_split : ∀ last c : Channel, ∃ xs ys, turnOrder last = xs ++ c :: ys ∧
    ∀ d ∈ xs, (d - (last + 1)).val < (c - (last + 1)).val := by
  intro last c
  refine ⟨(turnOrder last).takeWhile (· ≠ c), ((turnOrder last).dropWhile (· ≠ c)).tail, ?_⟩
  revert last c
  decide

theorem mem_turnOrder : ∀ last c : Channel, c ∈ turnOrder last := by decide

theorem nextChannel_none {s : State} (h : ∀ c, ¬ (s.channel c).waits) : nextChannel s = none := by
  rw [nextChannel, List.find?_eq_none]
  intro c _
  rw [eligible_iff]
  exact h c

theorem nextChannel_eq {s : State} {c : Channel} (h : servedNext s c) : nextChannel s = some c := by
  obtain ⟨hc, hbefore⟩ := h
  obtain ⟨xs, ys, hxs, hlt⟩ := turnOrder_split s.control.lastServed c
  rw [nextChannel, hxs, List.find?_append, List.find?_eq_none.mpr, Option.none_or]
  · exact List.find?_cons_of_pos ((eligible_iff _).mpr hc)
  · intro d hd
    rw [eligible_iff]
    exact hbefore d (hlt d hd)

/-- A channel that has its block taken. -/
theorem take_eq {ch : ChannelState} {chain : Chain} {left : List Request} (h : takesBlock ch chain left) :
    ch.take = some (chain, { ch with chain := some chain, queue := left }) := by
  unfold ChannelState.take
  rcases h with ⟨k, hk, rfl, rfl⟩ | ⟨hnone, r, hr, rfl, rfl⟩
  · rw [Option.mem_def.mp hk]
  · cases hq : ch.queue with
    | nil => simp [hq] at hr
    | cons q rest =>
      obtain rfl : q = r := by simpa [hq] using hr
      rw [hnone]
      rfl

theorem validBlockAddress_iff (w : Word) :
    validBlockAddress w = true ↔ 0x100 ≤ w.toNat ∧ w.toNat < 0x2000 ∧ w.toNat % 256 ≤ 240 := by
  rw [validBlockAddress, Bool.and_eq_true, Bool.and_eq_true, decide_eq_true_iff, decide_eq_true_iff, decide_eq_true_iff, and_assoc]
  rfl

section
variable {s : State} {c : Channel} {chain : Chain} {left : List Request}

theorem engineTurn_idle (ho : engineOpen s = true) (h : ∀ c, ¬ (s.channel c).waits) : engineTurn s = s := by
  rw [engineTurn, turnWith, if_pos ho, nextChannel_none h]

/-- A turn at a channel whose block's address is valid. -/
theorem engineTurn_serves (ho : engineOpen s = true) (hn : servedNext s c) (ht : takesBlock (s.channel c) chain left)
    (hv : validBlockAddress chain.next = true) : engineTurn s = serveBlock c chain (s.serving c chain left) := by
  rw [engineTurn, turnWith, if_pos ho, nextChannel_eq hn]
  dsimp only
  rw [turnAt, take_eq ht]
  dsimp only
  rw [if_pos hv, access_engine]
  rfl

/-- A turn at a channel whose block's address is not valid. -/
theorem engineTurn_badPointer (ho : engineOpen s = true) (hn : servedNext s c) (ht : takesBlock (s.channel c) chain left)
    (hv : validBlockAddress chain.next = false) :
    engineTurn s =
      channelFault c .badPointer (setLastServed c (s.setChannel c { s.channel c with chain := some chain, queue := left })) := by
  rw [engineTurn, turnWith, if_pos ho, nextChannel_eq hn]
  dsimp only
  rw [turnAt, take_eq ht]
  dsimp only
  rw [if_neg (by simp [hv])]

end

/-! ## The chain after a block (R179) -/

/-- What a fault at a channel leaves (R176, R177, R179). -/
theorem channelFault_spec (c : Channel) (f : ChannelFault) (s t : State) (ht : t = channelFault c f s) :
    t.channel c = { s.channel c with fault := f, chain := none } ∧ (∀ d, d ≠ c → t.channel d = s.channel d) ∧
      (∀ p, t.portState p =
        if (s.channel c).faultPorts.names p = true then (s.portState p).note .eventWord 5 else s.portState p) ∧
      t = { s with control := { s.control with channels := t.control.channels, bus := t.control.bus, link := t.control.link } } := by
  have hchannel (d : Channel) : t.channel d = if d = c then { s.channel c with fault := f, chain := none } else s.channel d := by
    rw [ht, channelFault, noticeSet_channel, channel_setChannel]
  refine ⟨(hchannel c).trans (if_pos rfl), fun d hd => (hchannel d).trans (if_neg hd), fun p => ?_, ?_⟩
  · rw [ht, channelFault, noticeSet_portState, State.portState_setChannel]
    rfl
  · rw [ht, channelFault, noticeSet_frame]
    rfl

/-- The chain stops at its limit (R179). -/
def chainStops (done : Bool) (link : Word) (chain : Chain) : Prop := done = true ∧ link ≠ 0 ∧ 256 ≤ chain.count

/-- The chain goes on (R179). -/
def chainGoesOn (done : Bool) (link : Word) (chain : Chain) : Prop := done = true ∧ link ≠ 0 ∧ chain.count < 256

/-- What the end of a block leaves of its channel and of the ports (R179). -/
structure ChainContinued (c : Channel) (link : Word) (done : Bool) (chain : Chain) (s t : State) : Prop where
  goesOn : chainGoesOn done link chain → (t.channel c).chain = some { chain with next := link }
  ends : ¬ chainGoesOn done link chain → (t.channel c).chain = none
  faults : chainStops done link chain → (t.channel c).fault = .chainLimit
  keepsFault : ¬ chainStops done link chain → (t.channel c).fault = (s.channel c).fault
  channel : t.channel c = { s.channel c with chain := (t.channel c).chain, fault := (t.channel c).fault }
  others : ∀ d, d ≠ c → t.channel d = s.channel d
  raises : ∀ p, chainStops done link chain ∧ (s.channel c).faultPorts.names p = true →
    t.portState p = (s.portState p).note .eventWord 5
  quiet : ∀ p, ¬ (chainStops done link chain ∧ (s.channel c).faultPorts.names p = true) → t.portState p = s.portState p
  frame : t = { s with control := { s.control with channels := t.control.channels, bus := t.control.bus, link := t.control.link } }

/-- A chain set or ended without a fault. -/
theorem ChainContinued.of_setChannel {c : Channel} {link : Word} {done : Bool} {chain : Chain} {s : State} (k : Option Chain)
    (hgo : chainGoesOn done link chain → k = some { chain with next := link }) (hend : ¬ chainGoesOn done link chain → k = none)
    (hstop : ¬ chainStops done link chain) : ChainContinued c link done chain s (s.setChannel c { s.channel c with chain := k }) := by
  have hc := State.channel_setChannel_self s c { s.channel c with chain := k }
  constructor
  case goesOn => rw [hc]; exact hgo
  case ends => rw [hc]; exact hend
  case faults => exact fun h => absurd h hstop
  case keepsFault => rw [hc]; exact fun _ => rfl
  case channel => rw [hc]
  case others => exact fun d hd => State.channel_setChannel_other s c d _ hd
  case raises => exact fun p h => absurd h.1 hstop
  case quiet => exact fun p _ => State.portState_setChannel ..
  case frame => rfl

theorem continueChain_continued (c : Channel) (link : Word) (done : Bool) (chain : Chain) (s : State) :
    ChainContinued c link done chain s (continueChain c link done chain s) := by
  have hgo : chainGoesOn done link chain ↔ (done && decide (link ≠ 0)) = true ∧ chain.count < 256 := by
    rw [chainGoesOn, Bool.and_eq_true, decide_eq_true_iff, and_assoc]
  have hstop : chainStops done link chain ↔ (done && decide (link ≠ 0)) = true ∧ ¬ chain.count < 256 := by
    rw [chainStops, Bool.and_eq_true, decide_eq_true_iff, and_assoc, Nat.not_lt]
  unfold continueChain
  by_cases hmore : (done && decide (link ≠ 0)) = true
  · rw [if_pos hmore]
    by_cases hcount : chain.count < 256
    · rw [if_pos hcount]
      exact .of_setChannel _ (fun _ => rfl) (fun h => absurd (hgo.mpr ⟨hmore, hcount⟩) h) fun h => (hstop.mp h).2 hcount
    · rw [if_neg hcount]
      obtain ⟨hc, hothers, hport, hframe⟩ := channelFault_spec c .chainLimit s _ rfl
      have hnotgo : ¬ chainGoesOn done link chain := fun h => hcount (hgo.mp h).2
      have hstops := hstop.mpr ⟨hmore, hcount⟩
      constructor
      case goesOn => exact fun h => absurd h hnotgo
      case ends => rw [hc]; exact fun _ => rfl
      case faults => rw [hc]; exact fun _ => rfl
      case keepsFault => exact fun h => absurd hstops h
      case channel => rw [hc]
      case others => exact hothers
      case raises => exact fun p h => (hport p).trans (if_pos h.2)
      case quiet => exact fun p h => (hport p).trans (if_neg fun hp => h ⟨hstops, hp⟩)
      case frame => exact hframe
  · rw [if_neg hmore]
    exact .of_setChannel none (fun h => absurd (hgo.mp h).1 hmore) (fun _ => rfl) fun h => hmore (hstop.mp h).1

end Sys2Proof.Machine
end

section
/-! PROOFS. A turn of the engine answers its block and runs it as the row of its command (R178, R179). -/

namespace Sys2Proof.Machine

/-! ## The completion notice (R178 step 5) -/

theorem PortState.note_channel_channelSummary (p : PortState) (n : Nat) :
    (p.note .channelWord n).channelSummary = p.channelSummary ||| (1#16 <<< n) := by
  unfold PortState.note
  dsimp only
  split
  · next h => exact (or_shiftLeft_of_getLsbD h).symm
  · exact (PortState.attend_summaries _).2

theorem PortState.note_channel_eventSummary (p : PortState) (n : Nat) : (p.note .channelWord n).eventSummary = p.eventSummary := by
  unfold PortState.note
  dsimp only
  split
  · rfl
  · exact (PortState.attend_summaries _).1

theorem portSetOfWord_names (w : Word) (p : Port) : (portSetOfWord w).names p = w.getLsbD (if p = .bus then 0 else 1) := by
  cases p <;> rfl

/-- The completion bit in the summaries of the ports that the notice word names. -/
theorem completion_summaries (notice : Word) (c : Channel) (p : Port) (s : State) :
    ((noticeSet (portSetOfWord notice) .channelWord (c.val + 8) s).portState p).channelSummary =
        (s.portState p).channelSummary |||
          (if notice.getLsbD (if p = .bus then 0 else 1) = true then 1 <<< (c.val + 8) else 0) ∧
      ((noticeSet (portSetOfWord notice) .channelWord (c.val + 8) s).portState p).eventSummary = (s.portState p).eventSummary := by
  rw [noticeSet_portState, portSetOfWord_names]
  by_cases h : notice.getLsbD (if p = .bus then 0 else 1) = true
  · rw [if_pos h, if_pos h]
    exact ⟨PortState.note_channel_channelSummary .., PortState.note_channel_eventSummary ..⟩
  · rw [if_neg h, if_neg h]
    exact ⟨(BitVec.or_zero).symm, rfl⟩

/-- Channels and ports changed after notices are all that changed. -/
theorem frame_of_notices {w n t : State}
    (hn : n = { w with control := { w.control with bus := n.control.bus, link := n.control.link } })
    (ht : t = { n with control := { n.control with channels := t.control.channels, bus := t.control.bus, link := t.control.link } }) :
    t = { w with control := { w.control with channels := t.control.channels, bus := t.control.bus, link := t.control.link } } := by
  conv_lhs => rw [ht, hn]

/-! ## A block answered -/

section
variable {s : State} {c : Channel} {chain : Chain} {left : List Request}

theorem serving_channel (d : Channel) :
    (s.serving c chain left).channel d =
      if d = c then { s.channel c with chain := some chain, queue := left } else s.channel d :=
  channel_setChannel s c d _

/-- The state of a turn at a block answered with the reply r, the owning block having gone to v. -/
def answeredTurn (m : Memory) (c : Channel) (chain : Chain) (v : State) (r : Reply) : State :=
  continueChain c (memRead m (chain.next.toNat + 4)) (decide (r.code = .done)) chain
    (noticeSet (portSetOfWord (memRead m (chain.next.toNat + 2))) .channelWord (c.val + 8)
      (v.setMemory
        (memWriteAll
          (writeBuffer v.memory ⟨memRead m (chain.next.toNat + 6), memRead m (chain.next.toNat + 7)⟩ r.out)
          (blockWrites chain.next.toNat r))))

theorem serveBlock_eq {v : State} {r : Reply}
    (hd : carryOut (readBlock s.memory chain.next.toNat) chain.origin (s.serving c chain left) = (v, r)) :
    serveBlock c chain (s.serving c chain left) = answeredTurn s.memory c chain v r := by
  have hb : readBlock (s.serving c chain left).memory chain.next.toNat = readBlock s.memory chain.next.toNat := rfl
  unfold serveBlock
  dsimp only
  rw [hb, hd]
  rfl

/-- A turn whose command went to v with the reply r answers its block with r, the output words of r being in u's memory. -/
theorem turnAnswers_of (ho : engineOpen s = true) (hm : Memory.wf s.memory) (hn : servedNext s c)
    (ht : takesBlock (s.channel c) chain left) (hv : validBlockAddress chain.next = true) {v u : State} {r : Reply}
    (hd : carryOut (readBlock s.memory chain.next.toNat) chain.origin (s.serving c chain left) = (v, r)) (hr : r.placed)
    (hkeep : v.reply = s.reply)
    (hu : u =
      { v with
        memory := writeBuffer v.memory
          ⟨memRead s.memory (chain.next.toNat + 6), memRead s.memory (chain.next.toNat + 7)⟩ r.out
        reply := u.reply }) : turnAnswers s c chain u r := by
  have hexec : exec .engineTurn s = .next (answeredTurn s.memory c chain v r) := by
    rw [← serveBlock_eq hd, ← engineTurn_serves ho hn ht hv]
    rfl
  obtain ⟨hlow, hhigh, hpage⟩ := (validBlockAddress_iff _).mp hv
  have hkept : v.memory = s.memory := by
    have h := carryOut_kept (readBlock s.memory chain.next.toNat) chain.origin (s.serving c chain left)
    rw [hd] at h
    exact h.1
  have hcont := continueChain_continued c (memRead s.memory (chain.next.toNat + 4)) (decide (r.code = .done)) chain
    (noticeSet (portSetOfWord (memRead s.memory (chain.next.toNat + 2))) .channelWord (c.val + 8)
      (v.setMemory (memWriteAll u.memory (blockWrites chain.next.toNat r))))
  have humemory : u.memory =
      writeBuffer v.memory ⟨memRead s.memory (chain.next.toNat + 6), memRead s.memory (chain.next.toNat + 7)⟩ r.out :=
    congrArg State.memory hu
  have hwf : Memory.wf u.memory := by
    rw [humemory, hkept]
    exact writeBuffer_wf _ _ _ hm
  rw [answeredTurn, ← humemory] at hexec
  have hnchannel (d : Channel) : (noticeSet (portSetOfWord (memRead s.memory (chain.next.toNat + 2))) .channelWord (c.val + 8)
      (v.setMemory (memWriteAll u.memory (blockWrites chain.next.toNat r)))).channel d = u.channel d := by
    rw [noticeSet_channel, hu]
    rfl
  have hnport (p : Port) := completion_summaries (memRead s.memory (chain.next.toNat + 2)) c p
    (v.setMemory (memWriteAll u.memory (blockWrites chain.next.toNat r)))
  have hvport (p : Port) : (v.setMemory (memWriteAll u.memory (blockWrites chain.next.toNat r))).portState p = u.portState p := by
    rw [hu]
    cases p <;> rfl
  have hnframe := noticeSet_frame (portSetOfWord (memRead s.memory (chain.next.toNat + 2))) .channelWord (c.val + 8)
    (v.setMemory (memWriteAll u.memory (blockWrites chain.next.toNat r)))
  generalize noticeSet (portSetOfWord (memRead s.memory (chain.next.toNat + 2))) .channelWord (c.val + 8)
    (v.setMemory (memWriteAll u.memory (blockWrites chain.next.toNat r))) = n at *
  generalize continueChain c (memRead s.memory (chain.next.toNat + 4)) (decide (r.code = .done)) chain n = t at *
  have hstops : chainStops (decide (r.code = .done)) (memRead s.memory (chain.next.toNat + 4)) chain ↔
      r.code = .done ∧ memRead s.memory (chain.next.toNat + 4) ≠ 0 ∧ 256 ≤ chain.count := by
    rw [chainStops, decide_eq_true_iff]
  have hgoes : chainGoesOn (decide (r.code = .done)) (memRead s.memory (chain.next.toNat + 4)) chain ↔
      r.code = .done ∧ memRead s.memory (chain.next.toNat + 4) ≠ 0 ∧ chain.count < 256 := by
    rw [chainGoesOn, decide_eq_true_iff]
  obtain ⟨hgo, hend, hfault, hnofault, hchannel, hothers, hraise, hquiet, hframe⟩ := hcont
  rw [hstops] at hfault hnofault
  rw [hgoes] at hgo hend
  simp only [hstops] at hraise hquiet
  rw [hnchannel] at hnofault hchannel
  have hmem : t.memory = memWriteAll u.memory (blockWrites chain.next.toNat r) := by
    rw [hframe, hnframe]
    rfl
  refine ⟨t, _, _, _, hexec, rfl, rfl, rfl, fun x => ?_, hgo, hend, hfault, hnofault, hchannel, fun d hd => ?_, fun p => ⟨?_, ?_, ?_⟩, ?_⟩
  · rw [hmem, memRead_blockWrites hwf hr hlow (by omega)]
  · rw [hothers d hd, hnchannel]
  · rw [← hvport, ← (hnport p).1]
    by_cases hp : (r.code = .done ∧ memRead s.memory (chain.next.toNat + 4) ≠ 0 ∧ 256 ≤ chain.count) ∧
        (n.channel c).faultPorts.names p = true
    · rw [hraise p hp, PortState.note_event_channelSummary]
    · rw [hquiet p hp]
  · intro hlimit hnames
    rw [hraise p ⟨hlimit, by rw [hnchannel]; exact hnames⟩, PortState.note_event_eventSummary, (hnport p).2, hvport]
    rfl
  · intro hp
    rw [hquiet p (by rw [hnchannel]; exact hp), (hnport p).2, hvport]
  · have hvframe := frame_of_notices hnframe hframe
    rw [hmem, ← hkeep]
    generalize memWriteAll u.memory (blockWrites chain.next.toNat r) = m at hvframe ⊢
    conv_lhs => rw [hvframe]
    rw [hu]
    rfl

end

end Sys2Proof.Machine
end

section
/-! PROOFS. The turn of the engine, block by block (R177–R179). -/

namespace Sys2Proof.Machine

section
variable {s : State} {c : Channel} {chain : Chain} {left : List Request}

/-- A turn that carries a command out with these operands runs it as its row does. -/
theorem turnRuns_of (ho : engineOpen s = true) (hm : Memory.wf s.memory) (hn : servedNext s c)
    (ht : takesBlock (s.channel c) chain left) (hv : validBlockAddress chain.next = true) {cmd : Command}
    (hcode : commandOf (memRead s.memory chain.next.toNat) = some cmd) {op : Nat → Word} {used : Reply → Option Word}
    (hused : used (.badOperand 0) = none) {b : Buffer}
    (hb : b = ⟨memRead s.memory (chain.next.toNat + 6), memRead s.memory (chain.next.toNat + 7)⟩)
    (hd : carryOut (readBlock s.memory chain.next.toNat) chain.origin (s.serving c chain left) =
      ((cmd.run chain.origin op b (s.serving c chain left)).1,
        { (cmd.run chain.origin op b (s.serving c chain left)).2 with
          used := used (cmd.run chain.origin op b (s.serving c chain left)).2 })) :
    turnRuns s c chain left op used := by
  have hopen : engineOpen (s.serving c chain left) = true := ho
  have hback := cmd.run_handsBack chain.origin op b (s.serving c chain left)
  have hrow := commandRow_spec cmd chain.origin op b
  rw [code_of_commandOf hcode] at hrow
  unfold turnRuns
  rw [← hb]
  rcases hrow with ⟨i, hi, hexec⟩ | ⟨hnone, hrun⟩
  · rw [hi]
    generalize hdone : cmd.run chain.origin op b (s.serving c chain left) = d at hd hback
    have hanswer (u : State) (hu : u = { d.1 with memory := writeBuffer d.1.memory b d.2.out, reply := u.reply }) :
        turnAnswers s c chain u { d.2 with used := used d.2 } :=
      turnAnswers_of ho hm hn ht hv hd hback.placed hback.keeps (hb ▸ hu)
    have hexec := hexec (s.serving c chain left)
    unfold Command.rowBuffer at hexec
    cases hw : cmd.writesBuffer with
    | true =>
      rw [hw, if_pos rfl, runDirect_buffer hopen, hdone] at hexec
      exact ⟨_, d.2, hexec, rfl, hanswer _ rfl⟩
    | false =>
      have hout : d.2.out = [] := hback.out.resolve_left (by simp [hw])
      rw [hw, if_neg (by decide), runDirect_open hopen, hdone] at hexec
      refine ⟨_, d.2, hexec, rfl, hanswer _ ?_⟩
      rw [hout]
      rfl
  · rw [hnone]
    rw [hrun] at hd
    have hr : ({ Reply.badOperand 0 with used := used (.badOperand 0) } : Reply) =
        { code := .badOperand, results := [(8, 0)], used := none, out := [] } := by
      rw [hused]
      rfl
    rw [hr] at hd
    exact turnAnswers_of ho hm hn ht hv hd ⟨by simp, by simp⟩ rfl rfl

/-- A block refused. -/
theorem turnAnswers_refuse (ho : engineOpen s = true) (hm : Memory.wf s.memory) (hn : servedNext s c)
    (ht : takesBlock (s.channel c) chain left) (hv : validBlockAddress chain.next = true) {r : Response}
    (hd : carryOut (readBlock s.memory chain.next.toNat) chain.origin (s.serving c chain left) =
      (s.serving c chain left, .refuse r)) : turnAnswers s c chain (s.serving c chain left) (.refuse r) :=
  turnAnswers_of ho hm hn ht hv hd ⟨.nil, by simp [Reply.refuse]⟩ rfl rfl

end

/-! ## The words of a READ CLOCK block -/

theorem lookup_zipIdx (ws : List Word) (k n : Nat) :
    ((ws.zipIdx k).map fun p => (p.2, p.1)).lookup n = if k ≤ n then ws[n - k]? else none := by
  induction ws generalizing k with
  | nil => simp
  | cons w ws ih =>
    rw [List.zipIdx_cons, List.map_cons, List.lookup_cons, ih]
    rcases Nat.lt_trichotomy n k with h | h | h
    · have hne : (n == k) = false := by simp; omega
      rw [hne, if_neg (by omega), if_neg (by omega)]
    · subst h
      simp
    · have hne : (n == k) = false := by simp; omega
      rw [hne, if_pos (by omega), if_pos (by omega), show n - k = n - (k + 1) + 1 by omega, List.getElem?_cons_succ]

theorem fromWord8_lookup (ws : List Word) (n : Nat) : (fromWord8 ws).lookup n = if 8 ≤ n then ws[n - 8]? else none :=
  lookup_zipIdx ws 8 n

/-- The seven results of READ CLOCK (R10). -/
def clockWords (s : State) : List Word :=
  [word s.time.clock.day, word s.time.clock.minute, word s.time.clock.second, word s.time.epochWeekday,
   word ((s.time.clock.day + s.time.epochWeekday) % 7), word (bit s.time.clockUnset + 2 * bit s.time.dayLimit),
   BitVec.ofInt 16 s.time.slew]

theorem cmdReadClock_serving (s : State) (c : Channel) (chain : Chain) (left : List Request) :
    cmdReadClock (s.serving c chain left) = (s.serving c chain left, .done (clockWords s)) := rfl

/-- The words that a block of seven results holds after its answer. -/
theorem block_words_of_seven {ws : List Word} (hws : ws.length = 7) (a x : Nat) (m : Word) :
    (if x = a + 3 then 0
      else if x = a + 1 then Response.done.number
      else if x = a + 7 then (none : Option Word).getD m
      else if a + 8 ≤ x ∧ x < a + 16 then ((fromWord8 ws).lookup (x - a)).getD m
      else m) =
    if x = a + 1 ∨ x = a + 3 then 0 else if a + 8 ≤ x ∧ x < a + 15 then ws.getD (x - (a + 8)) 0 else m := by
  by_cases h3 : x = a + 3
  · rw [if_pos h3, if_pos (.inr h3)]
  rw [if_neg h3]
  by_cases h1 : x = a + 1
  · rw [if_pos h1, if_pos (.inl h1)]
    rfl
  have hneither : ¬ (x = a + 1 ∨ x = a + 3) := by omega
  rw [if_neg h1, if_neg hneither]
  by_cases h7 : x = a + 7
  · rw [if_pos h7, if_neg (by omega)]
    rfl
  rw [if_neg h7]
  by_cases hr : a + 8 ≤ x ∧ x < a + 16
  · rw [if_pos hr, fromWord8_lookup, if_pos (by omega), show x - a - 8 = x - (a + 8) by omega]
    by_cases hlast : x < a + 15
    · rw [if_pos ⟨hr.1, hlast⟩, List.getD_eq_getElem?_getD, List.getElem?_eq_getElem (by omega)]
      rfl
    · rw [if_neg (by omega), List.getElem?_eq_none (by omega)]
      rfl
  · rw [if_neg hr, if_neg (by omega)]

/-! ## Turns told whole -/

section
variable {s : State} {c : Channel} {chain : Chain} {left : List Request}

/-- What a turn leaves whose command changed nothing: every field said. -/
theorem turnAnswers_served {r : Reply} (h : turnAnswers s c chain (s.serving c chain left) r) :
    ∃ t, exec .engineTurn s = .next t ∧
      (∀ x, memRead t.memory x =
        if x = chain.next.toNat + 3 then 0
        else if x = chain.next.toNat + 1 then r.code.number
        else if x = chain.next.toNat + 7 then r.used.getD (memRead s.memory x)
        else if chain.next.toNat + 8 ≤ x ∧ x < chain.next.toNat + 16 then
          (r.results.lookup (x - chain.next.toNat)).getD (memRead s.memory x)
        else memRead s.memory x) ∧
      t.channel c =
        { s.channel c with
          queue := left
          chain :=
            if r.code = .done ∧ memRead s.memory (chain.next.toNat + 4) ≠ 0 ∧ chain.count < 256 then
              some { chain with next := memRead s.memory (chain.next.toNat + 4) }
            else none
          fault :=
            if r.code = .done ∧ memRead s.memory (chain.next.toNat + 4) ≠ 0 ∧ 256 ≤ chain.count then .chainLimit
            else (s.channel c).fault } ∧
      (∀ d, d ≠ c → t.channel d = s.channel d) ∧
      (∀ p,
        (t.portState p).channelSummary = (s.portState p).channelSummary |||
          (if (memRead s.memory (chain.next.toNat + 2)).getLsbD (if p = .bus then 0 else 1) = true then 1 <<< (c.val + 8) else 0) ∧
        (t.portState p).eventSummary =
          if (r.code = .done ∧ memRead s.memory (chain.next.toNat + 4) ≠ 0 ∧ 256 ≤ chain.count) ∧
              (s.channel c).faultPorts.names p = true then (s.portState p).eventSummary ||| 0x20
          else (s.portState p).eventSummary) ∧
      t = { s with
            memory := t.memory
            control :=
              { s.control with
                channels := t.control.channels, lastServed := c, arbiter := .engine, bus := t.control.bus
                link := t.control.link } } := by
  obtain ⟨t, a, link, limit, hexec, rfl, rfl, rfl, hmem, hgo, hend, hfault, hnofault, hchannel, hothers, hports, hframe⟩ := h
  have hserving : (s.serving c chain left).channel c = { s.channel c with chain := some chain, queue := left } :=
    (serving_channel c).trans (if_pos rfl)
  have hserved (d : Channel) (hd : d ≠ c) : (s.serving c chain left).channel d = s.channel d := (serving_channel d).trans (if_neg hd)
  have hport (p : Port) : (s.serving c chain left).portState p = s.portState p := by cases p <;> rfl
  rw [hserving] at hnofault hchannel
  simp only [hserving, hport] at hports
  refine ⟨t, hexec, hmem, ?_, fun d hd => (hothers d hd).trans (hserved d hd), fun p => ⟨(hports p).1, ?_⟩, hframe⟩
  · have hchain : (t.channel c).chain =
        if r.code = .done ∧ memRead s.memory (chain.next.toNat + 4) ≠ 0 ∧ chain.count < 256 then
          some { chain with next := memRead s.memory (chain.next.toNat + 4) }
        else none := by
      split
      · next h => exact hgo h
      · next h => exact hend h
    have hcell : (t.channel c).fault =
        if r.code = .done ∧ memRead s.memory (chain.next.toNat + 4) ≠ 0 ∧ 256 ≤ chain.count then .chainLimit
        else (s.channel c).fault := by
      split
      · next h => exact hfault h
      · next h => exact hnofault h
    rw [hchain, hcell] at hchannel
    exact hchannel
  · obtain ⟨-, hraise, hquiet⟩ := hports p
    split
    · next h => exact hraise h.1 h.2
    · next h => exact hquiet h

end

/-- Settles O54. -/
theorem engineTurnServesOneBlock : Obligations.EngineTurnServesOneBlock := by
  intro s ho hm
  refine ⟨congrArg Host.Outcome.next (engineTurnAmong_alone s hm).symm, fun h => congrArg Host.Outcome.next (engineTurn_idle ho h),
    fun c chain left a hn ht ha => ⟨fun hbad => ?_, fun h1 h2 h3 => ?_⟩⟩
  · subst ha
    have hv : validBlockAddress chain.next = false := by
      rw [← Bool.not_eq_true, validBlockAddress_iff]
      omega
    have hexec := congrArg (Host.Outcome.next (φ := Fault) (ρ := Refusal)) (engineTurn_badPointer ho hn ht hv)
    have hspec := channelFault_spec c .badPointer
      (setLastServed c (s.setChannel c { s.channel c with chain := some chain, queue := left })) _ rfl
    have htaken (d : Channel) : (setLastServed c (s.setChannel c { s.channel c with chain := some chain, queue := left })).channel d =
        if d = c then { s.channel c with chain := some chain, queue := left } else s.channel d := channel_setChannel s c d _
    have hports (p : Port) : (setLastServed c (s.setChannel c { s.channel c with chain := some chain, queue := left })).portState p =
        s.portState p := by cases p <;> rfl
    rw [htaken, if_pos rfl] at hspec
    simp only [hports] at hspec
    obtain ⟨hchannel, hothers, hport, hframe⟩ := hspec
    refine ⟨_, hexec, hchannel, fun d hd => ?_, fun p => ?_, hframe⟩
    · rw [hothers d hd, htaken, if_neg hd]
    · rw [hport]
      by_cases hp : (s.channel c).faultPorts.names p = true
      · rw [if_pos hp, if_pos hp]
        exact ⟨PortState.note_event_channelSummary .., PortState.note_event_eventSummary ..⟩
      · rw [if_neg hp, if_neg hp]
        exact ⟨rfl, BitVec.or_zero.symm⟩
  · subst ha
    have hv := (validBlockAddress_iff chain.next).mpr ⟨h1, h2, h3⟩
    have hoperands (i : Nat) (hi : i < 8) :
        operandsOf (readBlock s.memory chain.next.toNat).operands i = memRead s.memory (chain.next.toNat + 8 + i) :=
      operandsOf_range (fun i => memRead s.memory (chain.next.toNat + 8 + i)) hi
    refine ⟨fun hcode hmode => ?_, fun hunknown => ?_, fun hknown => ⟨fun hinline => ?_, fun hnobuffer => ⟨_, rfl, fun hmode hfits => ?_,
      fun hmode r hr => ?_, fun hmode => ?_⟩⟩⟩
    · have hcommand : commandOf (readBlock s.memory chain.next.toNat).code = some .readClock :=
        (congrArg commandOf hcode).trans (by decide)
      have hd := carryOut_inline chain.origin (s.serving c chain left) hcommand (.inr hmode)
      have hanswer : turnAnswers s c chain (s.serving c chain left) (.done (clockWords s)) :=
        turnAnswers_of ho hm hn ht hv (hd.trans (cmdReadClock_serving ..)) (fromWord8_placed (by simp [clockWords])) rfl rfl
      obtain ⟨t, hexec, hmem, hchannel, hothers, hports, hframe⟩ := turnAnswers_served hanswer
      refine ⟨t, hexec, fun x => (hmem x).trans (block_words_of_seven rfl ..), ?_, hothers, fun p => ⟨(hports p).1, ?_⟩, hframe⟩
      · rw [hchannel]
        generalize memRead s.memory (chain.next.toNat + 4) = link
        have hgo : (link ≠ 0 ∧ chain.count < 256) ↔ ¬ (link = 0 ∨ 256 ≤ chain.count) := by rw [not_or, Nat.not_le]
        simp only [Reply.done, true_and, hgo, ite_not]
      · rw [(hports p).2]
        simp only [Reply.done, true_and, and_assoc]
        split
        · rfl
        · exact BitVec.or_zero.symm
    · have hd := carryOut_unknown (b := readBlock s.memory chain.next.toNat) chain.origin (s.serving c chain left)
        ((commandOf_none_iff _).mpr hunknown)
      obtain ⟨t, hexec, hmem, hchannel, hothers, hports, hframe⟩ := turnAnswers_served (turnAnswers_refuse ho hm hn ht hv hd)
      have hcode : ¬ (Reply.refuse .badCommand).code = .done := by decide
      refine ⟨t, hexec, fun x => ?_, ?_, hothers, fun p => ⟨?_, (hports p).1⟩, hframe⟩
      · rw [hmem]
        by_cases h1 : x = chain.next.toNat + 1
        · rw [if_pos h1, if_neg (by omega), if_pos h1]
          rfl
        · rw [if_neg h1, if_neg h1]
          refine if_congr .rfl rfl ?_
          split
          · rfl
          · split <;> rfl
      · rw [hchannel, if_neg fun h => hcode h.1, if_neg fun h => hcode h.1]
      · rw [(hports p).2, if_neg fun h => hcode h.1.1]
    · obtain ⟨cmd, hcmd⟩ := Option.ne_none_iff_exists'.mp (mt (commandOf_none_iff _).mp (not_not.mpr hknown))
      have hmode : cmd.namesBuffer = true ∨ (readBlock s.memory chain.next.toNat).mode = 0 :=
        hinline.imp_left fun h => (namesBuffer_iff cmd).mpr (by rwa [code_of_commandOf hcmd])
      have hd := carryOut_inline chain.origin (s.serving c chain left) hcmd hmode
      rw [cmd.run_congr _ hoperands] at hd
      exact turnRuns_of ho hm hn ht hv hcmd rfl rfl hd
    all_goals
      obtain ⟨cmd, hcmd⟩ := Option.ne_none_iff_exists'.mp (mt (commandOf_none_iff _).mp (not_not.mpr hknown))
      have hnames : cmd.namesBuffer = false := by
        rw [← Bool.not_eq_true, namesBuffer_iff, code_of_commandOf hcmd]
        exact hnobuffer
    · have hd := carryOut_buffer (b := readBlock s.memory chain.next.toNat) chain.origin (s.serving c chain left) hcmd hnames hmode ((checkBuffer_none ..).mpr hfits)
      have hwords (i : Nat) (hi : i < 8) :
          operandsOf (bufferWords (s.serving c chain left).memory (readBlock s.memory chain.next.toNat).buffer 8) i =
            bufferWord s.memory ⟨memRead s.memory (chain.next.toNat + 6), memRead s.memory (chain.next.toNat + 7)⟩ i :=
        operandsOf_range (bufferWord s.memory _) hi
      rw [cmd.run_congr _ hwords] at hd
      exact turnRuns_of ho hm hn ht hv hcmd (by decide) rfl hd
    · exact turnAnswers_refuse ho hm hn ht hv
        (carryOut_buffer_refused (b := readBlock s.memory chain.next.toNat) chain.origin (s.serving c chain left) hcmd hnames hmode ((checkBuffer_some ..).mpr hr))
    · exact turnAnswers_refuse ho hm hn ht hv (carryOut_bad_mode (b := readBlock s.memory chain.next.toNat) chain.origin (s.serving c chain left) hcmd hnames hmode)

end Sys2Proof.Machine
end
